-- ==== Sys2Proof/Word.lean ====
section
/-! DEFINITION. The numbers the manual treats as bits, and the small index types of bins and gates. -/
namespace Sys2Proof

/-- One byte, of a host transaction, of the external memory or of the code reader. -/
abbrev Byte := BitVec 8

/-- A 16-bit line field: a used count, a digest or a check (02 R31, R33). -/
abbrev Word16 := BitVec 16

/-- A cleat number 0 to 255; sums and differences are modulo 256 (00 Conventions, Cleat arithmetic). -/
abbrev Cleat := BitVec 8

/-- A container's tag 0 to 255 (06 R101). -/
abbrev Tag := BitVec 8

/-- A 48-bit article code (08 R133). -/
abbrev Code := BitVec 48

/-- A four-bit field of the Station Line frame (02 R31). -/
abbrev Nibble := BitVec 4

/-- One conversion of the analog converter, 0 to 1023 (07 R119). -/
abbrev Sample := BitVec 10

/-- Bins 0 to 8; bin 0 is the end bin (04 R71). -/
abbrev BinNo := Fin 9

/-- Gates 1 to 8, counted from 0; gate `g` stands at bin `g.succ` (01 1.5). -/
abbrev Gate := Fin 8

/-- The 16 bytes of one entry of the article table (08 R133). -/
abbrev EntryBytes := Vector Byte 16

/-- The 128 bytes of one group of the article table, entry by entry (08 R135). -/
abbrev GroupBytes := Vector EntryBytes 8

end Sys2Proof
end

