-- ==== Sys2Proof/Machine/Crc.lean ====
section
/-! DEFINITION. The two checks of the manual: CRC-16 of the line and the digest (02 R33, 05 R91), and CRC-8 of the
host transactions (11 R176); both over bits in sending order, most significant bit first. -/
namespace Sys2Proof
namespace Machine

/-- The bits of a field, most significant first (02, 2.4). -/
def fieldBits {w : Nat} (v : BitVec w) : List Bool := (List.range w).reverse.map v.getLsbD

/-- One bit of a CRC with the given polynomial. -/
def crcStep {w : Nat} (poly crc : BitVec w) (bit : Bool) : BitVec w :=
  if crc.msb == bit then crc <<< 1 else (crc <<< 1) ^^^ poly

/-- CRC-16, polynomial 0x1021, initial value 0xFFFF, no final inversion (02 R33). -/
def crc16 (bits : List Bool) : Word16 := bits.foldl (crcStep 0x1021#16) 0xFFFF#16

/-- CRC-8, polynomial 0x07, initial value 0, no final inversion (11 R176). -/
def crc8 (bytes : List Byte) : Byte := (bytes.flatMap fieldBits).foldl (crcStep 0x07#8) 0#8

/-- The digest over the capacities of bins 1 to 8, each as two bytes, high byte first (05 R91). -/
def digestOf (capacity : Vector Nat 8) : Word16 :=
  crc16 (capacity.toList.flatMap fun c => fieldBits (BitVec.ofNat 16 c))

end Machine
end Sys2Proof
end

