-- ==== Sys2Proof/Config.lean ====
section
/-! DEFINITION. What the part fixes once: its fixed times and limits, the thresholds' names, and the free
values of the manual (opaque: no proof can see them). -/
namespace Sys2Proof

/-- The heat stage of the drive output stage (09 R161). -/
inductive HeatStage where
  | normal | warm | hot
  deriving DecidableEq, Repr, Inhabited

namespace Config

/-- EntryTime, 3 s, in milliseconds (06 R103). -/
def entryTime : Nat := 3000
/-- ReadTime, 1 s (06 R105). -/
def readTime : Nat := 1000
/-- The scan gap time, 20 ms (07 R124). -/
def scanGapTime : Nat := 20
/-- StoreBusyTime, 50 ms (08 R145). -/
def storeBusyTime : Nat := 50
/-- The clean running time that clears a retry count, 2 s (09 R157). -/
def cleanRunTime : Nat := 2000
/-- The retry limit of every drive channel (09 R152). -/
def retryLimit : Nat := 3
/-- The cool-off of the line driver in bit times (02 R29). -/
def driverCoolOffBits : Nat := 1000
/-- The line overloads that make the driver FAULTED (02 R29). -/
def overloadLimit : Nat := 3
/-- The bit times above the driver limit that the overload timer holds (02 R28, R29). -/
def overloadBits : Nat := 16
/-- The bit times for which a Wake pulse is driven (02 R27). -/
def wakePulseBits : Nat := 60
/-- The failed attempts at which a frame is dropped (02 R42). -/
def attemptLimit : Nat := 4
/-- Places of the transmit queue, and those that a frame outside LOAD, RELEASE and JOIN may use (02 R43, R44). -/
def queuePlaces : Nat := 8
/-- Places that frames of other kinds may fill (02 R44). -/
def queuePlacesOther : Nat := 6
/-- Places of the hold queue (06 R101). -/
def holdPlaces : Nat := 4
/-- Places of the given-up list (03 R47). -/
def givenUpPlaces : Nat := 2
/-- Tally lines of one session (10 R164). -/
def tallyLimit : Nat := 24
/-- The most containers on one tally line (10 R164). -/
def lineLimit : Nat := 999
/-- The largest session total in cents (10 R164). -/
def totalLimit : Nat := 500000
/-- The sequence value at which the vouchers are exhausted, 2^20 - 1 (10 R171). -/
def lastSequence : Nat := 1048575
/-- The weight of the station number in a voucher number, 2^20 (10 R171). -/
def voucherBase : Nat := 1048576
/-- Entries of the voucher history (10 R173). -/
def historyPlaces : Nat := 8
/-- The largest used count (04 R73). -/
def usedLimit : Nat := 65534

/-- FREE VALUE (log 6), one for each draw. The position that READER FAULT names for an error found at the seventeenth
character of a message, while the detail's range is 1 to 16 (07 R131, R132). -/
opaque lateFaultPosition : Nat → Nat

/-- FREE VALUE (log 7), one for each draw. The former stage in the THERMAL notice that power-on reset raises: the manual
names no stage before power-on (09 R161). -/
opaque powerOnFormerStage : Nat → HeatStage

/-- FREE VALUE (log 49), one for each draw. The bits of a Wake pulse, each `true` where the line current was above the driver
limit (02 R27, R28); the pulse's row carries no measurement. -/
opaque wakePulseCurrent : Nat → Vector Bool wakePulseBits

end Config
end Sys2Proof
end

