-- ==== Sys2Proof/Syntax.lean ====
section
/-! DEFINITION. The commands of the part, one constructor per row of spec/opcode_table.json, with the operands
that the row's rule gives it: the payload of a host request, the fields of a Taken frame, the level or the
conversions that a machine line brings. -/
namespace Sys2Proof

/-- Why a host transaction is bad (11 R176, reason codes 6 to 8). -/
inductive BadReason where
  | check | length | code
  deriving DecidableEq, Repr

/-- The drive channels in the order of 09 R151. -/
inductive Channel where
  | entry | hold | flap
  | gate (g : Gate)
  deriving DecidableEq, Repr

/-- The error a station found in a frame: a stuff violation (02 R32), a bit error of its own frame (R36), or a
check mismatch (R33). -/
inductive FrameFault where
  | stuffViolation | bitError | checkMismatch
  deriving DecidableEq, Repr

/-- The bits this station drove, in order, each `true` where its line current was above the driver limit (02 R28). A
command that ends a frame gives those driven from the frame's start bit on, with its slots and its objection run, or since
the last overload in it (log 27). -/
abbrev LineCurrent := List Bool

/-- What the station read of a Taken frame beside its fields: the Echo slot (02 R41) and its line current (R29). -/
structure Reception where
  /-- the Echo slot was read driven -/
  echo : Bool
  current : LineCurrent
  deriving DecidableEq, Repr

/-- What a receiver made of the check of an objected frame (02 R33, R39): a good one, or a mismatch, with the kind and the
sender as they were read (R30). -/
inductive CheckRead where
  | good
  | bad (kind sender : Nibble)
  deriving DecidableEq, Repr

/-- A crossing of a temperature threshold (09 R161). -/
inductive HeatCrossing where
  | above130 | above160 | below140 | below120
  deriving DecidableEq, Repr

/-- The four settings of one drive channel, each the position of its choice in the lists of 09 R152. -/
structure DriveSetting where
  currentLimit : Nat
  graceTime : Nat
  faultResponse : Nat
  coolOff : Nat
  deriving DecidableEq, Repr

/-- Priority and enable of one notice kind (11 R182); enable is 1 for enabled. -/
structure NoticeSetting where
  priority : Nat
  enable : Nat
  deriving DecidableEq, Repr

/-- The fields of the configuration record in the order of the table of 11 R179, each as the number that the
payload carries (R176): a list field as the position of its choice, a set or clear field as 1 or 0, QueryTime in
tenths of a second. -/
structure Configuration where
  stationNumber : Nat
  lineRate : Nat
  deglitch : Nat
  clearDistance : Nat
  commitLead : Nat
  minLead : Nat
  maxLead : Nat
  holdWait : Nat
  sortDuty : Nat
  gateDistance : Vector Nat 8
  capacity : Vector Nat 8
  drive : Vector DriveSetting 11
  flapTime : Nat
  scanFirst : Nat
  scanLast : Nat
  shadowThreshold : Nat
  metalThreshold : Nat
  readerRate : Nat
  tableGroups : Nat
  storeLatency : Nat
  hostQueries : Nat
  idleTime : Nat
  queryTime : Nat
  dozeDelay : Nat
  keepCache : Nat
  wakePeers : Nat
  notice : Vector NoticeSetting 22
  deriving DecidableEq, Repr

/-- The commands: host requests (11 R178), the events of the belt, the line, the eyes, the analog inputs, the
code reader, the external memory and the drives, and the expiries of the part's timers. -/
inductive Instr where
  -- power and host requests
  /-- POWER_ON_RESET (11 R179), with the output stage's temperature in °C (09 R161) -/
  | powerOnReset (temperature : Int)
  | setConfiguration (carried : Configuration)
  | start
  | readStatus
  | readNotices
  | readMap (first count : Nat)
  | readBins
  | readPath
  | readSession
  | closeSession
  | takeVoucher
  | readHistory
  /-- ARTICLE_ANSWER (08 R148): kind 0 RECORD, 1 NONE; cache option 1 set, 0 clear; the record of kind RECORD -/
  | articleAnswer (code kind : Nat) (record : EntryBytes) (cacheOption : Nat)
  | revokeArticle (code : Nat)
  | storeRead (address length : Nat)
  /-- STORE_WRITE (08 R145); the carried length is the number of data bytes -/
  | storeWrite (address : Nat) (data : List Byte)
  | binSet (bin used : Nat)
  | binHold (bin : Nat)
  | binOpen (bin : Nat)
  | grantDoze
  | deepRest
  | wake
  | restart
  /-- CLEAR_DRIVE (09 R163): position 0 the line driver, 1 ENTRY, 2 HOLD, 3 FLAP, 4 to 11 GATE1 to GATE8 -/
  | clearDrive (channel : Nat)
  | clearJam
  | badRequest (reason : BadReason)
  | emptyTransaction
  -- the belt: `landing` is the landing eye's level, item or empty (01 R14)
  | pitchMark (landing : Bool)
  | homeMark (landing : Bool)
  -- the Station Line
  | frameStart
  | arbitrationLost
  | arbitrationWon
  /-- FRAME_ERROR (02 R38): the kind and sender as far as they were read (R30) -/
  | frameError (error : FrameFault) (kind sender : Option Nibble) (current : LineCurrent)
  /-- FRAME_OBJECTED (02 R42): the Echo slot read driven; what the check was found to be (R39, R41) -/
  | frameObjected (echo : Bool) (check : CheckRead) (current : LineCurrent)
  | claimTaken (rx : Reception) (sender : Nibble) (cleat : Cleat) (bin : Nibble) (used : Word16)
  | releaseTaken (rx : Reception) (sender : Nibble) (cleat : Cleat)
  | loadTaken (rx : Reception) (sender : Nibble) (cleat : Cleat) (bin material : Nibble) (used : Word16)
  | strayTaken (rx : Reception) (sender : Nibble) (cleat : Cleat)
  | misrouteTaken (rx : Reception) (sender : Nibble) (cleat : Cleat) (bin : Nibble) (used : Word16)
  | binSetTaken (rx : Reception) (sender : Nibble) (bin : Nibble) (used : Word16)
  | binHoldTaken (rx : Reception) (sender : Nibble) (bin cause : Nibble)
  | binOpenTaken (rx : Reception) (sender : Nibble) (bin : Nibble)
  | countsTaken (rx : Reception) (sender : Nibble) (digest : Word16) (used : Vector Word16 8)
  | joinTaken (rx : Reception) (sender : Nibble) (digest : Word16)
  | unusedKindTaken (rx : Reception) (sender kind : Nibble)
  | lineBusy
  | lineQuiet
  | lineStuck
  /-- STUCK_CLEARED (02 R25), with the length of the stuck run in bit times -/
  | stuckCleared (length : Nat)
  /-- WAKE_PULSE (02 R26), with the length of the drive run in bit times -/
  | wakePulse (length : Nat)
  | wakePulseSend
  | wakePulseDone
  | driverOverload
  | driverCoolOffEnd
  -- the eyes and the path's timers
  | apertureBlocked
  | apertureClear
  | scanEyeBlocked
  | scanEyeCleared
  | scanGapExpired
  | transferEyeBlocked
  | transferEyeClear
  | entryTimeExpired
  | readTimeExpired
  -- the Scan Unit: rounds by channel 0 to 5 (07 R121); four conversions of channels 6 and 7 (R126)
  | containerScanComplete (rounds : Vector (Vector Sample 6) 4)
  /-- CODE_READER_CHARACTER (07 R130): data bits, parity bit, stop bit at the mark level -/
  | codeReaderCharacter (data : Byte) (parity stop : Bool)
  | watchResult (supply reference : Vector Sample 4)
  -- the Article Unit and the Store port
  | walkGroupRead (group : GroupBytes)
  | queryTimeExpired
  | storeReadEnd (data : List Byte)
  | statusRead (status : Byte)
  | storeBusyTimeExpired
  -- the Drive Unit
  | driveLimitReached (channel : Channel)
  | driveLimitLeft (channel : Channel)
  | graceTimeExpired (channel : Channel)
  | coolOffExpired (channel : Channel)
  | flapTimeExpired
  | cleanRunExpired (channel : Channel)
  | heatStageChange (crossing : HeatCrossing)
  -- the session, rest, and the rows added last
  | idleTimerExpired
  | dozeTimerExpired
  | readerMarkLevelReached
  | writeTransactionEnd
  deriving DecidableEq, Repr

end Sys2Proof
end

