-- ==== Sys2Proof/WellFormed.lean ====
section
/-! DEFINITION. Which commands the partners can give: an operand that travels in whole bytes or as a pulse length
stays in what those carry. The machine gives every command a meaning, well formed or not. -/
namespace Sys2Proof

/-- Every field of a carried configuration fits the bytes the payload gives it (11 R176). -/
def Configuration.fitsPayload (c : Configuration) : Bool :=
  let byte := fun n : Nat => decide (n < 256)
  let word := fun n : Nat => decide (n < 65536)
  byte c.stationNumber && byte c.lineRate && byte c.deglitch && byte c.clearDistance && byte c.commitLead
    && byte c.minLead && byte c.maxLead && word c.holdWait && byte c.sortDuty
    && c.gateDistance.all byte && c.capacity.all word
    && c.drive.all (fun d => byte d.currentLimit && byte d.graceTime && byte d.faultResponse && byte d.coolOff)
    && byte c.flapTime && byte c.scanFirst && byte c.scanLast && word c.shadowThreshold && word c.metalThreshold
    && byte c.readerRate && byte c.tableGroups && byte c.storeLatency && byte c.hostQueries && word c.idleTime
    && byte c.queryTime && word c.dozeDelay && byte c.keepCache && byte c.wakePeers
    && c.notice.all (fun n => byte n.priority && byte n.enable)

/-- The kind codes that name no frame kind: 0 and 11 to 15 (02 R31). -/
def Nibble.isUnusedKind (k : Nibble) : Bool := k == 0#4 || decide (11 ≤ k.toNat)

/-- A command that a partner of the part can give. -/
def Instr.wellFormed : Instr → Bool
  | .setConfiguration c => c.fitsPayload
  | .readMap first count => decide (first < 256) && decide (count < 256)
  | .articleAnswer code kind _ cacheOption =>
      decide (code < 2 ^ 48) && decide (kind < 256) && decide (cacheOption < 256)
  | .revokeArticle code => decide (code < 2 ^ 48)
  | .storeRead address length => decide (address < 2 ^ 24) && decide (length < 256)
  | .storeWrite address data => decide (address < 2 ^ 24) && decide (data.length < 256)
  | .binSet bin used => decide (bin < 256) && decide (used < 65536)
  | .binHold bin => decide (bin < 256)
  | .binOpen bin => decide (bin < 256)
  | .clearDrive channel => decide (channel < 256)
  | .unusedKindTaken _ _ kind => Nibble.isUnusedKind kind
  | .stuckCleared length => decide (200 < length)
  | .wakePulse length => decide (40 ≤ length) && decide (length ≤ 120)
  | .storeReadEnd data => decide (0 < data.length) && decide (data.length ≤ 128)
  | .powerOnReset _ | .start | .readStatus | .readNotices | .readBins | .readPath | .readSession | .closeSession
  | .takeVoucher | .readHistory | .grantDoze | .deepRest | .wake | .restart | .clearJam | .badRequest _
  | .emptyTransaction | .pitchMark _ | .homeMark _ | .frameStart | .arbitrationLost | .arbitrationWon
  | .frameError _ _ _ _ | .frameObjected _ _ _ | .claimTaken _ _ _ _ _ | .releaseTaken _ _ _
  | .loadTaken _ _ _ _ _ _ | .strayTaken _ _ _ | .misrouteTaken _ _ _ _ _ | .binSetTaken _ _ _ _
  | .binHoldTaken _ _ _ _ | .binOpenTaken _ _ _ | .countsTaken _ _ _ _ | .joinTaken _ _ _ | .lineBusy | .lineQuiet
  | .lineStuck | .wakePulseSend | .wakePulseDone | .driverOverload | .driverCoolOffEnd | .apertureBlocked
  | .apertureClear | .scanEyeBlocked | .scanEyeCleared | .scanGapExpired | .transferEyeBlocked | .transferEyeClear
  | .entryTimeExpired | .readTimeExpired | .containerScanComplete _ | .codeReaderCharacter _ _ _ | .watchResult _ _
  | .walkGroupRead _ | .queryTimeExpired | .statusRead _ | .storeBusyTimeExpired | .driveLimitReached _
  | .driveLimitLeft _ | .graceTimeExpired _ | .coolOffExpired _ | .flapTimeExpired | .cleanRunExpired _
  | .heatStageChange _ | .idleTimerExpired | .dozeTimerExpired | .readerMarkLevelReached
  | .writeTransactionEnd => true

end Sys2Proof
end

