-- ==== Sys2Proof/Decode.lean ====
section
/-! DEFINITION. The commands that words of the opcode table spell: spec/opcode_table.json gives no row any bits,
so no word spells one. The bytes of a host transaction are read in Machine/HostFrame.lean. -/
namespace Sys2Proof

/-- The command that a word of the table's bits spells; the table gives no row bits. -/
def decodeTableWord (_nbits _w : Nat) : Option Instr := none

end Sys2Proof
end

