-- ==== Sys2Proof/Machine/Configuration.lean ====
section
/-! DEFINITION. The configuration record: defaults (11 R179, 09 R152, 11 R182), the two passes that settle a carried
record (R180), the list of adjusted fields of its answer, and the readings of its fields by the other blocks. -/
namespace Sys2Proof

/-- A field of the configuration record, for the answer of SET CONFIGURATION; indices count from 0. -/
inductive ConfigField where
  | stationNumber | lineRate | deglitch | clearDistance | commitLead | minLead | maxLead | holdWait | sortDuty
  | gateDistance (g : Nat) | capacity (b : Nat)
  | currentLimit (c : Nat) | graceTime (c : Nat) | faultResponse (c : Nat) | coolOff (c : Nat)
  | flapTime | scanFirst | scanLast | shadowThreshold | metalThreshold | readerRate | tableGroups | storeLatency
  | hostQueries | idleTime | queryTime | dozeDelay | keepCache | wakePeers
  | priority (k : Nat) | enable (k : Nat)
  deriving DecidableEq, Repr

namespace Configuration

/-- The default settings of channel `i` of the eleven: 2 A for ENTRY and HOLD, 3 A and 50 ms for FLAP, 1 A for the
gates; RETRY and 250 ms for all (09 R152). -/
def defaultDrive (i : Nat) : DriveSetting :=
  if i < 2 then { currentLimit := 2, graceTime := 2, faultResponse := 1, coolOff := 1 }
  else if i = 2 then { currentLimit := 3, graceTime := 1, faultResponse := 1, coolOff := 1 }
  else { currentLimit := 1, graceTime := 2, faultResponse := 1, coolOff := 1 }

/-- The default priority of the notice kind at place `k` of the kind order, counted from 0 (11 R182). -/
def defaultPriority (k : Nat) : Nat :=
  if k < 4 then 7 else if k < 8 then 6 else if k < 9 then 5 else if k < 11 then 4 else if k < 13 then 3
  else if k < 19 then 2 else 1

/-- The record with every field at its default (11 R179). -/
def default : Configuration where
  stationNumber := 1
  lineRate := 1
  deglitch := 0
  clearDistance := 96
  commitLead := 3
  minLead := 8
  maxLead := 48
  holdWait := 256
  sortDuty := 0
  gateDistance := Vector.replicate 8 95
  capacity := Vector.replicate 8 1000
  drive := Vector.ofFn fun i => defaultDrive i.val
  flapTime := 80
  scanFirst := 0
  scanLast := 5
  shadowThreshold := 300
  metalThreshold := 512
  readerRate := 0
  tableGroups := 1
  storeLatency := 1
  hostQueries := 0
  idleTime := 60
  queryTime := 20
  dozeDelay := 120
  keepCache := 0
  wakePeers := 0
  notice := Vector.ofFn fun k => { priority := defaultPriority k.val, enable := 1 }

/-- A value inside its fixed range, or else the field's default (11 R180, first pass). -/
def settle (low high dflt v : Nat) : Nat := if low ≤ v ∧ v ≤ high then v else dflt

/-- The first pass of 11 R180: each field against its own fixed range. The lower bounds of MinLead and MaxLead are
cross-field bounds and belong to the second pass. -/
def firstPass (c : Configuration) : Configuration :=
  let clear := settle 8 200 96 c.clearDistance
  { stationNumber := settle 1 12 1 c.stationNumber
    lineRate := settle 0 3 1 c.lineRate
    deglitch := settle 0 1 0 c.deglitch
    clearDistance := clear
    commitLead := settle 1 8 3 c.commitLead
    minLead := settle 0 60 8 c.minLead
    maxLead := settle 0 120 48 c.maxLead
    holdWait := settle 64 1024 256 c.holdWait
    sortDuty := settle 0 1 0 c.sortDuty
    gateDistance := c.gateDistance.map (settle 1 199 (clear - 1))
    capacity := c.capacity.map (settle 1 65000 1000)
    drive := Vector.ofFn fun i =>
      let d := c.drive[i]
      let f := defaultDrive i.val
      { currentLimit := settle 0 3 f.currentLimit d.currentLimit
        graceTime := settle 0 3 f.graceTime d.graceTime
        faultResponse := settle 0 1 f.faultResponse d.faultResponse
        coolOff := settle 0 3 f.coolOff d.coolOff }
    flapTime := settle 40 200 80 c.flapTime
    scanFirst := settle 0 5 0 c.scanFirst
    scanLast := settle 0 5 5 c.scanLast
    shadowThreshold := settle 1 1023 300 c.shadowThreshold
    metalThreshold := settle 1 1023 512 c.metalThreshold
    readerRate := settle 0 1 0 c.readerRate
    tableGroups := settle 0 3 1 c.tableGroups
    storeLatency := settle 1 4 1 c.storeLatency
    hostQueries := settle 0 1 0 c.hostQueries
    idleTime := settle 10 600 60 c.idleTime
    queryTime := settle 5 100 20 c.queryTime
    dozeDelay := settle 10 600 120 c.dozeDelay
    keepCache := settle 0 1 0 c.keepCache
    wakePeers := settle 0 1 0 c.wakePeers
    notice := Vector.ofFn fun k =>
      let n := c.notice[k]
      { priority := settle 0 7 (defaultPriority k.val) n.priority, enable := settle 0 1 1 n.enable } }

/-- 11 R180, step 1: MinLead below CommitLead + 1. -/
def settleMinLead (c : Configuration) : Configuration :=
  if c.minLead < c.commitLead + 1 then
    { c with minLead := 8, commitLead := if 8 < c.commitLead + 1 then 3 else c.commitLead }
  else c

/-- 11 R180, step 2: MaxLead below MinLead. -/
def settleMaxLead (c : Configuration) : Configuration :=
  if c.maxLead < c.minLead then
    let c' := { c with maxLead := 48 }
    if 48 < c'.minLead then settleMinLead { c' with minLead := 8 } else c'
  else c

/-- 11 R180, step 3: MaxLead + ClearDistance above 255. -/
def settleReach (c : Configuration) : Configuration :=
  if 255 < c.maxLead + c.clearDistance then
    let c' := { c with maxLead := 255 - c.clearDistance }
    if c'.maxLead < c'.minLead then settleMinLead { c' with minLead := 8 } else c'
  else c

/-- 11 R180, step 4: each GateDistance above ClearDistance - 1. -/
def settleGates (c : Configuration) : Configuration :=
  { c with gateDistance := c.gateDistance.map fun d => if c.clearDistance - 1 < d then c.clearDistance - 1 else d }

/-- 11 R180, step 5: ScanFirst above ScanLast. -/
def settleScan (c : Configuration) : Configuration :=
  if c.scanLast < c.scanFirst then { c with scanFirst := 0, scanLast := 5 } else c

/-- The record that SET CONFIGURATION takes from the values carried (11 R180). -/
def taken (c : Configuration) : Configuration :=
  settleScan (settleGates (settleReach (settleMaxLead (settleMinLead (firstPass c)))))

/-- The settings of one channel as fields of the record. -/
def driveFields (i : Nat) (d : DriveSetting) : List (ConfigField × Nat) :=
  [(ConfigField.currentLimit i, d.currentLimit), (ConfigField.graceTime i, d.graceTime),
   (ConfigField.faultResponse i, d.faultResponse), (ConfigField.coolOff i, d.coolOff)]

/-- The settings of one notice kind as fields of the record. -/
def noticeFields (k : Nat) (n : NoticeSetting) : List (ConfigField × Nat) :=
  [(ConfigField.priority k, n.priority), (ConfigField.enable k, n.enable)]

/-- The fields before the gate distances. -/
def leadingFields (c : Configuration) : List (ConfigField × Nat) :=
  [(ConfigField.stationNumber, c.stationNumber), (ConfigField.lineRate, c.lineRate),
   (ConfigField.deglitch, c.deglitch), (ConfigField.clearDistance, c.clearDistance),
   (ConfigField.commitLead, c.commitLead), (ConfigField.minLead, c.minLead), (ConfigField.maxLead, c.maxLead),
   (ConfigField.holdWait, c.holdWait), (ConfigField.sortDuty, c.sortDuty)]

/-- The fields between the drive settings and the notice settings. -/
def trailingFields (c : Configuration) : List (ConfigField × Nat) :=
  [(ConfigField.flapTime, c.flapTime), (ConfigField.scanFirst, c.scanFirst), (ConfigField.scanLast, c.scanLast),
   (ConfigField.shadowThreshold, c.shadowThreshold), (ConfigField.metalThreshold, c.metalThreshold),
   (ConfigField.readerRate, c.readerRate), (ConfigField.tableGroups, c.tableGroups),
   (ConfigField.storeLatency, c.storeLatency), (ConfigField.hostQueries, c.hostQueries),
   (ConfigField.idleTime, c.idleTime), (ConfigField.queryTime, c.queryTime), (ConfigField.dozeDelay, c.dozeDelay),
   (ConfigField.keepCache, c.keepCache), (ConfigField.wakePeers, c.wakePeers)]

/-- The fields and their numbers in the order of the table of 11 R179. -/
def fields (c : Configuration) : List (ConfigField × Nat) :=
  List.flatten
    [c.leadingFields,
     (List.finRange 8).map (fun g => (ConfigField.gateDistance g.val, c.gateDistance[g])),
     (List.finRange 8).map (fun b => (ConfigField.capacity b.val, c.capacity[b])),
     (List.finRange 11).flatMap (fun i => driveFields i.val c.drive[i]),
     c.trailingFields,
     (List.finRange 22).flatMap (fun k => noticeFields k.val c.notice[k])]

/-- The answer of SET CONFIGURATION: each field whose value differs from the value carried, with the value carried
and the value taken (11 R180). -/
def adjusted (carried took : Configuration) : List (ConfigField × Nat × Nat) :=
  ((carried.fields.zip took.fields).filter fun p => p.1.2 != p.2.2).map fun p => (p.1.1, p.1.2, p.2.2)

/-- Every bound of the table of 11 R179, those between the fields among them. -/
def MeetsBounds (c : Configuration) : Prop :=
  (1 ≤ c.stationNumber ∧ c.stationNumber ≤ 12)
  ∧ (c.lineRate ≤ 3 ∧ c.deglitch ≤ 1)
  ∧ (8 ≤ c.clearDistance ∧ c.clearDistance ≤ 200)
  ∧ (1 ≤ c.commitLead ∧ c.commitLead ≤ 8)
  ∧ (c.commitLead + 1 ≤ c.minLead ∧ c.minLead ≤ 60)
  ∧ (c.minLead ≤ c.maxLead ∧ c.maxLead ≤ 120 ∧ c.maxLead + c.clearDistance ≤ 255)
  ∧ (64 ≤ c.holdWait ∧ c.holdWait ≤ 1024)
  ∧ c.sortDuty ≤ 1
  ∧ (∀ g : Fin 8, 1 ≤ c.gateDistance[g] ∧ c.gateDistance[g] ≤ c.clearDistance - 1)
  ∧ (∀ b : Fin 8, 1 ≤ c.capacity[b] ∧ c.capacity[b] ≤ 65000)
  ∧ (∀ i : Fin 11, c.drive[i].currentLimit ≤ 3 ∧ c.drive[i].graceTime ≤ 3 ∧ c.drive[i].faultResponse ≤ 1
      ∧ c.drive[i].coolOff ≤ 3)
  ∧ (40 ≤ c.flapTime ∧ c.flapTime ≤ 200)
  ∧ (c.scanFirst ≤ c.scanLast ∧ c.scanLast ≤ 5)
  ∧ (1 ≤ c.shadowThreshold ∧ c.shadowThreshold ≤ 1023)
  ∧ (1 ≤ c.metalThreshold ∧ c.metalThreshold ≤ 1023)
  ∧ (c.readerRate ≤ 1 ∧ c.tableGroups ≤ 3)
  ∧ (1 ≤ c.storeLatency ∧ c.storeLatency ≤ 4)
  ∧ c.hostQueries ≤ 1
  ∧ (10 ≤ c.idleTime ∧ c.idleTime ≤ 600)
  ∧ (5 ≤ c.queryTime ∧ c.queryTime ≤ 100)
  ∧ (10 ≤ c.dozeDelay ∧ c.dozeDelay ≤ 600)
  ∧ (c.keepCache ≤ 1 ∧ c.wakePeers ≤ 1)
  ∧ (∀ k : Fin 22, c.notice[k].priority ≤ 7 ∧ c.notice[k].enable ≤ 1)

-- The fields as the other blocks read them.

/-- The bit time in microseconds at the configured line rate (02 R22). -/
def bitTime (c : Configuration) : Nat :=
  match c.lineRate with
  | 0 => 16
  | 1 => 8
  | 2 => 4
  | _ => 2

/-- Sort duty is set (01 R18). -/
def hasSortDuty (c : Configuration) : Bool := c.sortDuty == 1

/-- Host queries are on (08 R147). -/
def queriesOn (c : Configuration) : Bool := c.hostQueries == 1

/-- The number of groups G of the article table (08 R135). -/
def groups (c : Configuration) : Nat :=
  match c.tableGroups with
  | 0 => 256
  | 1 => 1024
  | 2 => 4096
  | _ => 16384

/-- IdleTime in milliseconds (10 R168). -/
def idleTimeMs (c : Configuration) : Nat := c.idleTime * 1000

/-- DozeDelay in milliseconds (11 R185). -/
def dozeDelayMs (c : Configuration) : Nat := c.dozeDelay * 1000

/-- QueryTime in milliseconds (08 R147). -/
def queryTimeMs (c : Configuration) : Nat := c.queryTime * 100

/-- The cool-off of the line driver in milliseconds: 1000 bit times (02 R29). -/
def driverCoolOffMs (c : Configuration) : Nat := Config.driverCoolOffBits * c.bitTime / 1000

end Configuration

namespace DriveSetting

/-- The current limit in milliamperes (09 R152). -/
def limitMilliamps (d : DriveSetting) : Nat :=
  match d.currentLimit with
  | 0 => 500
  | 1 => 1000
  | 2 => 2000
  | _ => 3000

/-- The grace time in milliseconds (09 R152). -/
def graceMs (d : DriveSetting) : Nat :=
  match d.graceTime with
  | 0 => 20
  | 1 => 50
  | 2 => 100
  | _ => 400

/-- The fault response is STOP (09 R152, list STOP, RETRY). -/
def stops (d : DriveSetting) : Bool := d.faultResponse == 0

/-- The cool-off in milliseconds (09 R152). -/
def coolOffMs (d : DriveSetting) : Nat :=
  match d.coolOff with
  | 0 => 100
  | 1 => 250
  | 2 => 500
  | _ => 1000

end DriveSetting
end Sys2Proof
end

