-- ==== Sys2Proof/Machine/State.lean ====
section
/-! DEFINITION. The state of the part, block by block (00_scope.md, Blocks), the commands that wait, the outcomes'
reasons, and the state right after power-on reset. -/
namespace Sys2Proof
namespace Machine

/-- A real-time timer: stopped, or running with the milliseconds it has run. -/
abbrev Timer := Option Nat

-- Cleat Map and Bin Table

/-- Materials 1 to 5 (08 R133). -/
inductive Material where
  | pet | can | glass | refillGlass | other
  deriving DecidableEq, Repr

/-- One Cleat Map entry; owner, bin and material stand where 01 R9 makes them present. -/
inductive Entry where
  | free
  | claimed (owner : Nat) (bin : BinNo)
  | loaded (owner : Nat) (bin : BinNo) (material : Material)
  | foreign
  deriving DecidableEq, Repr

/-- The cause of a hold, line codes 1 and 2 (02 R31, 04 R71). -/
inductive HoldCause where
  | staff | gateFault
  deriving DecidableEq, Repr

/-- The state of a bin with the hold cause present while HELD (04 R71). -/
inductive BinState where
  | opened
  | held (cause : HoldCause)
  deriving DecidableEq, Repr

/-- One bin record (04 R71); the capacity is the configuration's, and `used` none is Unknown. -/
structure BinRecord where
  used : Option Nat
  state : BinState
  reportedFull : Bool
  deriving DecidableEq, Repr

/-- The Belt Tracker (01 R2); `current` none is Unknown. -/
structure Belt where
  current : Option Cleat
  pitchCount : Nat
  homeSeen : Bool
  deriving DecidableEq, Repr

/-- The cause of a pitch slip (01 R6). -/
inductive SlipCause where
  | earlyHome | missingHome
  deriving DecidableEq, Repr

-- Membership

/-- The listen phase, with the listen count while COUNTING (05 R86). -/
inductive ListenPhase where
  | waitingHome | joinPending
  | counting (count : Nat)
  deriving DecidableEq, Repr

/-- The membership record (05 R86). -/
inductive Membership where
  | offline
  | listening (phase : ListenPhase)
  | synced | conflict
  deriving DecidableEq, Repr

/-- The membership state without the listen phase, as detail records give it (05 R86). -/
inductive MemberState where
  | offline | listening | synced | conflict
  deriving DecidableEq, Repr

/-- The causes of JOIN STATE (05 R86). -/
inductive JoinCause where
  | start | restart | wakePulse | aperture | wakeRequest | pitchSlip | listenComplete | digest | duplicate
  deriving DecidableEq, Repr

-- The Station Line

/-- The frame kinds with a table entry, codes 1 to 10 (02 R31). -/
inductive FrameKind where
  | release | stray | misroute | load | claim | binHold | binOpen | binSet | counts | join
  deriving DecidableEq, Repr

/-- A frame with its payload fields; used fields hold the line value, 0xFFFF for Unknown (02 R31). -/
inductive Frame where
  | release (cleat : Cleat)
  | stray (cleat : Cleat)
  | misroute (cleat : Cleat) (bin : BinNo) (used : Word16)
  | load (cleat : Cleat) (bin : BinNo) (material : Material) (used : Word16)
  | claim (cleat : Cleat) (bin : BinNo) (used : Word16)
  | binHold (bin : BinNo) (cause : HoldCause)
  | binOpen (bin : BinNo)
  | binSet (bin : BinNo) (used : Word16)
  | counts (digest : Word16) (used : Vector Word16 8)
  | join (digest : Word16)
  deriving DecidableEq, Repr

/-- What a frame of a kind is about: its cleat, its bin, or neither (02 R42, R43). -/
inductive Subject where
  | cleat (c : Cleat)
  | bin (b : BinNo)
  | none
  deriving DecidableEq, Repr

/-- Where a queued frame stands: waiting, being sent in its arbitration field, or being sent after winning (02 R34
to R37). -/
inductive SendPhase where
  | waiting | arbitrating | won
  deriving DecidableEq, Repr

/-- A frame of the transmit queue with its attempt count (02 R42), the mark of a frame that was being sent at a
pitch slip and is not attempted again (01 R7), the mark of a BIN HOLD that the host asked for while the BIN OPEN for
its bin was being sent (04 R82), and the check filled in at its win (02 R37). -/
structure QueuedFrame where
  frame : Frame
  attempts : Nat
  phase : SendPhase
  noRetry : Bool
  behind : Bool
  check : Option Word16
  deriving DecidableEq, Repr

/-- The line condition (02 R24). -/
inductive LineCondition where
  | quiet | busy | stuck
  deriving DecidableEq, Repr

/-- The two levels of the wire (02 R22). -/
inductive WireLevel where
  | drive | rest
  deriving DecidableEq, Repr

/-- The line driver's state (02 R28). -/
inductive DriverState where
  | off | ready | coolOff | faulted
  deriving DecidableEq, Repr

/-- A Wake pulse request (02 R27). -/
inductive WakePulse where
  | none | waiting | driving
  deriving DecidableEq, Repr

/-- What a station drives in the slots of a frame it receives (02 R39): neither, the Echo slot or the Objection slot. -/
inductive SlotDrive where
  | none | echo | objection
  deriving DecidableEq, Repr

/-- The Line Controller (02). -/
structure Line where
  condition : LineCondition
  runLevel : WireLevel
  runLength : Nat
  queue : List QueuedFrame
  driver : DriverState
  driverCoolOff : Timer
  overloadTimer : Nat
  overloadCount : Nat
  aloneCount : Nat
  wake : WakePulse
  /-- the receiver decodes nothing until the next QUIET (02 R24, R38) -/
  missing : Bool
  /-- an objection run is being driven (02 R38) -/
  objecting : Bool
  /-- what the station drives in the slots of the frame on the wire, kept until the next QUIET (02 R39) -/
  slot : SlotDrive
  deriving DecidableEq, Repr

-- Articles

/-- A well-formed article record (08 R133, R134). -/
structure Article where
  code : Code
  deposit : Nat
  material : Material
  bin : BinNo
  weightMin : Nat
  weightMax : Nat
  heightClass : Nat
  flags : Byte
  deriving DecidableEq, Repr

/-- The field that makes an entry malformed, in the order of 08 R133 (R134). -/
inductive MalformedField where
  | deposit | material | bin | weightMin | heightClass
  deriving DecidableEq, Repr

/-- One set of the Article Cache: an invalid way is none; tree bits T0, T1, T2 (08 R139). -/
structure CacheSet where
  ways : Vector (Option Article) 4
  t0 : Bool
  t1 : Bool
  t2 : Bool
  deriving DecidableEq, Repr

/-- The phase of a walk (08 R140). -/
inductive WalkPhase where
  | waitingPort | primary | secondary
  deriving DecidableEq, Repr

/-- A walk (08 R140), with the tag of its lookup (R137) and whether the request was withdrawn (R150). -/
structure Walk where
  code : Code
  tag : Tag
  phase : WalkPhase
  revoked : Bool
  withdrawn : Bool
  deriving DecidableEq, Repr

/-- The lookup state (08 R137); QUERYING is the pending host query (R147). -/
inductive Lookup where
  | idle
  | walking (walk : Walk)
  | querying (code : Code) (tag : Tag)
  deriving DecidableEq, Repr

/-- A host store request (08 R144, R145). -/
inductive StoreRequest where
  | read (address length : Nat)
  | write (address : Nat) (data : List Byte)
  deriving DecidableEq, Repr

/-- Where a host access stands: waiting at the arbiter, in its transactions, or polling the memory's status after
the write transaction (08 R143 to R145). -/
inductive AccessStage where
  | waiting | running | polling
  deriving DecidableEq, Repr

/-- A host access at the arbiter (08 R143). -/
structure HostAccess where
  request : StoreRequest
  stage : AccessStage
  deriving DecidableEq, Repr

/-- The Article Unit (08). -/
structure ArticleUnit where
  lookup : Lookup
  queryTimer : Timer
  /-- a lookup that waits for a withdrawn walk to end (08 R150) -/
  waiting : Option (Code × Tag)
  access : Option HostAccess
  busyTimer : Timer
  cache : Vector CacheSet 64
  deriving DecidableEq, Repr

-- The container path

/-- Reject reasons in the order of the checks (06 R108). -/
inductive RejectReason where
  | noCode | mixed | doubleEntry | unknown | noDeposit | profile | sessionFull | limit | binHeld | binUnknown | binFull
  deriving DecidableEq, Repr

/-- The return step (06 R101). -/
inductive ReturnStep where
  | backing | offered
  deriving DecidableEq, Repr

/-- The state of a container record (06 R102), with the return step while RETURNING. -/
inductive Stage where
  | entering | scanning | classifying | waitingHold
  | returning (step : ReturnStep)
  | claiming | ready | transferring | stuck
  deriving DecidableEq, Repr

/-- The claim link of the hold-queue head (03 R46). -/
inductive ClaimLink where
  | none | queued | held
  deriving DecidableEq, Repr

/-- The role of an own claim (03 R46). -/
inductive ClaimRole where
  | held | transfer | loading | givenUp
  deriving DecidableEq, Repr

/-- A container record (06 R101) with its claim link (03 R46), landing count and trust mark (01 R14). The scan
record is held by the Scan Unit. -/
structure Container where
  tag : Tag
  stage : Stage
  code : Option Code
  /-- a second, different code was read in the window (06 R105) -/
  secondCode : Bool
  article : Option Article
  bin : Option BinNo
  value : Option Nat
  cleat : Option Cleat
  reject : Option RejectReason
  holdWait : Option Nat
  link : ClaimLink
  landing : Nat
  trust : Bool
  deriving DecidableEq, Repr

/-- The Intake Sequencer (06, 03). -/
structure Path where
  tagCounter : Tag
  entry : Option Container
  hold : List Container
  transfer : Option Container
  /-- cleared-since-firing mark (06 R111) -/
  cleared : Bool
  givenUp : List Cleat
  claims : List (Cleat × ClaimRole)
  /-- the code window is open (06 R105) -/
  window : Bool
  entryTimer : Timer
  readTimer : Timer
  deriving DecidableEq, Repr

/-- The places of the path (06 R102). -/
inductive Place where
  | entryZone | holdQueue | transferSlot
  deriving DecidableEq, Repr

/-- The causes of JAM (06 R114). -/
inductive JamCause where
  | entryTimeout | handoverTimeout | returnTimeout | drive | notLanded
  deriving DecidableEq, Repr

/-- The levels of the eyes: `true` is blocked, and for the landing eye an item. -/
structure Eyes where
  aperture : Bool
  scan : Bool
  transfer : Bool
  landing : Bool
  home : Bool
  deriving DecidableEq, Repr

-- The Scan Unit

/-- The program state of the converter (07 R120). -/
inductive Program where
  | watching | scanning | halted
  deriving DecidableEq, Repr

/-- The supply condition (07 R127). -/
inductive SupplyCondition where
  | normal | low | cutoff
  deriving DecidableEq, Repr

/-- The reference state (07 R128). -/
inductive ReferenceState where
  | good | bad
  deriving DecidableEq, Repr

/-- The scan record (07 R122); averages by channel number. -/
structure ScanRecord where
  averages : List (Nat × Nat)
  weight : Option Nat
  bars : Option Nat
  metal : Option Bool
  overrun : Bool
  deriving DecidableEq, Repr

/-- The Scan Unit (07 R120 to R129); `filtered` is the scan eye as the other blocks read it (R124). -/
structure ScanUnit where
  program : Program
  overrunPending : Bool
  record : Option ScanRecord
  supply : SupplyCondition
  reference : ReferenceState
  lastSupply : Option Nat
  lastReference : Option Nat
  filtered : Bool
  gap : Timer
  deriving DecidableEq, Repr

/-- The errors of a code message (07 R131). -/
inductive ReaderError where
  | framing | parity | nonDigit | overrun | length | zeroCode
  deriving DecidableEq, Repr

/-- The assembly state of the receiver with its buffer, or the first error and its position (07 R131). -/
inductive Assembly where
  | idle
  | collecting (digits : List Byte)
  | discarding (error : ReaderError) (position : Nat)
  deriving DecidableEq, Repr

/-- The receiver: stopped, waiting for ten bit periods of mark level, or running (07 R130). -/
inductive ReaderRun where
  | stopped | settling | running
  deriving DecidableEq, Repr

/-- The code reader receiver (07 R130, R131). -/
structure Reader where
  run : ReaderRun
  assembly : Assembly
  deriving DecidableEq, Repr

-- The Drive Unit

/-- The state of a drive channel (09 R153). -/
inductive ChannelState where
  | off | running | limiting | coolOff | faulted | cut
  deriving DecidableEq, Repr

/-- The direction of ENTRY (09 R153). -/
inductive Direction where
  | forward | reverse
  deriving DecidableEq, Repr

/-- The fault cause (09 R153). -/
inductive FaultCause where
  | stop | retries
  deriving DecidableEq, Repr

/-- A channel record (09 R153), whether a request stands (R151), and the clean running time of the present drive
period (R157). -/
structure ChannelRecord where
  state : ChannelState
  direction : Direction
  retry : Nat
  cause : Option FaultCause
  standing : Bool
  grace : Timer
  coolOff : Timer
  clean : Bool
  cleanRun : Timer
  deriving DecidableEq, Repr

/-- The eleven channels and the FlapTime timer (09 R151, R159). -/
structure Drives where
  entry : ChannelRecord
  hold : ChannelRecord
  flap : ChannelRecord
  gates : Vector ChannelRecord 8
  flapTimer : Timer
  deriving DecidableEq, Repr

/-- The gate interval of a cleat bound for a gate (01 R19), and whether the cleat has been counted as missed (R20). -/
structure GateInterval where
  cleat : Cleat
  missed : Bool
  deriving DecidableEq, Repr

-- The Session Unit

/-- The session state (10 R164). -/
inductive SessionState where
  | idle | opened | closing | closed
  deriving DecidableEq, Repr

/-- The close reasons (10 R164). -/
inductive CloseReason where
  | customer | idle | restart
  deriving DecidableEq, Repr

/-- A tally line (10 R164). -/
structure TallyLine where
  code : Code
  value : Nat
  count : Nat
  deriving DecidableEq, Repr

/-- An entry of the voucher history (10 R173). -/
structure Voucher where
  number : Nat
  total : Nat
  count : Nat
  reason : CloseReason
  deriving DecidableEq, Repr

/-- The session record, the voucher sequence and the voucher history, oldest entry first (10 R164). -/
structure Session where
  state : SessionState
  lines : List TallyLine
  total : Nat
  count : Nat
  pending : Nat
  undecided : Bool
  reason : Option CloseReason
  number : Option Nat
  idleTimer : Timer
  sequence : Nat
  history : List Voucher
  deriving DecidableEq, Repr

-- Notices

/-- The 22 notice kinds in kind order (11 R182). -/
inductive NoticeKind where
  | driveFault | supply | thermal | jam | lineFault | configConflict | duplicateId | pitchSlip | articleQuery
  | sessionClosed | vouchersExhausted | containerDone | overflowRoute | straySeen | lostItem | mapConflict
  | countMismatch | storeFault | readerFault | joinState | binChange | dozeOffer
  deriving DecidableEq, Repr

/-- The causes of SUPPLY (07 R129). -/
inductive SupplyCause where
  | low | cutoff | recovered | reference
  deriving DecidableEq, Repr

/-- The causes of THERMAL (09 R161). -/
inductive ThermalCause where
  | warm | hot | cooled
  deriving DecidableEq, Repr

/-- The causes of LINE FAULT with the fields their rules name (02 R25, R29, R30, R42, R44). -/
inductive LineFault where
  | overload (count : Nat) (driver : DriverState) (inFlight : Option FrameKind)
  | stuck
  | stuckCleared (length : Nat)
  | unobjected (kind sender : Option Nibble)
  | dropped (kind : FrameKind) (subject : Subject)
  | queueFull (kind : FrameKind) (subject : Subject)
  deriving DecidableEq, Repr

/-- The field that the screen of 02 R31 found out of range. -/
inductive ScreenField where
  | sender | bin | material | cause
  deriving DecidableEq, Repr

/-- The details of MAP CONFLICT: the screen (02 R31), a LOAD (03 R60), an unexpected own claim (03 R57). -/
inductive MapConflict where
  | screen (kind : FrameKind) (sender : Nat) (field : ScreenField)
  | load (cleat : Cleat) (sender : Nat) (bin : BinNo) (material : Material) (before : Entry)
  | unexpectedClaim (cleat : Cleat) (bin : BinNo)
  deriving DecidableEq, Repr

/-- The causes of OVERFLOW ROUTE (03 R51). -/
inductive OverflowCause where
  | held | unknown | full | noLine
  deriving DecidableEq, Repr

/-- The details of STORE FAULT (08 R134, R145). -/
inductive StoreFault where
  | malformed (group entry address : Nat) (code : Code) (field : MalformedField)
  | busyTimeout (address length : Nat)
  deriving DecidableEq, Repr

/-- The outcome in CONTAINER DONE (06 R110, R113). -/
inductive DoneOutcome where
  | returned (reason : Option RejectReason) (code : Option Code)
  | landed (code : Option Code) (value : Nat) (bin : BinNo) (cleat : Option Cleat) (unannounced : Bool)
  deriving DecidableEq, Repr

/-- Which of the four items of 04 R83 changed. -/
structure BinChanges where
  state : Bool
  cause : Bool
  known : Bool
  fullness : Bool
  deriving DecidableEq, Repr

/-- The detail record of each notice kind, as the rule that raises it gives it (11 R182). -/
inductive NoticeDetail where
  | driveFault (channel : Channel) (cause : FaultCause) (retry limit grace : Nat) (direction : Option Direction)
      (standing : Bool)
  | supply (cause : SupplyCause) (former new : SupplyCondition) (supply reference : Nat)
  | thermal (cause : ThermalCause) (former new : HeatStage) (channels : Vector ChannelState 11)
  | jam (tag : Tag) (place : Place) (cause : JamCause) (before : Stage) (channel : Option Channel)
  | lineFault (fault : LineFault)
  | configConflict (kind : FrameKind) (sender : Nat) (carried : Word16) (own : Option Word16) (member : MemberState)
  | duplicateId (kind : FrameKind) (subject : Subject) (member : MemberState)
  | pitchSlip (cause : SlipCause) (count : Nat) (before : MemberState)
  | articleQuery (code : Code) (tag : Tag)
  | sessionClosed (number : Nat) (reason : CloseReason) (total count lines : Nat)
  | vouchersExhausted (number : Nat)
  | containerDone (tag : Tag) (outcome : DoneOutcome)
  | overflowRoute (tag : Tag) (bin : BinNo) (cause : OverflowCause)
  | straySeen (cleat : Cleat)
  | lostItem (cleat : Cleat) (owner : Nat) (bin : BinNo) (material : Material)
  | mapConflict (conflict : MapConflict)
  | countMismatch (bin : BinNo) (used expected carried : Nat) (kind : FrameKind) (sender : Nat)
  | storeFault (fault : StoreFault)
  | readerFault (error : ReaderError) (position : Nat) (tag : Tag)
  | joinState (new former : MemberState) (cause : JoinCause)
  | binChange (bin : BinNo) (state : BinState) (used : Option Nat) (claimed : Nat) (capacity : Option Nat)
      (full : Bool) (changed : BinChanges)
  | dozeOffer (delay : Nat)
  deriving DecidableEq, Repr

/-- A notice kind's flag (set while the detail is present), detail record and occurrence count (11 R182); priority
and enable are fields of the configuration record. -/
structure NoticeRecord where
  detail : Option NoticeDetail
  count : Nat
  deriving DecidableEq, Repr

-- Answers

/-- Reasons of REFUSED (11 R176, codes 1 to 5). -/
inductive RefuseReason where
  | state | busy | range | full | none
  deriving DecidableEq, Repr

/-- A drive channel's items in READ STATUS (09 R153). -/
structure ChannelStatus where
  state : ChannelState
  direction : Direction
  retry : Nat
  cause : Option FaultCause
  standing : Bool
  coolOffLeft : Option Nat
  deriving DecidableEq, Repr

/-- The rest level (11 R185). -/
inductive RestLevel where
  | active | doze | deepRest
  deriving DecidableEq, Repr

/-- A request's standing at the Store port arbiter (08 R143). -/
inductive ArbiterState where
  | absent | waiting | running
  deriving DecidableEq, Repr

/-- The first frame in READ STATUS (02, the table after R45). -/
structure FirstFrame where
  kind : FrameKind
  subject : Subject
  attempts : Nat
  deriving DecidableEq, Repr

/-- The answer data of READ STATUS (11 R184). -/
structure StatusData where
  configured : Bool
  started : Bool
  rest : RestLevel
  dozeLeft : Option Nat
  offered : Bool
  wakeWaiting : Bool
  member : Membership
  ownDigest : Option Word16
  belt : Belt
  condition : LineCondition
  driver : DriverState
  overloadCount : Nat
  alone : Bool
  queueLength : Nat
  firstFrame : Option FirstFrame
  program : Program
  supply : SupplyCondition
  reference : ReferenceState
  lastSupply : Option Nat
  lastReference : Option Nat
  channels : Vector ChannelStatus 11
  heat : HeatStage
  lookup : Lookup
  queryLeft : Option Nat
  walk : ArbiterState
  access : ArbiterState
  deriving DecidableEq, Repr

/-- One bin in READ BINS (04 R85). -/
structure BinData where
  bin : BinNo
  capacity : Option Nat
  used : Option Nat
  state : BinState
  claimed : Nat
  full : Bool
  deriving DecidableEq, Repr

/-- One container record in READ PATH (06 R118): the article by deposit, material and bin; the claim link for the
head; landing count and trust mark for the transfer slot. -/
structure PathRecord where
  place : Place
  tag : Tag
  stage : Stage
  code : Option Code
  article : Option (Nat × Material × BinNo)
  scan : Option ScanRecord
  bin : Option BinNo
  value : Option Nat
  cleat : Option Cleat
  reject : Option RejectReason
  holdWait : Option Nat
  link : Option ClaimLink
  landing : Option (Nat × Bool)
  deriving DecidableEq, Repr

/-- The answer data of READ SESSION (10 R175). -/
structure SessionData where
  state : SessionState
  lines : List TallyLine
  total : Nat
  count : Nat
  pending : Nat
  undecided : Bool
  reason : Option CloseReason
  number : Option Nat
  idleLeft : Option Nat
  sequence : Nat
  exhausted : Bool
  deriving DecidableEq, Repr

/-- The data of an answer DONE, request by request. -/
inductive AnswerData where
  | none
  | adjusted (fields : List (ConfigField × Nat × Nat))
  | status (data : StatusData)
  | notices (entries : List (NoticeKind × NoticeDetail × Nat))
  | map (current : Option Cleat) (records : List (Cleat × Entry))
  | bins (records : List BinData)
  | path (tagCounter : Tag) (cleared : Bool) (givenUp : List Cleat) (records : List PathRecord)
  | session (data : SessionData)
  | voucher (number : Nat) (reason : CloseReason) (total count : Nat) (lines : List TallyLine)
  | history (entries : List Voucher)
  | revoked (found : Bool)
  | bytes (data : List Byte)
  | removed (records : List (Tag × Place))
  deriving DecidableEq, Repr

/-- What the answer register holds (11 R176). -/
inductive Answer where
  | empty
  | done (data : AnswerData)
  | refused (reason : RefuseReason)
  | failed
  | badRequest (reason : BadReason)
  deriving DecidableEq, Repr

/-- The Host Port (11), without the notices. -/
structure HostPort where
  cfg : Configuration
  configured : Bool
  started : Bool
  rest : RestLevel
  dozeTimer : Timer
  offered : Bool
  /-- the answer register -/
  answer : Answer
  /-- the answer that the last transaction shifted out -/
  shifted : Answer
  /-- a RESTART that waits for the running STORE WRITE to finish (08 R146) -/
  restartPending : Bool
  deriving DecidableEq, Repr

/-- The state of the part and the commands that wait, first in, first out. -/
structure State where
  host : HostPort
  notices : Vector NoticeRecord 22
  belt : Belt
  map : Vector Entry 256
  bins : Vector BinRecord 9
  member : Membership
  ownDigest : Option Word16
  gates : Vector (Option GateInterval) 8
  /-- Sort-duty frames are queued: the station was SYNCED when the last pitch mark was taken (05 R89; log 54). -/
  dutyReports : Bool
  line : Line
  path : Path
  eyes : Eyes
  scan : ScanUnit
  reader : Reader
  article : ArticleUnit
  drives : Drives
  heat : HeatStage
  session : Session
  pending : List Instr
  /-- The model's own: how many free values have been drawn (log 6, log 7). -/
  draws : Nat
  deriving DecidableEq, Repr

/-- Reasons for a fault. The manual stops the part nowhere, so no command raises one. -/
inductive Fault where
  /-- Raised by nothing: kept so that the outcome type has a name for a stop. Safe. -/
  | stopped
  deriving DecidableEq, Repr

/-- Reasons for a refusal. -/
inductive Refusal where
  /-- Raised by exec for a row without a meaning: no row is left without one. Safe. -/
  | notModelled (mnemonic : String)
  deriving DecidableEq, Repr

-- Reset values, block by block

/-- A channel after power-on reset or RESTART (09 R153). -/
def ChannelRecord.initial : ChannelRecord where
  state := .off
  direction := .forward
  retry := 0
  cause := none
  standing := false
  grace := none
  coolOff := none
  clean := false
  cleanRun := none

/-- The drives after power-on reset or RESTART (09 R153). -/
def Drives.initial : Drives where
  entry := .initial
  hold := .initial
  flap := .initial
  gates := Vector.replicate 8 .initial
  flapTimer := none

/-- The Belt Tracker after power-on reset, RESTART and Deep Rest entry (01 R2). -/
def Belt.initial : Belt where
  current := none
  pitchCount := 0
  homeSeen := false

/-- A bin after power-on reset, RESTART and Deep Rest entry (04 R71). -/
def BinRecord.initial : BinRecord where
  used := none
  state := .opened
  reportedFull := false

/-- The Line Controller after power-on reset and RESTART (02 R24, R28, R41, R43). -/
def Line.initial : Line where
  condition := .quiet
  runLevel := .rest
  runLength := 0
  queue := []
  driver := .off
  driverCoolOff := none
  overloadTimer := 0
  overloadCount := 0
  aloneCount := 0
  wake := .none
  missing := false
  objecting := false
  slot := .none

/-- An empty path with the given tag counter (06 R101, R111, 03 R47). -/
def Path.emptied (tagCounter : Tag) : Path where
  tagCounter := tagCounter
  entry := none
  hold := []
  transfer := none
  cleared := true
  givenUp := []
  claims := []
  window := false
  entryTimer := none
  readTimer := none

/-- An empty set of the Article Cache (08 R139). -/
def CacheSet.initial : CacheSet where
  ways := Vector.replicate 4 none
  t0 := false
  t1 := false
  t2 := false

/-- The Article Unit after power-on reset (08 R137, R139). -/
def ArticleUnit.initial : ArticleUnit where
  lookup := .idle
  queryTimer := none
  waiting := none
  access := none
  busyTimer := none
  cache := Vector.replicate 64 .initial

/-- The Scan Unit after power-on reset (07 R120, R124, R129). -/
def ScanUnit.initial (eye : Bool) : ScanUnit where
  program := .watching
  overrunPending := false
  record := none
  supply := .normal
  reference := .good
  lastSupply := none
  lastReference := none
  filtered := eye
  gap := none

/-- The Session Unit after power-on reset (10 R164). -/
def Session.initial : Session where
  state := .idle
  lines := []
  total := 0
  count := 0
  pending := 0
  undecided := false
  reason := none
  number := none
  idleTimer := none
  sequence := 0
  history := []

/-- The Host Port after power-on reset (11 R176, R179, R185). -/
def HostPort.initial : HostPort where
  cfg := Configuration.default
  configured := false
  started := false
  rest := .active
  dozeTimer := none
  offered := false
  answer := .empty
  shifted := .empty
  restartPending := false

/-- The machine right after power-on reset, with clear eyes and a cool output stage (log 4, log 5). -/
def State.reset : State where
  host := .initial
  notices := Vector.replicate 22 { detail := none, count := 0 }
  belt := .initial
  map := Vector.replicate 256 .free
  bins := Vector.replicate 9 .initial
  member := .offline
  ownDigest := none
  gates := Vector.replicate 8 none
  dutyReports := false
  line := .initial
  path := .emptied 0
  eyes := { aperture := false, scan := false, transfer := false, landing := false, home := false }
  scan := .initial false
  reader := { run := .stopped, assembly := .idle }
  article := .initial
  drives := .initial
  heat := .normal
  session := .initial
  pending := []
  draws := 0

end Machine
end Sys2Proof
end

