-- ==== Sys2Proof/Machine/Flags.lean ====
section
/-! DEFINITION. Everything the manual derives from State when it is read and stores nowhere: the NOTICE output,
claimed counts and fullness, leads, ALONE, the exhausted mark, the cut and doze conditions, the Store port. -/
namespace Sys2Proof
namespace Machine

-- Membership and rest

/-- The membership state without the listen phase (05 R86). -/
def Membership.state : Membership → MemberState
  | .offline => .offline
  | .listening _ => .listening
  | .synced => .synced
  | .conflict => .conflict

/-- The station takes part in the line and follows the belt: any state but OFFLINE (01 R2, 02 R22). -/
def State.online (s : State) : Bool := s.member != .offline

/-- The membership state is SYNCED (05 R86). -/
def State.synced (s : State) : Bool := s.member == .synced

/-- The membership state is LISTENING (05 R86). -/
def State.listening (s : State) : Bool := s.member.state == .listening

-- Configuration as the blocks read it

/-- The station number, absent until the station is configured (11 R179). -/
def State.stationNumber (s : State) : Option Nat :=
  if s.host.configured then some s.host.cfg.stationNumber else none

/-- The station number that frames, claims and vouchers carry; they exist in a started, so configured, station. -/
def State.station (s : State) : Nat := s.host.cfg.stationNumber

/-- The configured capacity of a bin; bin 0 has none and reads 0 (04 R71, R72). -/
def State.capacityOf (s : State) (b : BinNo) : Nat :=
  if b.val = 0 then 0 else s.host.cfg.capacity[b.val - 1]'(by have := b.isLt; omega)

/-- The capacity of a bin 1 to 8, absent until the station is configured (04 R71). -/
def State.capacity (s : State) (b : BinNo) : Option Nat :=
  if s.host.configured && b.val != 0 then some (s.capacityOf b) else none

-- Notices

/-- The NOTICE output: some enabled kind has its flag set (11 R183). -/
def State.noticeAsserted (s : State) : Bool :=
  (List.finRange 22).any fun k => s.notices[k].detail.isSome && s.host.cfg.notice[k].enable == 1

-- The Cleat Map and the Bin Table

/-- The entry is CLAIMED for the bin (01 R12). -/
def Entry.claimedFor (b : BinNo) : Entry → Bool
  | .claimed _ bin => bin == b
  | _ => false

/-- The entry is CLAIMED by the station (01 R12). -/
def Entry.claimedBy (station : Nat) : Entry → Bool
  | .claimed owner _ => owner == station
  | _ => false

/-- The entry is CLAIMED by the station for the bin (06 R108). -/
def Entry.claimedByFor (station : Nat) (b : BinNo) (e : Entry) : Bool := e.claimedBy station && e.claimedFor b

/-- The Cleat Map entry of a cleat (01 R9). -/
def State.entryAt (s : State) (x : Cleat) : Entry := s.map[x.toNat]

/-- The claimed count of a bin (01 R12). -/
def State.claimedCount (s : State) (b : BinNo) : Nat := s.map.countP (Entry.claimedFor b)

/-- The cleat is an own claim of the station (01 R12, 03 R46). -/
def State.ownClaim (s : State) (x : Cleat) : Bool := (s.entryAt x).claimedBy s.station

/-- The lead of a cleat, Unknown while the current cleat is Unknown (01 R8). -/
def State.lead (s : State) (x : Cleat) : Option Nat := s.belt.current.map fun c => (x - c).toNat

/-- The used count of a bin (04 R71). -/
def State.usedOf (s : State) (b : BinNo) : Option Nat := s.bins[b].used

/-- The bin is full (04 R74): bins 1 to 8, Known, used plus claimed count at or above the capacity. -/
def State.full (s : State) (b : BinNo) : Bool :=
  match s.usedOf b with
  | some u => b != 0 && decide (s.capacityOf b ≤ u + s.claimedCount b)
  | none => false

/-- The bin takes one more claim: bin 0, or OPEN, Known and used plus claimed count plus one not above the capacity
(03 R50, R52). -/
def State.binPasses (s : State) (b : BinNo) : Bool :=
  b == 0 ||
    (s.bins[b].state == .opened &&
      match s.usedOf b with
      | some u => decide (u + s.claimedCount b + 1 ≤ s.capacityOf b)
      | none => false)

-- The Station Line

/-- The flag ALONE (02 R41). -/
def State.alone (s : State) : Bool := s.line.aloneCount == 8

/-- The frame being sent, from its start bit on (02 R34). -/
def State.inFlight (s : State) : Option QueuedFrame := s.line.queue.find? fun f => f.phase != .waiting

/-- The first frame in READ STATUS: the frame being sent, or the first in queue order (02 R42). -/
def State.firstFrame (s : State) : Option QueuedFrame := s.inFlight <|> s.line.queue.head?

/-- The station receives the frame on the wire: outside OFFLINE, no stuck line, and no frame remainder or error to
wait out (02 R24, R25, R38). -/
def State.receiving (s : State) : Bool := s.online && s.line.condition != .stuck && !s.line.missing

-- The path

/-- A record is STUCK. -/
def Container.isStuck (c : Container) : Bool := c.stage == .stuck

/-- Some record of the path is STUCK (06 R103). -/
def State.hasStuck (s : State) : Bool :=
  s.path.entry.any Container.isStuck || s.path.transfer.any Container.isStuck

/-- The path holds no record (06 R101). -/
def State.pathEmpty (s : State) : Bool :=
  s.path.entry.isNone && s.path.hold.isEmpty && s.path.transfer.isNone

/-- The head of the hold queue (06 R101). -/
def State.head (s : State) : Option Container := s.path.hold.head?

/-- The number of records in the path (06 R101). -/
def State.pathCount (s : State) : Nat :=
  s.path.entry.toList.length + s.path.hold.length + s.path.transfer.toList.length

/-- The carrying move of a WAITING HOLD record is in progress: its EntryTime runs (06 R109). -/
def State.handoverRunning (s : State) : Bool :=
  s.path.entry.any (fun c => c.stage == .waitingHold) && s.path.entryTimer.isSome

-- Sessions

/-- The voucher sequence is exhausted (10 R171). -/
def State.exhausted (s : State) : Bool := s.session.sequence == Config.lastSequence

/-- The voucher number of a sequence value in this station (10 R171). -/
def State.voucherNumber (s : State) (sequence : Nat) : Nat := s.station * Config.voucherBase + sequence

-- Drives and rest

/-- The cut condition (09 R162). -/
def State.cutCondition (s : State) : Bool := s.heat == .hot || s.scan.supply == .cutoff

/-- The channel is driven: RUNNING or LIMITING (09 R155). -/
def ChannelState.driven : ChannelState → Bool
  | .running | .limiting => true
  | _ => false

/-- The doze condition (11 R185). -/
def State.dozeCondition (s : State) : Bool :=
  s.host.started && s.host.rest == .active && s.pathEmpty && s.session.state == .idle

/-- The Store port runs: started and Active, or for the host access in hand (08 R142). -/
def State.storePortRuns (s : State) : Bool :=
  (s.host.started && s.host.rest == .active) || s.article.access.isSome

end Machine
end Sys2Proof
end

