-- ==== Sys2Proof/Machine/Operands.lean ====
section
/-! DEFINITION. The operand forms: kind codes and subjects of frames, the screen of 02 R31 over the four-bit fields,
the reading of host payload fields, and the drive channels by number. -/
namespace Sys2Proof
namespace Machine

-- Frames

/-- The kind code of a frame kind (02, table of 2.4). -/
def FrameKind.code : FrameKind → Nat
  | .release => 1
  | .stray => 2
  | .misroute => 3
  | .load => 4
  | .claim => 5
  | .binHold => 6
  | .binOpen => 7
  | .binSet => 8
  | .counts => 9
  | .join => 10

/-- The kind of a frame. -/
def Frame.kind : Frame → FrameKind
  | .release _ => .release
  | .stray _ => .stray
  | .misroute _ _ _ => .misroute
  | .load _ _ _ _ => .load
  | .claim _ _ _ => .claim
  | .binHold _ _ => .binHold
  | .binOpen _ => .binOpen
  | .binSet _ _ => .binSet
  | .counts _ _ => .counts
  | .join _ => .join

/-- What a frame is about: its cleat, its bin for BIN HOLD, BIN OPEN and BIN SET, or neither (02 R42, R43). -/
def Frame.subject : Frame → Subject
  | .release x | .stray x | .misroute x _ _ | .load x _ _ _ | .claim x _ _ => .cleat x
  | .binHold b _ | .binOpen b | .binSet b _ => .bin b
  | .counts _ _ | .join _ => .none

/-- Two frames that may not stand in the queue together (02 R43). -/
def Frame.sameSlot (f g : Frame) : Bool := f.kind == g.kind && f.subject == g.subject

/-- The kinds that name a cleat, which a pitch slip withdraws (01 R7). -/
def FrameKind.namesCleat : FrameKind → Bool
  | .release | .stray | .misroute | .load | .claim => true
  | .binHold | .binOpen | .binSet | .counts | .join => false

/-- The places of the queue that a kind may use (02 R44). -/
def FrameKind.places : FrameKind → Nat
  | .load | .release | .join => Config.queuePlaces
  | .stray | .misroute | .claim | .binHold | .binOpen | .binSet | .counts => Config.queuePlacesOther

/-- The kinds that the membership state allows to start (02 R34). -/
def FrameKind.allowedIn (k : FrameKind) : MemberState → Bool
  | .synced => true
  | .listening => k == .join
  | .offline | .conflict => false

/-- The line code of a material (08 R133). -/
def Material.code : Material → Nat
  | .pet => 1
  | .can => 2
  | .glass => 3
  | .refillGlass => 4
  | .other => 5

/-- The material of a code 1 to 5 (08 R133). -/
def Material.ofCode : Nat → Option Material
  | 1 => some .pet
  | 2 => some .can
  | 3 => some .glass
  | 4 => some .refillGlass
  | 5 => some .other
  | _ => none

/-- The line code of a hold cause (02 R30, the frame table). -/
def HoldCause.code : HoldCause → Nat
  | .staff => 1
  | .gateFault => 2

/-- The hold cause of a line code (02 R31). -/
def HoldCause.ofCode : Nat → Option HoldCause
  | 1 => some .staff
  | 2 => some .gateFault
  | _ => none

/-- A bin 0 to 8 from a number (02 R31). -/
def binOf (n : Nat) : Option BinNo := if h : n < 9 then some ⟨n, h⟩ else none

/-- A bin 1 to 8 from a host payload (04 R81). -/
def gatedBinOf (n : Nat) : Option BinNo := if h : 1 ≤ n ∧ n < 9 then some ⟨n, h.2⟩ else none

/-- The sender field names a station 1 to 12 (02 R31). -/
def senderInRange (sender : Nibble) : Bool := decide (1 ≤ sender.toNat ∧ sender.toNat ≤ 12)

/-- The screen of 02 R31 over the fields a frame has: the field out of range. Where more than one is, the first in the order of
the frame is named, and MAP CONFLICT is raised once for the frame, by the model's choice (log 58). -/
def screenFields (sender : Nibble) (bin material cause : Option Nibble) : Option ScreenField :=
  if !senderInRange sender then some .sender
  else if bin.any fun b => (binOf b.toNat).isNone then some .bin
  else if material.any fun m => (Material.ofCode m.toNat).isNone then some .material
  else if cause.any fun c => (HoldCause.ofCode c.toNat).isNone then some .cause
  else none

/-- A used field of the line: 0xFFFF means Unknown (02, after R30). -/
def usedField (w : Word16) : Option Nat := if w = 0xFFFF#16 then none else some w.toNat

/-- The line value of a used count (02 R37). -/
def usedWord : Option Nat → Word16
  | some u => BitVec.ofNat 16 u
  | none => 0xFFFF#16

-- Drive channels

/-- The place of a channel among the eleven (09 R151). -/
def channelIndex : Channel → Fin 11
  | .entry => 0
  | .hold => 1
  | .flap => 2
  | .gate g => ⟨3 + g.val, by omega⟩

/-- The eleven channels in order (09 R151). -/
def allChannels : List Channel := [.entry, .hold, .flap] ++ (List.finRange 8).map Channel.gate

/-- The gated bin of a gate (01 1.5). -/
def gateBin (g : Gate) : BinNo := g.succ

/-- What CLEAR DRIVE names (09 R163, 11 R176): the line driver, or a drive channel. -/
inductive ClearTarget where
  | lineDriver
  | channel (c : Channel)
  deriving DecidableEq, Repr

/-- The channel at a position of the list of 09 R163: 0 the line driver, 1 ENTRY, 2 HOLD, 3 FLAP, 4 to 11 the gates;
any other is out of range. -/
def ClearTarget.ofPosition (n : Nat) : Option ClearTarget :=
  match n with
  | 0 => some .lineDriver
  | 1 => some (.channel .entry)
  | 2 => some (.channel .hold)
  | 3 => some (.channel .flap)
  | _ => if h : 4 ≤ n ∧ n - 4 < 8 then some (.channel (.gate ⟨n - 4, h.2⟩)) else none

-- Other payloads

/-- The range of a store request: 1 to 128 bytes within one aligned block of 128 bytes (08 R144). -/
def storeRangeGood (address length : Nat) : Bool :=
  decide (1 ≤ length ∧ length ≤ 128 ∧ address < 2 ^ 24 ∧ address / 128 = (address + length - 1) / 128)

/-- A code that REVOKE ARTICLE takes: 1 to 2^48 - 1 (08 R149). -/
def codeOf (n : Nat) : Option Code := if 1 ≤ n ∧ n < 2 ^ 48 then some (BitVec.ofNat 48 n) else none

/-- The settings of a channel in the configuration record (09 R152). -/
def State.driveSetting (s : State) (c : Channel) : DriveSetting := s.host.cfg.drive[channelIndex c]

end Machine
end Sys2Proof
end

