-- ==== Sys2Proof/Machine/HostFrame.lean ====
section
/-! DEFINITION. The framing of host transactions (11 R176 to R178): what the bytes of one transaction are to the
part, and the code and reason bytes of its answer. -/
namespace Sys2Proof
namespace Machine

/-- The value of bytes, high byte first (11 R176). -/
def bytesValue (bytes : List Byte) : Nat := bytes.foldl (fun n b => 256 * n + b.toNat) 0

/-- The value of `n` payload bytes from a place on. -/
def payloadNat (payload : List Byte) (place n : Nat) : Nat := bytesValue ((payload.drop place).take n)

/-- One byte of a payload. -/
def payloadByte (payload : List Byte) (place : Nat) : Nat := payloadNat payload place 1

/-- The configuration record that the payload of SET CONFIGURATION carries: the fields in the order of the table of
11 R179, two bytes for HoldWait, the capacities, the thresholds, IdleTime and DozeDelay, one for each other. -/
def carriedConfiguration (p : List Byte) : Configuration where
  stationNumber := payloadByte p 0
  lineRate := payloadByte p 1
  deglitch := payloadByte p 2
  clearDistance := payloadByte p 3
  commitLead := payloadByte p 4
  minLead := payloadByte p 5
  maxLead := payloadByte p 6
  holdWait := payloadNat p 7 2
  sortDuty := payloadByte p 9
  gateDistance := Vector.ofFn fun g => payloadByte p (10 + g.val)
  capacity := Vector.ofFn fun b => payloadNat p (18 + 2 * b.val) 2
  drive := Vector.ofFn fun c =>
    { currentLimit := payloadByte p (34 + 4 * c.val), graceTime := payloadByte p (35 + 4 * c.val)
      faultResponse := payloadByte p (36 + 4 * c.val), coolOff := payloadByte p (37 + 4 * c.val) }
  flapTime := payloadByte p 78
  scanFirst := payloadByte p 79
  scanLast := payloadByte p 80
  shadowThreshold := payloadNat p 81 2
  metalThreshold := payloadNat p 83 2
  readerRate := payloadByte p 85
  tableGroups := payloadByte p 86
  storeLatency := payloadByte p 87
  hostQueries := payloadByte p 88
  idleTime := payloadNat p 89 2
  queryTime := payloadByte p 91
  dozeDelay := payloadNat p 92 2
  keepCache := payloadByte p 94
  wakePeers := payloadByte p 95
  notice := Vector.ofFn fun k =>
    { priority := payloadByte p (96 + 2 * k.val), enable := payloadByte p (97 + 2 * k.val) }

/-- The record of an ARTICLE ANSWER payload: its bytes 7 to 22. -/
def carriedRecord (p : List Byte) : EntryBytes := Vector.ofFn fun i => (p.drop (7 + i.val)).headD 0

/-- The payload length that a request requires; STORE WRITE and ARTICLE ANSWER say it in their own fields (R178). For an
ARTICLE ANSWER of a kind beside RECORD and NONE it is that of NONE, by the model's choice (log 56). -/
def requestLength (code : Nat) (p : List Byte) : Nat :=
  match code with
  | 1 => 140
  | 5 => 2
  | 12 => if payloadByte p 6 = 0 then 24 else 8
  | 13 => 6
  | 14 => 4
  | 15 => 4 + payloadByte p 3
  | 16 => 3
  | 17 | 18 | 23 => 1
  | _ => 0

/-- The command of a well-formed request with code 1 to 24 (11 R178). -/
def requestCommand (code : Nat) (p : List Byte) : Option Instr :=
  match code with
  | 1 => some (.setConfiguration (carriedConfiguration p))
  | 2 => some .start
  | 3 => some .readStatus
  | 4 => some .readNotices
  | 5 => some (.readMap (payloadByte p 0) (payloadByte p 1))
  | 6 => some .readBins
  | 7 => some .readPath
  | 8 => some .readSession
  | 9 => some .closeSession
  | 10 => some .takeVoucher
  | 11 => some .readHistory
  | 12 => some (.articleAnswer (payloadNat p 0 6) (payloadByte p 6) (carriedRecord p)
      (payloadByte p (if payloadByte p 6 = 0 then 23 else 7)))
  | 13 => some (.revokeArticle (payloadNat p 0 6))
  | 14 => some (.storeRead (payloadNat p 0 3) (payloadByte p 3))
  | 15 => some (.storeWrite (payloadNat p 0 3) (p.drop 4))
  | 16 => some (.binSet (payloadByte p 0) (payloadNat p 1 2))
  | 17 => some (.binHold (payloadByte p 0))
  | 18 => some (.binOpen (payloadByte p 0))
  | 19 => some .grantDoze
  | 20 => some .deepRest
  | 21 => some .wake
  | 22 => some .restart
  | 23 => some (.clearDrive (payloadByte p 0))
  | 24 => some .clearJam
  | _ => none

/-- What the bytes received in one transaction are to the Host Port, the first row of the table of 11 R176 that
applies deciding. -/
def transactionCommand (bytes : List Byte) : Instr :=
  let code := payloadByte bytes 0
  let length := payloadNat bytes 1 2
  let payload := (bytes.drop 3).take length
  if bytes.length = 0 then .emptyTransaction
  else if bytes.length < 4 ∨ bytes.length < 4 + length then .badRequest .length
  else if 1 ≤ code ∧ code ≤ 24 ∧ length ≠ requestLength code payload then .badRequest .length
  else if crc8 (bytes.take (3 + length)) ≠ (bytes.drop (3 + length)).headD 0 then .badRequest .check
  else if code = 0 ∧ length = 0 then .emptyTransaction
  else (requestCommand code payload).getD (.badRequest .code)

/-- The code byte of an answer (11 R176). -/
def Answer.code : Answer → Nat
  | .empty => 0
  | .done _ => 1
  | .refused _ => 2
  | .failed => 3
  | .badRequest _ => 4

/-- The reason byte of an answer (11 R176). -/
def Answer.reason : Answer → Nat
  | .refused .state => 1
  | .refused .busy => 2
  | .refused .range => 3
  | .refused .full => 4
  | .refused .none => 5
  | .badRequest .check => 6
  | .badRequest .length => 7
  | .badRequest .code => 8
  | .empty | .done _ | .failed => 0

/-- The bytes of an answer with the data bytes given: code, reason, length, data, check (11 R176). -/
def answerBytes (a : Answer) (data : List Byte) : List Byte :=
  let head : List Byte := [BitVec.ofNat 8 a.code, BitVec.ofNat 8 a.reason, BitVec.ofNat 8 (data.length / 256),
    BitVec.ofNat 8 data.length] ++ data
  head ++ [crc8 head]

/-- The bytes that a transaction of `n` byte times shifts out of an answer with the data bytes given (11 R176): its first
bytes, and 0x00 after its check. -/
def shiftedBytes (a : Answer) (data : List Byte) (n : Nat) : List Byte :=
  (answerBytes a data ++ List.replicate n 0).take n

/-- The data bytes of an answer (11 R176): none where it carries no data, the bytes of a STORE READ; the layout of any
other data is not given (log 29). -/
def Answer.dataBytes? : Answer → Option (List Byte)
  | .empty | .refused _ | .failed | .badRequest _ | .done .none => some []
  | .done (.bytes data) => some data
  | .done _ => none

end Machine
end Sys2Proof
end

