-- ==== Sys2Proof/Machine/LineFrame.lean ====
section
/-! DEFINITION. The frame on the wire (02, 2.4): the order of its fields, bit stuffing (R32), the check (R33), the
reading of a received frame, and the classes of a drive run (R26). A bit is `true` at rest and `false` at drive. -/
namespace Sys2Proof
namespace Machine

/-- The kind field of a frame. -/
def FrameKind.nibble (k : FrameKind) : Nibble := BitVec.ofNat 4 k.code

/-- A bin as a four-bit field. -/
def binField (b : BinNo) : List Bool := fieldBits (BitVec.ofNat 4 b.val)

/-- The payload bits of a frame in the order of the table of 02, 2.4; a pad is sent as 0. -/
def Frame.payloadBits : Frame → List Bool
  | .release x | .stray x => fieldBits x
  | .misroute x b u | .claim x b u => fieldBits x ++ binField b ++ fieldBits (0 : Nibble) ++ fieldBits u
  | .load x b m u => fieldBits x ++ binField b ++ fieldBits (BitVec.ofNat 4 m.code) ++ fieldBits u
  | .binHold b c => binField b ++ fieldBits (BitVec.ofNat 4 c.code)
  | .binOpen b => binField b ++ fieldBits (0 : Nibble)
  | .binSet b u => binField b ++ fieldBits (0 : Nibble) ++ fieldBits u
  | .counts d us => fieldBits d ++ us.toList.flatMap fieldBits
  | .join d => fieldBits d

/-- Kind, Sender and Payload of a frame sent by a station: what the check covers (02 R33). -/
def Frame.checkedBits (f : Frame) (station : Nat) : List Bool :=
  fieldBits f.kind.nibble ++ fieldBits (BitVec.ofNat 4 station) ++ f.payloadBits

/-- The check of a frame sent by a station (02 R33). -/
def Frame.check (f : Frame) (station : Nat) : Word16 := crc16 (f.checkedBits station)

/-- The stuffed fields of a frame before stuffing: start bit, kind, sender, payload, check. -/
def Frame.stuffedFields (f : Frame) (station : Nat) : List Bool :=
  false :: f.checkedBits station ++ fieldBits (f.check station)

/-- Bit stuffing after a run of `run` bits of level `last` (02 R32): a stuff bit follows every five equal bits on the wire, a
stuff bit counted with those of its level, by the model's choice where the rule's sentences differ (log 59). -/
def stuffFrom (last : Bool) (run : Nat) : List Bool → List Bool
  | [] => []
  | b :: rest =>
    if b = last then
      if run + 1 = 5 then b :: (!b) :: stuffFrom (!b) 1 rest else b :: stuffFrom last (run + 1) rest
    else b :: stuffFrom b 1 rest

/-- Bit stuffing of a whole frame (02 R32). -/
def stuff (bits : List Bool) : List Bool := stuffFrom true 0 bits

/-- Removal of stuff bits after a run of `run` bits of level `last`, counted as in sending (log 59); none is a stuff violation
(02 R32). -/
def unstuffFrom (last : Bool) (run : Nat) : List Bool → Option (List Bool)
  | [] => if run = 5 then none else some []
  | b :: rest =>
    if run = 5 then
      if b = last then none else unstuffFrom b 1 rest
    else if b = last then (unstuffFrom last (run + 1) rest).map (b :: ·)
    else (unstuffFrom b 1 rest).map (b :: ·)

/-- Removal of the stuff bits of a whole frame (02 R32). -/
def unstuff (bits : List Bool) : Option (List Bool) := unstuffFrom true 0 bits

/-- The bits a sender puts on the wire: the stuffed part, both slots and the end gap at rest (02, 2.4). -/
def Frame.wireBits (f : Frame) (station : Nat) : List Bool :=
  stuff (f.stuffedFields station) ++ List.replicate 9 true

/-- The value of a field, most significant bit first. -/
def fieldValue (bits : List Bool) : Nat := bits.foldl (fun n b => 2 * n + b.toNat) 0

/-- The payload length of a kind code; an unused code has no payload (02 R31). -/
def payloadLength (kind : Nat) : Nat :=
  match kind with
  | 1 | 2 | 6 | 7 => 8
  | 3 | 4 | 5 => 32
  | 8 => 24
  | 9 => 144
  | 10 => 16
  | _ => 0

/-- A field of a payload, by its place and length. -/
def payloadField (w : Nat) (payload : List Bool) (place : Nat) : BitVec w :=
  BitVec.ofNat w (fieldValue ((payload.drop place).take w))

/-- The command that a Taken frame of a kind, sender and payload is to this station (02 R31, R40). -/
def takenCommand (rx : Reception) (kind sender : Nibble) (payload : List Bool) : Instr :=
  let cleat : Cleat := payloadField 8 payload 0
  match kind.toNat with
  | 1 => .releaseTaken rx sender cleat
  | 2 => .strayTaken rx sender cleat
  | 3 => .misrouteTaken rx sender cleat (payloadField 4 payload 8) (payloadField 16 payload 16)
  | 4 => .loadTaken rx sender cleat (payloadField 4 payload 8) (payloadField 4 payload 12) (payloadField 16 payload 16)
  | 5 => .claimTaken rx sender cleat (payloadField 4 payload 8) (payloadField 16 payload 16)
  | 6 => .binHoldTaken rx sender (payloadField 4 payload 0) (payloadField 4 payload 4)
  | 7 => .binOpenTaken rx sender (payloadField 4 payload 0)
  | 8 => .binSetTaken rx sender (payloadField 4 payload 0) (payloadField 16 payload 8)
  | 9 => .countsTaken rx sender (payloadField 16 payload 0)
      (Vector.ofFn fun i => payloadField 16 payload (16 + 16 * i.val))
  | 10 => .joinTaken rx sender (payloadField 16 payload 0)
  | _ => .unusedKindTaken rx sender kind

/-- The command that a frame sent by a station is to those who take it (02 R40). -/
def Frame.takenAs (f : Frame) (rx : Reception) (sender : Nibble) : Instr :=
  match f with
  | .release x => .releaseTaken rx sender x
  | .stray x => .strayTaken rx sender x
  | .misroute x b u => .misrouteTaken rx sender x (BitVec.ofNat 4 b.val) u
  | .load x b m u => .loadTaken rx sender x (BitVec.ofNat 4 b.val) (BitVec.ofNat 4 m.code) u
  | .claim x b u => .claimTaken rx sender x (BitVec.ofNat 4 b.val) u
  | .binHold b c => .binHoldTaken rx sender (BitVec.ofNat 4 b.val) (BitVec.ofNat 4 c.code)
  | .binOpen b => .binOpenTaken rx sender (BitVec.ofNat 4 b.val)
  | .binSet b u => .binSetTaken rx sender (BitVec.ofNat 4 b.val) u
  | .counts d us => .countsTaken rx sender d us
  | .join d => .joinTaken rx sender d

/-- What a receiver makes of the stuffed part of a Taken frame: the command, or the error it found (02 R31 to R33).
The frame is read in full: its length is fixed by its kind. -/
def readFrame (rx : Reception) (stuffed : List Bool) : Except FrameFault Instr :=
  match unstuff stuffed with
  | none => .error .stuffViolation
  | some bits =>
    let kind : Nibble := payloadField 4 bits 1
    let sender : Nibble := payloadField 4 bits 5
    let length := payloadLength kind.toNat
    let checked := (bits.drop 1).take (8 + length)
    if fieldBits (crc16 checked) = (bits.drop (9 + length)).take 16 then
      .ok (takenCommand rx kind sender (checked.drop 8))
    else .error .checkMismatch

/-- What a receiver whose driver drives puts into the slots of a frame it has read (02 R39): a stuff violation has been
signalled by an objection run (R38). -/
def slotFor : Except FrameFault Instr → SlotDrive
  | .ok _ => .echo
  | .error .checkMismatch => .objection
  | .error .stuffViolation | .error .bitError => .none

/-- The Echo slot and the Objection slot as a station drives them, `false` at drive (02 R39). -/
def SlotDrive.bits : SlotDrive → List Bool
  | .none => [true, true]
  | .echo => [false, true]
  | .objection => [true, false]

/-- The bits of an objection run (02 R38). -/
def objectionRun : List Bool := List.replicate 8 false

/-- The classes of a drive run by its length (02 R26). -/
inductive DriveRun where
  | part | wakePulse | ignored | stuck
  deriving DecidableEq, Repr

/-- The class of a drive run of a length in bit times (02 R26). -/
def classifyDriveRun (length : Nat) : DriveRun :=
  if length ≤ 39 then .part
  else if length ≤ 120 then .wakePulse
  else if length ≤ 200 then .ignored
  else .stuck

end Machine
end Sys2Proof
end

