-- ==== Sys2Proof/Machine/Ops.lean ====
section
/-! DEFINITION. The named operations that every block uses: raising a notice, reading and writing the Cleat Map and
the Bin Table, adopting a carried count, reporting bin changes, the transmit queue, and the line driver. -/
namespace Sys2Proof
namespace Machine

-- Notices (11 R182)

/-- The kinds in kind order, from 0 (11 R182). -/
def NoticeKind.index : NoticeKind → Fin 22
  | .driveFault => 0
  | .supply => 1
  | .thermal => 2
  | .jam => 3
  | .lineFault => 4
  | .configConflict => 5
  | .duplicateId => 6
  | .pitchSlip => 7
  | .articleQuery => 8
  | .sessionClosed => 9
  | .vouchersExhausted => 10
  | .containerDone => 11
  | .overflowRoute => 12
  | .straySeen => 13
  | .lostItem => 14
  | .mapConflict => 15
  | .countMismatch => 16
  | .storeFault => 17
  | .readerFault => 18
  | .joinState => 19
  | .binChange => 20
  | .dozeOffer => 21

/-- The kinds in kind order (11 R182). -/
def allNoticeKinds : List NoticeKind :=
  [.driveFault, .supply, .thermal, .jam, .lineFault, .configConflict, .duplicateId, .pitchSlip, .articleQuery,
   .sessionClosed, .vouchersExhausted, .containerDone, .overflowRoute, .straySeen, .lostItem, .mapConflict,
   .countMismatch, .storeFault, .readerFault, .joinState, .binChange, .dozeOffer]

/-- The notice kind of a detail record. -/
def NoticeDetail.kind : NoticeDetail → NoticeKind
  | .driveFault _ _ _ _ _ _ _ => .driveFault
  | .supply _ _ _ _ _ => .supply
  | .thermal _ _ _ _ => .thermal
  | .jam _ _ _ _ _ => .jam
  | .lineFault _ => .lineFault
  | .configConflict _ _ _ _ _ => .configConflict
  | .duplicateId _ _ _ => .duplicateId
  | .pitchSlip _ _ _ => .pitchSlip
  | .articleQuery _ _ => .articleQuery
  | .sessionClosed _ _ _ _ _ => .sessionClosed
  | .vouchersExhausted _ => .vouchersExhausted
  | .containerDone _ _ => .containerDone
  | .overflowRoute _ _ _ => .overflowRoute
  | .straySeen _ => .straySeen
  | .lostItem _ _ _ _ => .lostItem
  | .mapConflict _ => .mapConflict
  | .countMismatch _ _ _ _ _ _ => .countMismatch
  | .storeFault _ => .storeFault
  | .readerFault _ _ _ => .readerFault
  | .joinState _ _ _ => .joinState
  | .binChange _ _ _ _ _ _ _ => .binChange
  | .dozeOffer _ => .dozeOffer

/-- One more occurrence of a kind (11 R182): the flag set, the detail replaced, the count up to 255. -/
def NoticeRecord.raised (r : NoticeRecord) (d : NoticeDetail) : NoticeRecord :=
  { detail := some d, count := min 255 (r.count + 1) }

/-- A block raises a notice (11 R182). -/
def State.raise (s : State) (d : NoticeDetail) : State :=
  let k := d.kind.index
  { s with notices := s.notices.set k.val (s.notices[k].raised d) k.isLt }

/-- LINE FAULT with a cause (02, after R45). -/
def State.raiseLineFault (s : State) (f : LineFault) : State := s.raise (.lineFault f)

/-- Every flag clear and every count 0 (11 R182). -/
def clearedNotices : Vector NoticeRecord 22 := Vector.replicate 22 { detail := none, count := 0 }

-- The Cleat Map (01 R9, R10)

/-- The entry of a cleat is set. -/
def State.setEntry (s : State) (x : Cleat) (e : Entry) : State :=
  { s with map := s.map.set x.toNat e x.isLt }

/-- The Cleat Map all FREE (01 R6, R10). -/
def freeMap : Vector Entry 256 := Vector.replicate 256 .free

/-- Claim roles and the given-up list keep the cleats that are still own CLAIMED (03 R46, R47). -/
def State.pruneClaims (s : State) : State :=
  { s with path := { s.path with
      claims := s.path.claims.filter fun p => s.ownClaim p.1
      givenUp := s.path.givenUp.filter fun x => s.ownClaim x } }

/-- The entry of a cleat is set by a frame or a clearing, and the claims that end with it leave their roles. -/
def State.changeEntry (s : State) (x : Cleat) (e : Entry) : State := (s.setEntry x e).pruneClaims

/-- An own claimed cleat enters a role; an earlier role of the cleat ends (03 R46). -/
def State.setRole (s : State) (x : Cleat) (r : ClaimRole) : State :=
  if s.ownClaim x then
    { s with path := { s.path with claims := s.path.claims.filter (fun p => p.1 != x) ++ [(x, r)] } }
  else s

/-- The cleat has the role (03 R46). -/
def State.hasRole (s : State) (x : Cleat) (r : ClaimRole) : Bool := s.path.claims.any fun p => p.1 == x && p.2 == r

/-- The cleat is entered in the given-up list, unless it is there, the list is full, or the entry is not own CLAIMED
(03 R47). -/
def State.enterGivenUp (s : State) (x : Cleat) : State :=
  if s.path.givenUp.length < Config.givenUpPlaces && s.ownClaim x && !s.path.givenUp.contains x then
    { s with path := { s.path with givenUp := s.path.givenUp ++ [x] } }
  else s

-- The Bin Table (04)

/-- The record of a bin is set; the record of bin 0 does not change (04 R71). -/
def State.setBin (s : State) (b : BinNo) (r : BinRecord) : State :=
  if b.val = 0 then s else { s with bins := s.bins.set b.val r b.isLt }

/-- The used count a replica would itself fill in for a frame kind (04 R75); a BIN SET has none. -/
def expectedUsed (k : FrameKind) (used : Nat) : Option Nat :=
  match k with
  | .load => some (min Config.usedLimit (used + 1))
  | .misroute => some (used - 1)
  | .claim | .counts => some used
  | .release | .stray | .binHold | .binOpen | .binSet | .join => none

/-- COUNT MISMATCH for a Known bin whose carried value differs from the expected one (04 R75, step 2). -/
def State.checkCount (s : State) (k : FrameKind) (sender : Nat) (b : BinNo) (carried : Nat) : State :=
  match s.usedOf b with
  | some used =>
    match expectedUsed k used with
    | some expected =>
      if carried = expected then s else s.raise (.countMismatch b used expected carried k sender)
    | none => s
  | none => s

/-- A carried count is adopted for a bin 1 to 8 (04 R75). -/
def State.adopt (s : State) (k : FrameKind) (sender : Nat) (b : BinNo) (carried : Word16) : State :=
  match usedField carried with
  | none => s
  | some u =>
    if b.val = 0 then s
    else
      let s := s.checkCount k sender b u
      s.setBin b { s.bins[b] with used := some u }

/-- Bins 1 to 8 in bin order. -/
def gatedBins : List BinNo := (List.finRange 8).map Fin.succ

/-- The hold cause of a bin, while HELD (04 R71). -/
def BinState.cause : BinState → Option HoldCause
  | .opened => none
  | .held c => some c

/-- Which of the four items of 04 R83 differ, against the bins before the event and the reported full mark. A hold cause that
comes or goes with the state counts as changed too, by the model's choice (log 61). -/
def State.binChanges (before : Vector BinRecord 9) (s : State) (b : BinNo) : BinChanges where
  state := before[b].state.cause.isSome != s.bins[b].state.cause.isSome
  cause := before[b].state.cause != s.bins[b].state.cause
  known := before[b].used.isSome != s.bins[b].used.isSome
  fullness := s.full b != s.bins[b].reportedFull

/-- Some item differs. -/
def BinChanges.any (c : BinChanges) : Bool := c.state || c.cause || c.known || c.fullness

/-- BIN CHANGE for one bin, and its reported full mark (04 R83). -/
def State.reportBin (before : Vector BinRecord 9) (s : State) (b : BinNo) : State :=
  let c := State.binChanges before s b
  if c.any then
    let s := s.raise (.binChange b s.bins[b].state (s.usedOf b) (s.claimedCount b) (s.capacity b) (s.full b) c)
    s.setBin b { s.bins[b] with reportedFull := s.full b }
  else s

/-- BIN CHANGE in bin order after an event (04 R83). -/
def State.reportBins (before : Vector BinRecord 9) (s : State) : State :=
  gatedBins.foldl (State.reportBin before) s

-- The transmit queue (02 2.8)

/-- The used count of a bin as a LOAD fills it in (02 R37): Unknown stays Unknown, bin 0 carries 0. -/
def State.loadUsed (s : State) (b : BinNo) : Word16 :=
  if b.val = 0 then 0 else usedWord ((s.usedOf b).map fun u => min Config.usedLimit (u + 1))

/-- The used count of a bin as a CLAIM fills it in (02 R37). -/
def State.claimUsed (s : State) (b : BinNo) : Word16 := if b.val = 0 then 0 else usedWord (s.usedOf b)

/-- The used count of a bin as a MISROUTE fills it in (02 R37). -/
def State.misrouteUsed (s : State) (b : BinNo) : Word16 := usedWord ((s.usedOf b).map fun u => u - 1)

/-- The used fields filled in from the Bin Table as it stands (02 R37). -/
def State.fill (s : State) : Frame → Frame
  | .load x b m _ => .load x b m (s.loadUsed b)
  | .claim x b _ => .claim x b (s.claimUsed b)
  | .misroute x b _ => .misroute x b (s.misrouteUsed b)
  | .counts d _ => .counts d (Vector.ofFn fun i => usedWord (s.usedOf i.succ))
  | f => f

/-- A frame as it is queued: attempt count 0, waiting (02 R42). -/
def QueuedFrame.fresh (f : Frame) : QueuedFrame :=
  { frame := f, attempts := 0, phase := .waiting, noRetry := false, behind := false, check := none }

/-- The place by kind code and age: behind every frame whose kind code is not above (02 R43). -/
def insertFrame (f : QueuedFrame) : List QueuedFrame → List QueuedFrame
  | [] => [f]
  | g :: rest => if f.frame.kind.code < g.frame.kind.code then f :: g :: rest else g :: insertFrame f rest

/-- What became of a frame given to the queue (02 R43, R44). -/
inductive QueueOutcome where
  | queued | replaced | discarded | full
  deriving DecidableEq, Repr

/-- The queue is full for a kind (02 R44). -/
def State.queueFullFor (s : State) (k : FrameKind) : Bool := decide (k.places ≤ s.line.queue.length)

/-- The frame of the same kind for the same cleat or bin in the queue (02 R43). -/
def State.queuedLike (s : State) (f : Frame) : Option QueuedFrame := s.line.queue.find? fun g => g.frame.sameSlot f

/-- The transmit queue is replaced. -/
def State.setQueue (s : State) (q : List QueuedFrame) : State := { s with line := { s.line with queue := q } }

/-- The payload of a waiting frame of the same slot is replaced; it keeps its place and attempt count (02 R43). -/
def State.replacePayload (s : State) (f : Frame) : State :=
  s.setQueue (s.line.queue.map fun g => if g.frame.sameSlot f then { g with frame := f } else g)

/-- A frame is given to the queue: a duplicate replaces or is discarded (02 R43), a full queue takes none (R44), and
any other takes its place by kind and age. -/
def State.enqueue (s : State) (frame : Frame) : State × QueueOutcome :=
  let f := s.fill frame
  match s.queuedLike f with
  | some g => if g.phase = .waiting then (s.replacePayload f, .replaced) else (s, .discarded)
  | none =>
    if s.queueFullFor f.kind then (s, .full)
    else (s.setQueue (insertFrame (.fresh f) s.line.queue), .queued)

/-- A block queues a frame; a full queue drops it with LINE FAULT, cause QUEUE FULL, but for CLAIM and JOIN (02 R44). -/
def State.queueFrame (s : State) (f : Frame) : State :=
  match s.enqueue f with
  | (s', .full) =>
    match f.kind with
    | .claim | .join => s'
    | k => s'.raiseLineFault (.queueFull k f.subject)
  | (s', _) => s'

/-- The queue takes the frame, or its payload (02 R43, R44). -/
def State.takesFrame (s : State) (f : Frame) : Bool :=
  match (s.enqueue f).2 with
  | .queued | .replaced => true
  | .discarded | .full => false

/-- The waiting frames that a test names leave the queue without a notice (02 R45). -/
def State.withdraw (s : State) (p : Frame → Bool) : State :=
  s.setQueue (s.line.queue.filter fun g => !(g.phase == .waiting && p g.frame))

/-- The frame being sent will not be attempted again, where the test names it (01 R7, 05 R93). -/
def State.markNoRetry (s : State) (p : Frame → Bool) : State :=
  s.setQueue (s.line.queue.map fun g => if g.phase != .waiting && p g.frame then { g with noRetry := true } else g)

/-- The frame being sent leaves the queue. -/
def State.removeInFlight (s : State) : State := s.setQueue (s.line.queue.filter fun g => g.phase == .waiting)

/-- The frame being sent is changed in its place. -/
def State.mapInFlight (s : State) (f : QueuedFrame → QueuedFrame) : State :=
  s.setQueue (s.line.queue.map fun g => if g.phase != .waiting then f g else g)

-- The hold-queue head (03)

/-- The head of the hold queue is changed in its place. -/
def State.mapHead (s : State) (f : Container → Container) : State :=
  match s.path.hold with
  | [] => s
  | h :: rest => { s with path := { s.path with hold := f h :: rest } }

/-- A head back in CLAIMING without a cleat, its hold-wait count as given (03 R46, R53). -/
def Container.unlinked (c : Container) (wait : Option Nat) : Container :=
  { c with stage := .claiming, link := .none, cleat := none, holdWait := wait }

/-- The head's queued CLAIM for the cleat has left the queue unsent: link NONE, cleat removed (02 R42, 03 R66). -/
def State.dropClaim (s : State) (x : Cleat) : State :=
  s.mapHead fun h => if h.link == .queued && h.cleat == some x then h.unlinked h.holdWait else h

-- The line driver and attempts (02 R29, R42)

/-- The block that queued a dropped frame is told (02 R42): a CLAIM sends its head to choose again, a JOIN returns the
listen phase to WAITING HOME (05 R88). -/
def State.frameDropped (s : State) (f : Frame) : State :=
  match f with
  | .claim x _ _ => s.dropClaim x
  | .join _ =>
    if s.member = .listening .joinPending then { s with member := .listening .waitingHome } else s
  | _ => s

/-- A failed attempt of the frame being sent (02 R42): one more attempt in its place, or the drop at the fourth; a
frame that was being sent at a slip leaves without a notice (01 R7). -/
def State.failAttempt (s : State) : State :=
  match s.inFlight with
  | none => s
  | some g =>
    if g.noRetry then s.removeInFlight
    else if g.attempts + 1 < Config.attemptLimit then
      s.mapInFlight fun h => { h with attempts := g.attempts + 1, phase := .waiting, check := none }
    else
      (s.removeInFlight.raiseLineFault (.dropped g.frame.kind g.frame.subject)).frameDropped g.frame

/-- The overload timer after one driven bit (02 R28): one more above the limit, 0 below it. It stays at 16, where one more
is the overload that DRIVER_OVERLOAD reports (R29). -/
def timerBit (timer : Nat) (above : Bool) : Nat := if above then min Config.overloadBits (timer + 1) else 0

/-- The overload timer after driven bits (02 R28): bits in which the station does not drive leave it. -/
def timerAfter (timer : Nat) (current : LineCurrent) : Nat := current.foldl timerBit timer

/-- The driver drives slots and objection runs: READY or FAULTED (02 R30, R39). -/
def State.driverDrives (s : State) : Bool := s.line.driver == .ready || s.line.driver == .faulted

/-- The bits the station has driven are measured (02 R28); a driver that is OFF or in COOL-OFF drives none (R30). -/
def State.measureCurrent (s : State) (current : LineCurrent) : State :=
  { s with line := { s.line with
      overloadTimer := if s.driverDrives then timerAfter s.line.overloadTimer current else s.line.overloadTimer } }

/-- What the station drives in the slots of a frame, where its driver drives (02 R39, R30). -/
def State.driveSlot (s : State) (slot : SlotDrive) : State :=
  { s with line := { s.line with slot := if s.driverDrives then slot else .none } }

/-- ALONE: an attempt of an own frame that reached the Echo slot (02 R41). -/
def State.countEcho (s : State) (echo : Bool) : State :=
  { s with line := { s.line with aloneCount := if echo then 0 else min 8 (s.line.aloneCount + 1) } }

/-- ALONE ends with a good frame of another station (02 R41). -/
def State.endAlone (s : State) : State := { s with line := { s.line with aloneCount := 0 } }

end Machine
end Sys2Proof
end

