-- ==== Sys2Proof/Machine/DriveOps.lean ====
section
/-! DEFINITION. The drive channels (09): what a request, its end, the current, a fault, a cool-off and a cut do to
one channel record, and the same over the channels of State. -/
namespace Sys2Proof
namespace Machine

namespace ChannelRecord

/-- A drive period begins: RUNNING with the clean mark set (09 R154, R157). -/
def begin (r : ChannelRecord) : ChannelRecord := { r with state := .running, clean := true, cleanRun := some 0 }

/-- The driven states end without a fault or a request's end: the timers of the period stop (09 R157). -/
def release (r : ChannelRecord) (state : ChannelState) : ChannelRecord :=
  { r with state := state, grace := none, cleanRun := none }

/-- A request is made (09 R154). -/
def request (r : ChannelRecord) : ChannelRecord :=
  if r.state = .off then { r with standing := true }.begin else { r with standing := true }

/-- The request ends (09 R154, R157): a period that ends clean clears the retry count. -/
def withdraw (r : ChannelRecord) : ChannelRecord :=
  if r.state.driven then
    { r with standing := false, retry := if r.clean then 0 else r.retry }.release .off
  else { r with standing := false }

/-- The load current reaches the limit (09 R155). -/
def limitReached (r : ChannelRecord) : ChannelRecord :=
  if r.state = .running then { r with state := .limiting, grace := some 0, clean := false, cleanRun := none } else r

/-- The load current falls below the limit (09 R155). -/
def limitLeft (r : ChannelRecord) : ChannelRecord :=
  if r.state = .limiting then { r with state := .running, grace := none } else r

/-- A fault under the fault response of a setting; a pulse's request ends with it (09 R156). -/
def fault (r : ChannelRecord) (d : DriveSetting) (pulse : Bool) : ChannelRecord :=
  let retry := min Config.retryLimit (r.retry + 1)
  let r := { r with retry := retry, standing := r.standing && !pulse }
  if d.stops then { r with cause := some .stop }.release .faulted
  else if retry < Config.retryLimit then { r with coolOff := some 0 }.release .coolOff
  else { r with cause := some .retries }.release .faulted

/-- The channel has just become OFF: a standing request makes it RUNNING (09 R154). -/
def settleOff (r : ChannelRecord) : ChannelRecord :=
  let r := { r with state := .off }
  if r.standing then r.begin else r

/-- The cool-off timer expires (09 R158, R162): COOL-OFF ends, a CUT channel only loses the timer. -/
def coolOffExpired (r : ChannelRecord) : ChannelRecord :=
  if r.coolOff.isSome then
    let r := { r with coolOff := none }
    if r.state = .coolOff then r.settleOff else r
  else r

/-- The channel has run clean for its time in one period (09 R157). -/
def cleanRunExpired (r : ChannelRecord) : ChannelRecord :=
  if r.cleanRun.isSome then { r with retry := if r.clean then 0 else r.retry, cleanRun := none } else r

/-- The cut condition begins (09 R162); a pulse ends with it. -/
def cut (r : ChannelRecord) (pulse : Bool) : ChannelRecord :=
  match r.state with
  | .off | .running | .limiting => { r with standing := r.standing && !pulse }.release .cut
  | .coolOff => { r with state := .cut }
  | .faulted | .cut => r

/-- The cut condition ends (09 R162). -/
def uncut (r : ChannelRecord) : ChannelRecord :=
  if r.state = .cut then
    if r.coolOff.isSome then { r with state := .coolOff } else r.settleOff
  else r

/-- CLEAR DRIVE of a FAULTED channel (09 R163). -/
def cleared (r : ChannelRecord) (cutHolds : Bool) : ChannelRecord :=
  let r := { r with cause := none, retry := 0 }
  if cutHolds then { r with state := .cut } else r.settleOff

/-- The channel at Deep Rest entry (09 R153): FAULTED is kept, every request and timer ends. The retry count is kept as R153's
table says, also where a clean drive period ends here, by the model's choice (log 60). -/
def atDeepRest (r : ChannelRecord) : ChannelRecord :=
  { r with state := if r.state = .faulted then .faulted else .off, standing := false, grace := none, coolOff := none,
           clean := false, cleanRun := none }

end ChannelRecord

namespace Drives

/-- The record of a channel. -/
def get (d : Drives) : Channel → ChannelRecord
  | .entry => d.entry
  | .hold => d.hold
  | .flap => d.flap
  | .gate g => d.gates[g]

/-- The record of a channel is set. -/
def put (d : Drives) (c : Channel) (r : ChannelRecord) : Drives :=
  match c with
  | .entry => { d with entry := r }
  | .hold => { d with hold := r }
  | .flap => { d with flap := r }
  | .gate g => { d with gates := d.gates.set g.val r g.isLt }

/-- Every channel record is changed, FLAP by its own change. -/
def mapAll (d : Drives) (f : Bool → ChannelRecord → ChannelRecord) : Drives :=
  { d with entry := f false d.entry, hold := f false d.hold, flap := f true d.flap, gates := d.gates.map (f false) }

/-- The FlapTime timer runs only while the pulse stands (09 R159). -/
def stopIdlePulse (d : Drives) : Drives := { d with flapTimer := if d.flap.standing then d.flapTimer else none }

/-- The states of the eleven channels in order (09 R161). -/
def states (d : Drives) : Vector ChannelState 11 :=
  Vector.ofFn fun i =>
    if i = 0 then d.entry.state else if i = 1 then d.hold.state else if i = 2 then d.flap.state
    else d.gates[i.val - 3]'(by have := i.isLt; omega) |>.state

end Drives

/-- The record of a channel. -/
def State.channel (s : State) (c : Channel) : ChannelRecord := s.drives.get c

/-- The record of a channel is changed. -/
def State.mapChannel (s : State) (c : Channel) (f : ChannelRecord → ChannelRecord) : State :=
  { s with drives := s.drives.put c (f (s.drives.get c)) }

/-- ENTRY is asked to run in a direction; another direction ends the standing request first (09 R151). -/
def State.requestEntry (s : State) (d : Direction) : State :=
  s.mapChannel .entry fun r =>
    let r := if r.standing && r.direction != d then r.withdraw else r
    { r with direction := d }.request

/-- ENTRY is stopped: its request is withdrawn. -/
def State.stopEntry (s : State) : State := s.mapChannel .entry .withdraw

/-- HOLD is asked for while the hold queue holds a record and the transfer eye is clear, and withdrawn otherwise
(06 R111). -/
def State.settleHold (s : State) : State :=
  s.mapChannel .hold fun r =>
    if !s.path.hold.isEmpty && !s.eyes.transfer then (if r.standing then r else r.request)
    else (if r.standing then r.withdraw else r)

/-- A FLAP pulse is asked for: it starts only with the channel OFF (09 R151, R159). -/
def State.pulseFlap (s : State) : State :=
  if (s.channel .flap).state = .off then
    let s := s.mapChannel .flap .request
    { s with drives := { s.drives with flapTimer := some 0 } }
  else s

/-- The DRIVE FAULT notice of a FAULTED channel (09 R156). -/
def State.raiseDriveFault (s : State) (c : Channel) : State :=
  let r := s.channel c
  let d := s.driveSetting c
  match r.cause with
  | some cause =>
    s.raise (.driveFault c cause r.retry d.limitMilliamps d.graceMs
      (if c = .entry then some r.direction else none) r.standing)
  | none => s

/-- A fault of a channel, with its notice when it becomes FAULTED (09 R156). -/
def State.faultChannel (s : State) (c : Channel) : State :=
  let s := s.mapChannel c fun r => r.fault (s.driveSetting c) (c == .flap)
  let s := { s with drives := s.drives.stopIdlePulse }
  if (s.channel c).state = .faulted then s.raiseDriveFault c else s

/-- The cut acts on every channel when the cut condition begins or ends (09 R162): on the gates of a station without sort
duty too (log 42). -/
def State.applyCut (s : State) (held : Bool) : State :=
  if s.cutCondition && !held then { s with drives := (s.drives.mapAll fun pulse r => r.cut pulse).stopIdlePulse }
  else if !s.cutCondition && held then { s with drives := s.drives.mapAll fun _ r => r.uncut }
  else s

/-- The channels after power-on reset, RESTART or Deep Rest entry, CUT where the cut condition holds (09 R153). -/
def State.resetDrives (s : State) (d : Drives) : State :=
  { s with drives := if s.cutCondition then d.mapAll fun pulse r => r.cut pulse else d }

/-- The channels at Deep Rest entry (09 R153). -/
def Drives.atDeepRest (d : Drives) : Drives :=
  { d.mapAll fun _ r => r.atDeepRest with flapTimer := none }

end Machine
end Sys2Proof
end

