-- ==== Sys2Proof/Machine/SessionOps.lean ====
section
/-! DEFINITION. The Session Unit's operations (10): acceptance, credit, loss, the undecided mark, the idle timer, the
close and its end with the voucher number, and the tests of the doze condition (11 R185). -/
namespace Sys2Proof
namespace Machine

/-- A session with no customer: the record of IDLE, the sequence and history as given (10 R164). -/
def Session.emptied (n : Session) : Session :=
  { n with state := .idle, lines := [], total := 0, count := 0, pending := 0, reason := none, number := none,
           idleTimer := none }

/-- A change of the session record. -/
def State.mapSession (s : State) (f : Session → Session) : State := { s with session := f s.session }

/-- A close with count 1 or more: CLOSED with the number of the present sequence value, which then rises (10 R170,
R171). -/
def State.assignNumber (s : State) : State :=
  let number := s.voucherNumber s.session.sequence
  let s := s.mapSession fun n => { n with state := .closed, number := some number, sequence := n.sequence + 1 }
  let s := s.raise (.sessionClosed number (s.session.reason.getD .customer) s.session.total s.session.count
    s.session.lines.length)
  if s.exhausted then s.raise (.vouchersExhausted number) else s

/-- The end of a close: in CLOSING, with pending 0 and no undecided container (10 R170). -/
def State.endClose (s : State) : State :=
  if s.session.state = .closing ∧ s.session.pending = 0 ∧ s.session.undecided = false then
    if 1 ≤ s.session.count then s.assignNumber else s.mapSession Session.emptied
  else s

/-- The close begins with a reason (10 R169), and ends at once where nothing is waited for (R170). -/
def State.beginClose (s : State) (reason : CloseReason) : State :=
  (s.mapSession fun n => { n with state := .closing, reason := some reason, idleTimer := none }).endClose

/-- The Session Unit is told of an acceptance (10 R165). -/
def Session.accept (n : Session) : Session :=
  match n.state with
  | .idle => { n with state := .opened, lines := [], total := 0, count := 0, pending := 1, idleTimer := some 0 }
  | .opened | .closing => { n with pending := n.pending + 1 }
  | .closed => n

/-- The tally line of the code rises, or a new line is appended (10 R166, step 1). -/
def creditLines (code : Code) (value : Nat) : List TallyLine → List TallyLine
  | [] => [{ code := code, value := value, count := 1 }]
  | l :: rest => if l.code = code then { l with count := l.count + 1 } :: rest else l :: creditLines code value rest

/-- The record after a credit (10 R166); a container is credited only to the session that waits for it, OPEN or
CLOSING. -/
def Session.credited (n : Session) (code : Code) (value : Nat) : Session :=
  match n.state with
  | .opened | .closing =>
    { n with lines := creditLines code value n.lines, total := n.total + value, count := n.count + 1,
             pending := n.pending - 1, idleTimer := if n.state = .opened then some 0 else n.idleTimer }
  | .idle | .closed => n

/-- A credit, which may end a close (10 R166, R170). -/
def State.credit (s : State) (code : Code) (value : Nat) : State :=
  (s.mapSession fun n => n.credited code value).endClose

/-- A pending container has been lost, which may end a close (10 R167). -/
def State.losePending (s : State) : State := (s.mapSession fun n => { n with pending := n.pending - 1 }).endClose

/-- The undecided report begins (10 R167). -/
def State.setUndecided (s : State) : State := s.mapSession fun n => { n with undecided := true }

/-- The undecided report ends (10 R167), which may end a close (R170). -/
def State.clearUndecided (s : State) : State := (s.mapSession fun n => { n with undecided := false }).endClose

/-- An aperture-eye event restarts the idle timer of an OPEN session (10 R168). -/
def State.apertureEvent (s : State) : State :=
  s.mapSession fun n => if n.state = .opened then { n with idleTimer := some 0 } else n

/-- A voucher joins the history; a full history loses its oldest (10 R173). -/
def addVoucher (history : List Voucher) (v : Voucher) : List Voucher :=
  (if history.length < Config.historyPlaces then history else history.drop 1) ++ [v]

/-- RESTART acts on the session (10 R174). -/
def State.restartSession (s : State) : State :=
  match s.session.state with
  | .idle | .closed => s.mapSession fun n => { n with pending := 0, undecided := false, idleTimer := none }
  | .opened | .closing =>
    (s.mapSession fun n => { n with pending := 0, undecided := false }).beginClose .restart

/-- The test of the doze condition (11 R185): the timer starts when the condition begins to hold, and the timer and
the offered mark end when it ceases. -/
def State.testDoze (s : State) : State :=
  if s.dozeCondition then
    if s.host.dozeTimer.isNone && !s.host.offered then { s with host := { s.host with dozeTimer := some 0 } } else s
  else { s with host := { s.host with dozeTimer := none, offered := false } }

end Machine
end Sys2Proof
end

