-- ==== Sys2Proof/Machine/ArticleOps.lean ====
section
/-! DEFINITION. The article record and its places (08 R133 to R136), the Article Cache (R139), the Store port arbiter
(R143) and the reading of one group burst (R140, R141). -/
namespace Sys2Proof
namespace Machine

-- The record (08 R133, R134)

/-- The value of `n` bytes of an entry from a place on, high byte first (08 R133). -/
def entryNat (e : EntryBytes) (place n : Nat) : Nat :=
  ((e.toList.drop place).take n).foldl (fun v b => 256 * v + b.toNat) 0

/-- The code of an entry (08 R133). -/
def entryCode (e : EntryBytes) : Code := BitVec.ofNat 48 (entryNat e 0 6)

/-- The first field out of range of an entry, in the order of the table of 08 R133 (R134). -/
def malformedField (e : EntryBytes) : Option MalformedField :=
  if 9999 < entryNat e 6 2 then some .deposit
  else if (Material.ofCode (entryNat e 8 1)).isNone then some .material
  else if 8 < entryNat e 9 1 then some .bin
  else if entryNat e 12 2 < entryNat e 10 2 then some .weightMin
  else if 4 < entryNat e 14 1 then some .heightClass
  else none

/-- An entry read as a record, or the field that makes it malformed (08 R133, R134). -/
def readEntry (e : EntryBytes) : Except MalformedField Article :=
  match malformedField e with
  | some f => .error f
  | none => .ok
      { code := entryCode e
        deposit := entryNat e 6 2
        material := (Material.ofCode (entryNat e 8 1)).getD .other
        bin := (binOf (entryNat e 9 1)).getD 0
        weightMin := entryNat e 10 2
        weightMax := entryNat e 12 2
        heightClass := entryNat e 14 1
        flags := BitVec.ofNat 8 (entryNat e 15 1) }

/-- The metal-expected flag (08 R133). -/
def Article.metalExpected (a : Article) : Bool := a.flags.getLsbD 0

-- The places of a code (08 R136)

/-- h1, the exclusive or of the three 16-bit parts of a code (08 R136). -/
def codeHash (code : Code) : Word16 :=
  code.extractLsb' 32 16 ^^^ code.extractLsb' 16 16 ^^^ code.extractLsb' 0 16

/-- The primary group of a code in a table of G groups (08 R136). -/
def primaryGroup (groups : Nat) (code : Code) : Nat := (codeHash code).toNat % groups

/-- The secondary group of a code (08 R136). -/
def secondaryGroup (groups : Nat) (code : Code) : Nat := (codeHash code ^^^ 0xFFFF#16).toNat % groups

/-- The start entry of a code (08 R136). -/
def startEntry (code : Code) : Nat := code.toNat % 8

/-- The cache set of a code (08 R136). -/
def cacheSetOf (code : Code) : Fin 64 := ⟨(codeHash code).toNat % 64, Nat.mod_lt _ (by decide)⟩

/-- The entries of a group in burst order, from the start entry and wrapping (08 R140). -/
def burst (group : GroupBytes) (start : Nat) : List (Fin 8 × EntryBytes) :=
  (List.finRange 8).map fun i =>
    let k : Fin 8 := ⟨(start + i.val) % 8, Nat.mod_lt _ (by decide)⟩
    (k, group[k])

/-- The result of a burst (08 R141). -/
inductive BurstResult where
  | found (a : Article)
  | malformed (entry : Fin 8) (field : MalformedField)
  | noMatch (emptySeen : Bool)
  deriving DecidableEq, Repr

/-- What a burst of a group finds for a code (08 R140, R141). -/
def readBurst (group : GroupBytes) (code : Code) : BurstResult :=
  match (burst group (startEntry code)).find? fun p => entryCode p.2 == code with
  | some (k, e) =>
    match readEntry e with
    | .ok a => .found a
    | .error f => .malformed k f
  | none => .noMatch (group.toList.any fun e => entryCode e == 0)

-- The Article Cache (08 R139)

namespace CacheSet

/-- The way that holds a code (08 R137). -/
def wayOf (c : CacheSet) (code : Code) : Option (Fin 4) :=
  (List.finRange 4).find? fun w => (c.ways[w]).any fun a => a.code == code

/-- The victim that the tree bits name (08 R139). -/
def victim (c : CacheSet) : Fin 4 :=
  if c.t0 then (if c.t2 then 3 else 2) else (if c.t1 then 1 else 0)

/-- An access points the bits away from the way (08 R139). -/
def access (c : CacheSet) (w : Fin 4) : CacheSet :=
  if w = 0 then { c with t0 := true, t1 := true }
  else if w = 1 then { c with t0 := true, t1 := false }
  else if w = 2 then { c with t0 := false, t2 := true }
  else { c with t0 := false, t2 := false }

/-- The way that a fill for a code takes: the way of the code, the lowest invalid way, or the victim (08 R139). -/
def fillWay (c : CacheSet) (code : Code) : Fin 4 :=
  match c.wayOf code with
  | some w => w
  | none =>
    match (List.finRange 4).find? fun w => (c.ways[w]).isNone with
    | some w => w
    | none => c.victim

/-- A fill (08 R139). -/
def fill (c : CacheSet) (a : Article) : CacheSet :=
  let w := c.fillWay a.code
  { c with ways := c.ways.set w.val (some a) w.isLt }.access w

/-- The valid mark of a way is cleared; the tree bits stand (08 R139, R149). -/
def invalidate (c : CacheSet) (w : Fin 4) : CacheSet := { c with ways := c.ways.set w.val none w.isLt }

end CacheSet

/-- A change of the Article Unit. -/
def State.mapArticle (s : State) (f : ArticleUnit → ArticleUnit) : State := { s with article := f s.article }

/-- The set of a code in the cache. -/
def ArticleUnit.setFor (u : ArticleUnit) (code : Code) : CacheSet := u.cache[cacheSetOf code]

/-- The set of a code is replaced. -/
def ArticleUnit.putSet (u : ArticleUnit) (code : Code) (c : CacheSet) : ArticleUnit :=
  { u with cache := u.cache.set (cacheSetOf code).val c (cacheSetOf code).isLt }

/-- A record is filled into the set of its code (08 R139). -/
def ArticleUnit.fill (u : ArticleUnit) (a : Article) : ArticleUnit := u.putSet a.code ((u.setFor a.code).fill a)

/-- The cache with every way invalid and every tree bit 0, after a reset that does not keep it: R139's table, against its
words, which leave the tree bits as they stand (08 R139, log 55). -/
def ArticleUnit.clearCache (u : ArticleUnit) : ArticleUnit := { u with cache := Vector.replicate 64 .initial }

-- The Store port arbiter (08 R143)

/-- The walk at the arbiter. -/
def ArticleUnit.walk (u : ArticleUnit) : Option Walk :=
  match u.lookup with
  | .walking w => some w
  | .idle | .querying _ _ => none

/-- A walk is running. -/
def ArticleUnit.walkRunning (u : ArticleUnit) : Bool := u.walk.any fun w => w.phase != .waitingPort

/-- A host access is running. -/
def ArticleUnit.accessRunning (u : ArticleUnit) : Bool := u.access.any fun a => a.stage != .waiting

/-- The port is free: neither is running (08 R143). -/
def ArticleUnit.portFree (u : ArticleUnit) : Bool := !u.walkRunning && !u.accessRunning

/-- When the port is free, a waiting walk starts, and otherwise a waiting host access (08 R143). -/
def ArticleUnit.arbitrate (u : ArticleUnit) : ArticleUnit :=
  if u.portFree then
    match u.lookup with
    | .walking w => { u with lookup := .walking { w with phase := .primary } }
    | .idle | .querying _ _ =>
      match u.access with
      | some a => { u with access := some { a with stage := .running } }
      | none => u
  else u

/-- A walk is requested at the arbiter (08 R137, R149): it starts on a free port. -/
def ArticleUnit.requestWalk (u : ArticleUnit) (code : Code) (tag : Tag) : ArticleUnit :=
  { u with lookup := .walking { code := code, tag := tag, phase := if u.accessRunning then .waitingPort else .primary,
                                revoked := false, withdrawn := false } }

/-- The Intake Sequencer withdraws its request (08 R150). -/
def ArticleUnit.withdrawLookup (u : ArticleUnit) : ArticleUnit :=
  match u.lookup with
  | .idle => { u with waiting := none }
  | .walking w => { u with lookup := .walking { w with withdrawn := true }, waiting := none }
  | .querying _ _ => { u with lookup := .idle, queryTimer := none, waiting := none }

/-- A lookup at Deep Rest entry or RESTART: any walk and query end, nothing is handed on (08 R146, R147, R150). -/
def ArticleUnit.endLookup (u : ArticleUnit) : ArticleUnit :=
  { u with lookup := .idle, queryTimer := none, waiting := none }

/-- The standing of the walk for READ STATUS (08 R143). -/
def ArticleUnit.walkState (u : ArticleUnit) : ArbiterState :=
  match u.walk with
  | none => .absent
  | some w => if w.phase = .waitingPort then .waiting else .running

/-- The standing of the host access for READ STATUS (08 R143). -/
def ArticleUnit.accessState (u : ArticleUnit) : ArbiterState :=
  match u.access with
  | none => .absent
  | some a => if a.stage = .waiting then .waiting else .running

end Machine
end Sys2Proof
end

