-- ==== Sys2Proof/Machine/PathOps.lean ====
section
/-! DEFINITION. The Intake Sequencer (06): taking a container, its moves on ENTRY, jams, the rejection and the
acceptance, the lookup of its article (08 R137), and the scanning of the container at the scan eye (06 R105 to R108). -/
namespace Sys2Proof
namespace Machine

/-- A record just made (06 R101, R103). -/
def Container.entering (tag : Tag) : Container where
  tag := tag
  stage := .entering
  code := none
  secondCode := false
  article := none
  bin := none
  value := none
  cleat := none
  reject := none
  holdWait := none
  link := .none
  landing := 0
  trust := false

/-- A change of the path. -/
def State.mapPath (s : State) (f : Path → Path) : State := { s with path := f s.path }

/-- The record of the entry zone is replaced. -/
def State.setEntryRecord (s : State) (c : Container) : State := s.mapPath fun p => { p with entry := some c }

/-- The entry zone is empty, its timer and window stopped. -/
def State.emptyEntry (s : State) : State :=
  s.mapPath fun p => { p with entry := none, entryTimer := none, readTimer := none, window := false }

/-- The Scan Unit's held record is consumed or discarded (07 R122, R123). -/
def State.dropScan (s : State) : State :=
  { s with scan := { s.scan with record := none, overrunPending := false } }

/-- A Container Scan in progress is abandoned, with a held record (07 R123). -/
def State.abandonScan (s : State) : State :=
  { s.dropScan with scan := { s.dropScan.scan with
      program := if s.scan.program = .scanning then .watching else s.scan.program } }

-- Jams (06 R114)

/-- The stage is reported to the Session Unit as undecided (06 R116). -/
def Stage.undecided : Stage → Bool
  | .entering | .scanning | .classifying => true
  | .waitingHold | .returning _ | .claiming | .ready | .transferring | .stuck => false

/-- The Session Unit is told what a jam in the entry zone ends: a pending container, or an undecided report (06 R114,
R116). -/
def State.endReport (s : State) (before : Stage) : State :=
  if before = .waitingHold then s.losePending else if before.undecided then s.clearUndecided else s

/-- The record of the entry zone becomes STUCK (06 R114). -/
def State.jamEntry (s : State) (c : Container) (cause : JamCause) (channel : Option Channel) : State :=
  let s := (s.emptyEntry.stopEntry).setEntryRecord { c with stage := .stuck }
  (s.endReport c.stage).raise (.jam c.tag .entryZone cause c.stage channel)

/-- ENTRY is in COOL-OFF or FAULTED (06 R104). -/
def State.entryTroubled (s : State) : Bool :=
  (s.channel .entry).state == .coolOff || (s.channel .entry).state == .faulted

/-- The record of the entry zone is being moved by ENTRY (06 R104, R109, R110). -/
def State.entryMoving (s : State) : Bool :=
  s.path.entry.any fun c =>
    c.stage == .entering || c.stage == .returning .backing || (c.stage == .waitingHold && s.path.entryTimer.isSome)

/-- ENTRY entering COOL-OFF or FAULTED, or found there, jams the record it moves (06 R104, R109, R110). -/
def State.checkEntryDrive (s : State) : State :=
  if s.entryTroubled && s.entryMoving then
    match s.path.entry with
    | some c => s.jamEntry c .drive (some .entry)
    | none => s
  else s

/-- A move of the record is begun: ENTRY runs and EntryTime starts (06 R103, R109, R110). -/
def State.startMove (s : State) (d : Direction) : State :=
  ((s.requestEntry d).mapPath fun p => { p with entryTimer := some 0 }).checkEntryDrive

-- The return (06 R110)

/-- A container in BACKING with the scan eye clear and the aperture eye blocked is OFFERED (06 R110). -/
def State.testOffered (s : State) : State :=
  match s.path.entry with
  | some c =>
    if c.stage = .returning .backing ∧ s.scan.filtered = false ∧ s.eyes.aperture = true then
      (s.stopEntry.setEntryRecord { c with stage := .returning .offered }).mapPath fun p =>
        { p with entryTimer := none }
    else s
  | none => s

/-- The record of the entry zone is rejected (06 R110): the scan record is consumed, the undecided report ends, and
ENTRY runs in reverse. The move is asked for before OFFERED is tested (log 16), so ENTRY found in COOL-OFF or FAULTED
jams the record first, by the model's choice (log 47). -/
def State.reject (s : State) (c : Container) (reason : RejectReason) : State :=
  let s := s.emptyEntry.setEntryRecord { c with stage := .returning .backing, reject := some reason }
  (s.dropScan.clearUndecided.startMove .reverse).testOffered

/-- The record of the entry zone becomes RETURNED and leaves the path (06 R110). -/
def State.returnContainer (s : State) (c : Container) : State :=
  (s.stopEntry.emptyEntry).raise (.containerDone c.tag (.returned c.reject c.code))

/-- The record of the entry zone is discarded, without credit and without a notice (06 R104, R106). -/
def State.discardEntry (s : State) : State := s.stopEntry.emptyEntry.clearUndecided

-- The acceptance (06 R109)

/-- The move of a WAITING HOLD record starts while the hold queue has a free place (06 R109). -/
def State.startHandover (s : State) : State :=
  match s.path.entry with
  | some c =>
    if c.stage = .waitingHold ∧ s.path.entryTimer = none ∧ s.path.hold.length < Config.holdPlaces then
      s.startMove .forward
    else s
  | none => s

/-- The record is accepted for an article (06 R109): bin and value fixed, the Session Unit told, the scan record
consumed, WAITING HOLD. -/
def State.accept (s : State) (c : Container) (a : Article) : State :=
  let s := s.emptyEntry.setEntryRecord
    { c with stage := .waitingHold, article := some a, bin := some a.bin, value := some a.deposit }
  ((s.dropScan.mapSession Session.accept).clearUndecided).startHandover

/-- The record joins the hold queue at its tail (06 R109). -/
def State.joinHold (s : State) (c : Container) : State :=
  ((s.stopEntry.emptyEntry).mapPath fun p =>
    { p with hold := p.hold ++ [{ c with stage := .claiming, link := .none, holdWait := some 0 }] }).settleHold

-- The full decision (06 R108)

/-- The pending containers of the session: the records of the hold queue and the transfer slot that are not STUCK. -/
def State.pendingContainers (s : State) : List Container :=
  (s.path.hold ++ s.path.transfer.toList).filter fun c => !c.isStuck

/-- The codes of the pending containers. -/
def State.pendingCodes (s : State) : List Code := s.pendingContainers.filterMap Container.code

/-- The codes of the prospective lines (06 R108). -/
def State.prospectiveCodes (s : State) : List Code :=
  let tallied := s.session.lines.map TallyLine.code
  tallied ++ (s.pendingCodes.filter fun code => !tallied.contains code).dedup

/-- The prospective total (06 R108). -/
def State.prospectiveTotal (s : State) : Nat :=
  s.session.total + (s.pendingContainers.filterMap Container.value).sum

/-- The prospective count of a line (06 R108). -/
def State.prospectiveCount (s : State) (code : Code) : Nat :=
  ((s.session.lines.filter fun l => l.code == code).map TallyLine.count).sum + s.pendingCodes.count code

/-- This station's uncovered containers for a bin (06 R108, check 9). -/
def State.uncovered (s : State) (b : BinNo) : Nat :=
  (s.path.hold ++ s.path.transfer.toList).countP fun c =>
    c.bin == some b && !(c.cleat.any fun x => (s.entryAt x).claimedByFor s.station b)

/-- The measures of a scan record fit an article (06 R108, check 6; 07 R122: an absent measure does not fail). -/
def ScanRecord.fits (r : ScanRecord) (a : Article) : Bool :=
  (r.weight.all fun w => decide (a.weightMin ≤ w ∧ w ≤ a.weightMax))
    && (r.bars.all fun n => n == a.heightClass) && (r.metal.all fun m => m == a.metalExpected)

/-- Check 9 (06 R108): the reject reason of the article's bin, if it fails. -/
def State.binReject (s : State) (b : BinNo) : Option RejectReason :=
  if b.val = 0 then none
  else if s.bins[b].state != .opened then some .binHeld
  else
    match s.usedOf b with
    | none => some .binUnknown
    | some u => if s.capacityOf b < u + s.claimedCount b + s.uncovered b + 1 then some .binFull else none

/-- The first tests of the decision (06 R107). -/
def State.firstReject (s : State) (c : Container) : Option RejectReason :=
  if c.code.isNone then some .noCode
  else if c.secondCode then some .mixed
  else if s.scan.record.any fun r => r.overrun then some .doubleEntry
  else none

/-- Checks 4 to 9 for an answer of the Article Unit (06 R108). -/
def State.articleReject (s : State) (code : Code) (answer : Option Article) : Option RejectReason :=
  match answer with
  | none => some .unknown
  | some a =>
    if a.deposit = 0 then some .noDeposit
    else if s.scan.record.any fun r => !r.fits a then some .profile
    else if !s.prospectiveCodes.contains code && decide (Config.tallyLimit ≤ s.prospectiveCodes.length) then
      some .sessionFull
    else if decide (Config.totalLimit < s.prospectiveTotal + a.deposit)
        || decide (Config.lineLimit < s.prospectiveCount code + 1) then some .limit
    else s.binReject a.bin

/-- The checks in order for a record and the answer of the Article Unit (06 R108): the first that fails rejects. -/
def State.decideFor (s : State) (c : Container) (answer : Option Article) : State :=
  match s.firstReject c, s.articleReject (c.code.getD 0) answer, answer with
  | some reason, _, _ => s.reject c reason
  | none, some reason, _ => s.reject c reason
  | none, none, some a => s.accept c a
  | none, none, none => s

/-- The full decision on the answer of the Article Unit (06 R107, R108); a record found stays with the container (R101). -/
def State.fullDecision (s : State) (answer : Option Article) : State :=
  match s.path.entry with
  | some c => if c.stage = .classifying then s.decideFor { c with article := answer } answer else s
  | none => s

-- The lookup (08 R137)

/-- A lookup in IDLE: a hit is handed to the Intake Sequencer, a miss requests a walk (08 R137). -/
def State.lookupNow (s : State) (code : Code) (tag : Tag) : State :=
  let set := s.article.setFor code
  match set.wayOf code with
  | some w =>
    (s.mapArticle fun u => { u.putSet code (set.access w) with waiting := none }).fullDecision set.ways[w]
  | none => s.mapArticle fun u => { u.requestWalk code tag with waiting := none }

/-- The Intake Sequencer asks for the record of a code; a withdrawn walk is waited for (08 R137, R150). -/
def State.requestLookup (s : State) (code : Code) (tag : Tag) : State :=
  match s.article.lookup with
  | .idle => s.lookupNow code tag
  | .walking _ | .querying _ _ => s.mapArticle fun u => { u with waiting := some (code, tag) }

/-- A lookup that waited for a withdrawn walk is made when that walk has ended (08 R150), and the port has been given to a
host access that waited: a walk for it then waits for that access, by the model's choice (log 20). -/
def State.resumeLookup (s : State) : State :=
  match s.article.waiting with
  | some (code, tag) => s.lookupNow code tag
  | none => s

-- Scanning and classifying (06 R105 to R107)

/-- The first part of the decision: rejection, or the request of the article (06 R107). -/
def State.classify (s : State) (c : Container) : State :=
  let c := { c with stage := .classifying }
  let s := s.setEntryRecord c
  match s.firstReject c, c.code with
  | some reason, _ => s.reject c reason
  | none, some code => s.requestLookup code c.tag
  | none, none => s

/-- SCANNING ends when the window is closed and the scan record complete (06 R105). -/
def State.testClassify (s : State) : State :=
  match s.path.entry with
  | some c =>
    if c.stage = .scanning ∧ s.path.window = false ∧ s.scan.record.isSome = true then s.classify c else s
  | none => s

/-- The code window closes (06 R105). -/
def State.closeWindow (s : State) : State := s.mapPath fun p => { p with window := false, readTimer := none }

/-- A trigger (07 R125): the overrun mark is set on the scan in progress or on the held record. -/
def State.trigger (s : State) : State :=
  if s.scan.program = .scanning then { s with scan := { s.scan with overrunPending := true } }
  else
    match s.scan.record with
    | some r => { s with scan := { s.scan with record := some { r with overrun := true } } }
    | none => s

/-- A Container Scan is asked for (07 R120, R121). -/
def State.requestScan (s : State) : State :=
  if s.scan.program = .scanning || s.scan.record.isSome then s.trigger
  else if s.scan.program = .watching then { s with scan := { s.scan with program := .scanning, overrunPending := false } }
  else s

/-- The record enters SCANNING (06 R104, R105): ENTRY and EntryTime stop, the scan is asked for, the window opens. -/
def State.enterScanning (s : State) (c : Container) : State :=
  ((s.stopEntry.setEntryRecord { c with stage := .scanning }).mapPath fun p =>
    { p with entryTimer := none, window := true, readTimer := some 0 }).requestScan

/-- The filtered scan eye is blocked: an ENTERING record goes on to SCANNING (06 R104). -/
def State.scanEyeSeen (s : State) : State :=
  match s.path.entry with
  | some c => if c.stage = .entering then s.enterScanning c else s
  | none => s

/-- The Intake Sequencer's withdrawal of its request (06 R106, 08 R150). -/
def State.withdrawLookup (s : State) : State := s.mapArticle .withdrawLookup

/-- The container has been pulled back from the scan position (06 R106). -/
def State.pullBack (s : State) (c : Container) : State :=
  let s := s.closeWindow.abandonScan.withdrawLookup
  if s.eyes.aperture then s.reject c .doubleEntry else s.discardEntry

-- Taking a container (06 R103)

/-- The conditions for a new record (06 R103). -/
def State.mayStart (s : State) : Bool :=
  s.eyes.aperture && s.synced && s.host.rest == .active && s.path.entry.isNone && !s.hasStuck
    && ((s.session.state == .idle && !s.exhausted) || s.session.state == .opened)

/-- A new record is made when its conditions hold (06 R103); a scan eye already blocked is taken at once (R104), but after
the move has been asked for: ENTRY found in COOL-OFF or FAULTED jams the record first, by the model's choice (log 46). -/
def State.tryStart (s : State) : State :=
  if s.mayStart then
    let s := (s.setEntryRecord (.entering s.path.tagCounter)).mapPath fun p => { p with tagCounter := p.tagCounter + 1 }
    let s := s.setUndecided.startMove .forward
    if s.scan.filtered then s.scanEyeSeen else s
  else s

end Machine
end Sys2Proof
end

