-- ==== Sys2Proof/Machine/MemberOps.lean ====
section
/-! DEFINITION. Joining, leaving and resting: the membership changes of 05, the missed gates of 01 R20, the changes
of the heat stage and the supply as the drives see them (09 R162), and the entries into and exits from the rest
levels (11 R186 to R189). -/
namespace Sys2Proof
namespace Machine

-- Membership (05)

/-- An entry into LISTENING, SYNCED or CONFLICT, with its JOIN STATE (05 R86). -/
def State.changeMember (s : State) (m : Membership) (cause : JoinCause) : State :=
  { s with member := m }.raise (.joinState m.state s.member.state cause)

/-- The trust mark of the transfer slot is cleared (01 R7, R14). -/
def State.loseTrust (s : State) : State :=
  s.mapPath fun p => { p with transfer := p.transfer.map fun c => { c with trust := false } }

/-- The Line Controller as the station leaves OFFLINE (02 R24, R28): BUSY until 11 bit times of rest, the driver READY
unless FAULTED, a frame in progress missed whole. -/
def Line.listening (l : Line) : Line :=
  { l with condition := .busy, runLevel := .rest, runLength := 0, missing := true, objecting := false, slot := .none,
           driver := if l.driver = .faulted then .faulted else .ready }

/-- The station leaves OFFLINE into LISTENING, WAITING HOME (05 R87; 07 R124, R130). -/
def State.leaveOffline (s : State) (cause : JoinCause) : State :=
  let s := { s with
    line := s.line.listening
    scan := { s.scan with filtered := s.eyes.scan, gap := none }
    reader := { run := .settling, assembly := .idle } }
  s.changeMember (.listening .waitingHome) cause

/-- The entry into CONFLICT (05 R98). -/
def State.enterConflict (s : State) (cause : JoinCause) : State := (s.setQueue []).changeMember .conflict cause

-- Missed gates (01 R20)

/-- The frames of sort duty are queued (01 R18): by a SYNCED station, from the pitch mark on that follows the one at which it
became SYNCED (05 R89). -/
def State.reportsDuty (s : State) : Bool := s.synced && s.dutyReports

/-- MISROUTE, and BIN HOLD for a FAULTED channel and a bin that is not HELD, are queued for a missed gate (01 R20). -/
def State.reportMiss (s : State) (g : Gate) (x : Cleat) (first : Bool) : State :=
  if s.reportsDuty then
    let s := if first then s.queueFrame (.misroute x (gateBin g) 0) else s
    if (s.channel (.gate g)).state = .faulted ∧ s.bins[gateBin g].state = .opened then
      s.queueFrame (.binHold (gateBin g) .gateFault)
    else s
  else s

/-- The cleat of a gate interval has missed its gate (01 R20): counted once in the interval. -/
def State.missGate (s : State) (g : Gate) : State :=
  match s.gates[g] with
  | some i =>
    ({ s with gates := s.gates.set g.val (some { i with missed := true }) g.isLt }).reportMiss g i.cleat (!i.missed)
  | none => s

/-- A gate that has left the driven states within its interval has missed (01 R20). -/
def State.checkGateLeft (before : Drives) (s : State) (g : Gate) : State :=
  if (before.get (.gate g)).state.driven && !(s.channel (.gate g)).state.driven then s.missGate g else s

/-- The owners are told of the channels that a cut or its end has changed (09 R154): gates that left the driven states
miss (01 R20), in the order of their numbers, by the model's choice (log 52), and a record moved by ENTRY may be jammed (06
R104). -/
def State.tellOwners (before : Drives) (s : State) : State :=
  ((List.finRange 8).foldl (State.checkGateLeft before) s).checkEntryDrive

/-- The drives follow a change of the heat stage or the supply condition (09 R162). -/
def State.followCut (before : State) (s : State) : State :=
  (s.applyCut before.cutCondition).tellOwners s.drives

-- Rest levels (11 R186 to R188)

/-- The return from Doze to Active (11 R186): the code reader receiver runs, a container at the aperture is taken, the
doze condition is tested. -/
def State.returnActive (s : State) : State :=
  let s := { s with
    host := { s.host with rest := .active }
    reader := { run := if s.online then .settling else .stopped, assembly := .idle } }
  s.tryStart.testDoze

/-- Entry into Doze (11 R186). -/
def State.enterDoze (s : State) : State :=
  { s with
    host := { s.host with rest := .doze, offered := false, dozeTimer := none }
    reader := { run := .stopped, assembly := .idle }
    article := s.article.endLookup }

/-- The Line Controller at Deep Rest entry (02 R24, R27, R28, R41, R43). -/
def Line.atDeepRest (l : Line) : Line :=
  { Line.initial with driver := if l.driver = .faulted then .faulted else .off, overloadTimer := l.overloadTimer,
                      overloadCount := l.overloadCount }

/-- The Scan Unit at Deep Rest entry (07 R120). -/
def ScanUnit.atDeepRest (u : ScanUnit) : ScanUnit :=
  { u with program := .halted, overrunPending := false, record := none, gap := none }

/-- The Scan Unit at RESTART (07 R120). -/
def ScanUnit.atRestart (u : ScanUnit) : ScanUnit :=
  { u with program := .watching, overrunPending := false, record := none, gap := none }

/-- The blocks that Deep Rest entry and RESTART reset alike: the Belt Tracker, the Cleat Map, the Bin Table, the gate
intervals, the membership state and the path (11 R187, R189). -/
def State.emptyBank (s : State) : State :=
  { s with belt := .initial, map := freeMap, bins := Vector.replicate 9 .initial, gates := Vector.replicate 8 none,
           dutyReports := false, member := .offline, path := .emptied s.path.tagCounter }

/-- Entry into Deep Rest (11 R187). -/
def State.enterDeepRest (s : State) : State :=
  let article := s.article.endLookup
  let s := { s.emptyBank with
    line := s.line.atDeepRest
    scan := s.scan.atDeepRest
    reader := { run := .stopped, assembly := .idle }
    article := if s.host.cfg.keepCache = 1 then article else article.clearCache
    session := { s.session with pending := 0, undecided := false, idleTimer := none }
    host := { s.host with rest := .deepRest, dozeTimer := none, offered := false } }
  s.resetDrives s.drives.atDeepRest

/-- A Wake pulse is asked for (02 R27): a stuck line or a FAULTED driver discards the request. -/
def State.requestWake (s : State) : State :=
  if s.line.condition = .stuck ∨ s.line.driver = .faulted then s
  else { s with line := { s.line with wake := .waiting } }

/-- The exit from Deep Rest (11 R188): Active, LISTENING, the Scan Unit WATCHING, and with wake-peers a Wake pulse
where the exit was by the aperture eye or by WAKE. -/
def State.exitDeepRest (s : State) (cause : JoinCause) (pulse : Bool) : State :=
  let s := { s with
    host := { s.host with rest := .active }
    scan := { s.scan with program := .watching } }
  let s := s.leaveOffline cause
  if pulse && s.host.cfg.wakePeers == 1 then s.requestWake else s

-- RESTART (11 R189)

/-- The restart (11 R189): the blocks' RESTART values, the notices cleared, the session, LISTENING, the doze test. -/
def State.restart (s : State) : State :=
  let s := { s.emptyBank with
    line := .initial
    scan := s.scan.atRestart
    reader := { run := .stopped, assembly := .idle }
    article := { s.article.endLookup.clearCache with access := none, busyTimer := none }
    notices := clearedNotices
    host := { s.host with rest := .active, dozeTimer := none, offered := false, restartPending := false } }
  (((s.resetDrives .initial).restartSession).leaveOffline .restart).testDoze

end Machine
end Sys2Proof
end

