-- ==== Sys2Proof/Machine/HostOps.lean ====
section
/-! DEFINITION. One host transaction (11 R176, R177, 08 R146): the answer register shifted out, the request turned
away or taken, its answer placed; and the data of the read requests. -/
namespace Sys2Proof
namespace Machine

/-- The answer register is set (11 R176). -/
def State.setAnswer (s : State) (a : Answer) : State := { s with host := { s.host with answer := a } }

/-- The transaction shifts out the register, which becomes EMPTY (11 R176). -/
def State.shiftOut (s : State) : State := { s with host := { s.host with shifted := s.host.answer, answer := .empty } }

/-- The transaction shifts out REFUSED, BUSY, and its request is not taken (11 R176, 08 R146). -/
def State.shiftBusy (s : State) : State := { s with host := { s.host with shifted := .refused .busy } }

/-- A host store access is waiting or running, or a RESTART waits for it (08 R146). -/
def State.storeBusy (s : State) : Bool := s.article.access.isSome || s.host.restartPending

/-- The answer that a transaction shifts out (11 R176): the register, or REFUSED, BUSY during a host store access. -/
def State.outgoing (s : State) : Answer := if s.storeBusy then .refused .busy else s.host.answer

/-- One transaction of the Host Port (11 R176): the command that the bytes received spell, and the bytes shifted out, one
for each, where the data bytes of the outgoing answer are given. -/
def State.transaction (s : State) (received data : List Byte) : Instr × List Byte :=
  (transactionCommand received, shiftedBytes s.outgoing data received.length)

/-- What a request does: the state after it and its answer; no answer is placed while its access is waited for. -/
abbrev Handler := State → State × Option Answer

/-- A request answered DONE with data that changes nothing. -/
def answerOnly (data : State → AnswerData) : Handler := fun s => (s, some (.done (data s)))

/-- A request refused with a reason that changes nothing. -/
def refuse (r : RefuseReason) : Handler := fun s => (s, some (.refused r))

/-- A request answered DONE without data. -/
def doneWith (f : State → State) : Handler := fun s => (f s, some (.done .none))

/-- The answer of a handler is placed in the register. -/
def State.handle (s : State) (h : Handler) : State :=
  match h s with
  | (s', some a) => s'.setAnswer a
  | (s', none) => s'

/-- A request taken in Doze first returns the station to Active (11 R177, R186). -/
def State.endDoze (s : State) : State := if s.host.rest = .doze then s.returnActive else s

/-- The state in which a request is taken (11 R176, R177): the register shifted out, and Doze ended where the request ends
it. -/
def State.readied (s : State) (endsDoze : Bool) : State := if endsDoze then s.shiftOut.endDoze else s.shiftOut

/-- A request is judged (11 R177): one that needs a started station is refused STATE before START. -/
def State.judge (s : State) (needsStart : Bool) (h : Handler) : State :=
  s.handle (if needsStart && !s.host.started then refuse .state else h)

/-- One transaction with a well-formed request (11 R176, R177): refused BUSY during a store access, and otherwise
taken. -/
def State.transact (s : State) (needsStart endsDoze : Bool) (h : Handler) : State :=
  if s.storeBusy then s.shiftBusy else (s.readied endsDoze).judge needsStart h

-- READ STATUS (11 R184)

/-- A channel's items in READ STATUS (09 R153). -/
def State.channelStatus (s : State) (c : Channel) : ChannelStatus where
  state := (s.channel c).state
  direction := (s.channel c).direction
  retry := (s.channel c).retry
  cause := (s.channel c).cause
  standing := (s.channel c).standing
  coolOffLeft := (s.channel c).coolOff.map fun t => (s.driveSetting c).coolOffMs - t

/-- The channel at a place of the eleven (09 R151). -/
def channelAt (i : Fin 11) : Channel :=
  if i = 0 then .entry else if i = 1 then .hold else if i = 2 then .flap
  else .gate ⟨i.val - 3, by have := i.isLt; omega⟩

/-- The answer data of READ STATUS (11 R184). -/
def State.statusData (s : State) : StatusData where
  configured := s.host.configured
  started := s.host.started
  rest := s.host.rest
  dozeLeft := s.host.dozeTimer.map fun t => s.host.cfg.dozeDelayMs - t
  offered := s.host.offered
  wakeWaiting := s.line.wake == .waiting
  member := s.member
  ownDigest := s.ownDigest
  belt := s.belt
  condition := s.line.condition
  driver := s.line.driver
  overloadCount := s.line.overloadCount
  alone := s.alone
  queueLength := s.line.queue.length
  firstFrame := s.firstFrame.map fun f =>
    { kind := f.frame.kind, subject := f.frame.subject, attempts := f.attempts }
  program := s.scan.program
  supply := s.scan.supply
  reference := s.scan.reference
  lastSupply := s.scan.lastSupply
  lastReference := s.scan.lastReference
  channels := Vector.ofFn fun i => s.channelStatus (channelAt i)
  heat := s.heat
  lookup := s.article.lookup
  queryLeft := s.article.queryTimer.map fun t => s.host.cfg.queryTimeMs - t
  walk := s.article.walkState
  access := s.article.accessState

-- READ NOTICES (11 R183)

/-- The notice kind at a place of the kind order (11 R182). -/
def noticeKindAt (k : Fin 22) : NoticeKind := allNoticeKinds.getD k.val .driveFault

/-- The entries of the kinds of one priority, in kind order. -/
def State.noticesOf (s : State) (priority : Nat) : List (NoticeKind × NoticeDetail × Nat) :=
  (List.finRange 22).filterMap fun k =>
    if s.host.cfg.notice[k].priority = priority then
      s.notices[k].detail.map fun d => (noticeKindAt k, d, s.notices[k].count)
    else none

/-- The answer data of READ NOTICES: by priority, highest first, then by kind order (11 R183). -/
def State.noticeEntries (s : State) : List (NoticeKind × NoticeDetail × Nat) :=
  ([7, 6, 5, 4, 3, 2, 1, 0].map s.noticesOf).flatten

/-- Every flag returned is cleared and its count set to 0 (11 R183). -/
def State.clearRead (s : State) : State :=
  { s with notices := s.notices.map fun r => if r.detail.isSome then { detail := none, count := 0 } else r }

-- READ MAP, READ BINS, READ PATH, READ SESSION

/-- The records of READ MAP (01 R13). -/
def State.mapRecords (s : State) (first count : Nat) : List (Cleat × Entry) :=
  (List.range count).map fun i => let x : Cleat := BitVec.ofNat 8 (first + i); (x, s.entryAt x)

/-- One bin of READ BINS (04 R85). -/
def State.binData (s : State) (b : BinNo) : BinData where
  bin := b
  capacity := s.capacity b
  used := if b.val = 0 then none else s.usedOf b
  state := s.bins[b].state
  claimed := s.claimedCount b
  full := s.full b

/-- One record of READ PATH (06 R118). -/
def State.pathRecord (s : State) (place : Place) (isHead : Bool) (c : Container) : PathRecord where
  place := place
  tag := c.tag
  stage := c.stage
  code := c.code
  article := c.article.map fun a => (a.deposit, a.material, a.bin)
  scan := if place = .entryZone then s.scan.record else none
  bin := c.bin
  value := c.value
  cleat := c.cleat
  reject := c.reject
  holdWait := c.holdWait
  link := if isHead then some c.link else none
  landing := if place = .transferSlot then some (c.landing, c.trust) else none

/-- The records of READ PATH: entry zone, hold queue from head to tail, transfer slot (06 R118). -/
def State.pathRecords (s : State) : List PathRecord :=
  (s.path.entry.toList.map (s.pathRecord .entryZone false))
    ++ (s.path.hold.take 1).map (s.pathRecord .holdQueue true)
    ++ (s.path.hold.drop 1).map (s.pathRecord .holdQueue false)
    ++ s.path.transfer.toList.map (s.pathRecord .transferSlot false)

/-- The answer data of READ SESSION (10 R175). -/
def State.sessionData (s : State) : SessionData where
  state := s.session.state
  lines := s.session.lines
  total := s.session.total
  count := s.session.count
  pending := s.session.pending
  undecided := s.session.undecided
  reason := s.session.reason
  number := s.session.number
  idleLeft := s.session.idleTimer.map fun t => s.host.cfg.idleTimeMs - t
  sequence := s.session.sequence
  exhausted := s.exhausted

end Machine
end Sys2Proof
end

