-- ==== Sys2Proof/Machine/HostRequests.lean ====
section
/-! DEFINITION. Power-on reset and the meanings of the host's transactions: configuration, START, the reads, the
session, the article store, the bins, the rest levels, RESTART and the clearing of faults and jams. -/
namespace Sys2Proof
namespace Machine

-- Power-on reset (11 R179, 09 R161)

/-- The heat stage of a temperature at power-on (09 R161). -/
def stageOf (temperature : Int) : HeatStage :=
  if 160 < temperature then .hot else if 130 < temperature then .warm else .normal

/-- The THERMAL cause of a stage entered upward (09 R161). -/
def thermalCause : HeatStage → Option ThermalCause
  | .normal => none
  | .warm => some .warm
  | .hot => some .hot

/-- POWER_ON_RESET: every block at its power-on values, the eyes and the waiting commands as they stand, the heat
stage from the temperature with its THERMAL, the channels cut where HOT (09 R153, R161). -/
def execPowerOnReset (temperature : Int) (s : State) : Host.Outcome State Fault Refusal :=
  let stage := stageOf temperature
  let former := Config.powerOnFormerStage s.draws
  let s := { State.reset with
    eyes := s.eyes, pending := s.pending, scan := .initial s.eyes.scan, heat := stage
    draws := s.draws + 1 }
  let s := match thermalCause stage with
    | some cause => s.raise (.thermal cause former stage s.drives.states)
    | none => s
  .next (s.resetDrives s.drives)

-- Configuration and START

/-- The configuration record is replaced and the digest computed (11 R179, 05 R91). -/
def State.configure (s : State) (cfg : Configuration) : State :=
  { s with host := { s.host with cfg := cfg, configured := true }, ownDigest := some (digestOf cfg.capacity) }

/-- The handler of SET CONFIGURATION (11 R179, R180). -/
def configureRequest (carried : Configuration) : Handler := fun s =>
  if s.host.started then (s, some (.refused .state))
  else (s.configure carried.taken, some (.done (.adjusted (carried.adjusted carried.taken))))

/-- SET_CONFIGURATION (11 R179, R180, 05 R91). -/
def execSetConfiguration (carried : Configuration) (s : State) : Host.Outcome State Fault Refusal :=
  .next (s.transact false true (configureRequest carried))

/-- The station starts (11 R181). -/
def State.startUp (s : State) : State :=
  ({ s with host := { s.host with started := true, rest := .active } }.leaveOffline .start).testDoze

/-- The handler of START (11 R181). -/
def startRequest : Handler := fun s =>
  if s.host.configured && !s.host.started then (s.startUp, some (.done .none)) else (s, some (.refused .state))

/-- START (11 R181). -/
def execStart (s : State) : Host.Outcome State Fault Refusal := .next (s.transact false true startRequest)

-- Reads

/-- READ_STATUS (11 R184). -/
def execReadStatus (s : State) : Host.Outcome State Fault Refusal :=
  .next (s.transact false false (answerOnly fun s => .status s.statusData))

/-- The handler of READ NOTICES (11 R183). -/
def noticesRequest : Handler := fun s => (s.clearRead, some (.done (.notices s.noticeEntries)))

/-- READ_NOTICES (11 R183). -/
def execReadNotices (s : State) : Host.Outcome State Fault Refusal := .next (s.transact false false noticesRequest)

/-- The handler of READ MAP (01 R13). -/
def mapRequest (first count : Nat) : Handler := fun s =>
  if first < 256 ∧ 1 ≤ count ∧ count ≤ 32 then (s, some (.done (.map s.belt.current (s.mapRecords first count))))
  else (s, some (.refused .range))

/-- READ_MAP (01 R13). -/
def execReadMap (first count : Nat) (s : State) : Host.Outcome State Fault Refusal :=
  .next (s.transact false true (mapRequest first count))

/-- READ_BINS (04 R85). -/
def execReadBins (s : State) : Host.Outcome State Fault Refusal :=
  .next (s.transact false true (answerOnly fun s => .bins ((List.finRange 9).map s.binData)))

/-- READ_PATH (06 R118). -/
def execReadPath (s : State) : Host.Outcome State Fault Refusal :=
  .next (s.transact false true
    (answerOnly fun s => .path s.path.tagCounter s.path.cleared s.path.givenUp s.pathRecords))

/-- READ_SESSION (10 R175). -/
def execReadSession (s : State) : Host.Outcome State Fault Refusal :=
  .next (s.transact false true (answerOnly fun s => .session s.sessionData))

/-- READ_HISTORY: from the most recent to the oldest (10 R173). -/
def execReadHistory (s : State) : Host.Outcome State Fault Refusal :=
  .next (s.transact false true (answerOnly fun s => .history s.session.history.reverse))

-- The session

/-- The handler of CLOSE SESSION (10 R169). -/
def closeRequest : Handler := fun s =>
  match s.session.state with
  | .idle => (s, some (.refused .none))
  | .opened => ((s.beginClose .customer).testDoze, some (.done .none))
  | .closing => (s, some (.done .none))
  | .closed => (s, some (.refused .state))

/-- CLOSE_SESSION (10 R169). -/
def execCloseSession (s : State) : Host.Outcome State Fault Refusal := .next (s.transact true true closeRequest)

/-- The voucher of a CLOSED session (10 R172). -/
def Session.voucher (n : Session) : Voucher :=
  { number := n.number.getD 0, total := n.total, count := n.count, reason := n.reason.getD .customer }

/-- The voucher has been taken (10 R172): it joins the history and the session is IDLE. -/
def Session.vouched (n : Session) : Session := { n.emptied with history := addVoucher n.history n.voucher }

/-- The answer of TAKE VOUCHER (10 R172). -/
def Session.voucherData (n : Session) : AnswerData :=
  .voucher n.voucher.number n.voucher.reason n.total n.count n.lines

/-- The handler of TAKE VOUCHER (10 R172, R173). -/
def voucherRequest : Handler := fun s =>
  if s.session.state = .closed then
    ((s.mapSession Session.vouched).tryStart.testDoze, some (.done s.session.voucherData))
  else (s, some (.refused .state))

/-- TAKE_VOUCHER (10 R172, R173). -/
def execTakeVoucher (s : State) : Host.Outcome State Fault Refusal := .next (s.transact true true voucherRequest)

-- The article store

/-- The pending host query ends with an answer for the Intake Sequencer (08 R147, R148). -/
def State.endQuery (s : State) (answer : Option Article) : State :=
  (s.mapArticle fun u => { u with lookup := .idle, queryTimer := none }).fullDecision answer

/-- The handler of ARTICLE_ANSWER (08 R148). -/
def answerArticle (code kind : Nat) (record : EntryBytes) (cacheOption : Nat) : Handler := fun s =>
  match s.article.lookup with
  | .idle | .walking _ => (s, some (.refused .none))
  | .querying pending _ =>
    if code ≠ pending.toNat then (s, some (.refused .none))
    else if 1 < kind ∨ 1 < cacheOption then (s, some (.refused .range))
    else if kind = 1 then (s.endQuery none, some (.done .none))
    else if entryCode record ≠ pending then (s, some (.refused .range))
    else
      match readEntry record with
      | .error _ => (s, some (.refused .range))
      | .ok a =>
        let s := if cacheOption = 1 then s.mapArticle fun u => u.fill a else s
        (s.endQuery (some a), some (.done .none))

/-- ARTICLE_ANSWER (08 R148). -/
def execArticleAnswer (code kind : Nat) (record : EntryBytes) (cacheOption : Nat) (s : State) :
    Host.Outcome State Fault Refusal :=
  .next (s.transact true true (answerArticle code kind record cacheOption))

/-- The revoke mark is set on a walk for the code (08 R149). -/
def ArticleUnit.markRevoked (u : ArticleUnit) (code : Code) : ArticleUnit :=
  match u.lookup with
  | .walking w => if w.code = code then { u with lookup := .walking { w with revoked := true } } else u
  | .idle | .querying _ _ => u

/-- The way that holds the code loses its valid mark (08 R149). -/
def ArticleUnit.revoke (u : ArticleUnit) (code : Code) : ArticleUnit :=
  match (u.setFor code).wayOf code with
  | some w => u.putSet code ((u.setFor code).invalidate w)
  | none => u

/-- The handler of REVOKE ARTICLE (08 R149). -/
def revokeRequest (code : Nat) : Handler := fun s =>
  match codeOf code with
  | none => (s, some (.refused .range))
  | some code =>
    (s.mapArticle fun u => (u.revoke code).markRevoked code,
     some (.done (.revoked ((s.article.setFor code).wayOf code).isSome)))

/-- REVOKE_ARTICLE (08 R149). -/
def execRevokeArticle (code : Nat) (s : State) : Host.Outcome State Fault Refusal :=
  .next (s.transact true true (revokeRequest code))

/-- A host access is requested at the arbiter (08 R143): it starts on a free port. -/
def ArticleUnit.requestAccess (u : ArticleUnit) (r : StoreRequest) : ArticleUnit :=
  { u with access := some { request := r, stage := if u.walkRunning then .waiting else .running } }

/-- The handler of a host store request for a range (08 R144, R145): no answer is placed until the access ends. -/
def storeRequest (address length : Nat) (r : StoreRequest) : Handler := fun s =>
  if storeRangeGood address length then (s.mapArticle fun u => u.requestAccess r, none)
  else (s, some (.refused .range))

/-- STORE_READ (08 R144): the answer is placed when the access ends. -/
def execStoreRead (address length : Nat) (s : State) : Host.Outcome State Fault Refusal :=
  .next (s.transact false true (storeRequest address length (.read address length)))

/-- STORE_WRITE (08 R145): the answer is placed when the access ends. -/
def execStoreWrite (address : Nat) (data : List Byte) (s : State) : Host.Outcome State Fault Refusal :=
  .next (s.transact false true (storeRequest address data.length (.write address data)))

-- The bins (04 R81, R82)

/-- A BIN HOLD for a bin goes behind the BIN OPEN for it that is being sent (04 R82, log 48). -/
def State.deferHold (s : State) (f : Frame) : State :=
  let sent := s.line.queue.any fun g => g.phase != .waiting && g.frame.kind == .binOpen && g.frame.subject == f.subject
  s.setQueue (s.line.queue.map fun g =>
    if f.kind == .binHold && g.frame.sameSlot f && sent then { g with behind := true } else g)

/-- A host bin request with its frame, the first case of 04 R81 that applies deciding; a request answered DONE
withdraws the waiting opposing frame, and goes behind one being sent (R82). -/
def binRequest (frame : Option Frame) (opposes : Frame → Bool) : Handler := fun s =>
  if !s.synced then (s, some (.refused .state))
  else
    match frame with
    | none => (s, some (.refused .range))
    | some f =>
      if s.queueFullFor f.kind then (s, some (.refused .full))
      else
        match s.enqueue f with
        | (s', .queued) | (s', .replaced) => ((s'.withdraw opposes).deferHold f, some (.done .none))
        | (_, .discarded) => (s, some (.refused .busy))
        | (_, .full) => (s, some (.refused .full))

/-- A frame is the BIN OPEN for the bin. -/
def Frame.opens (b : BinNo) (f : Frame) : Bool := f.kind == .binOpen && f.subject == .bin b

/-- A frame is the BIN HOLD for the bin. -/
def Frame.holds (b : BinNo) (f : Frame) : Bool := f.kind == .binHold && f.subject == .bin b

/-- BIN_SET (04 R81). -/
def execBinSet (bin used : Nat) (s : State) : Host.Outcome State Fault Refusal :=
  .next (s.transact true true
    (binRequest
      ((gatedBinOf bin).bind fun b =>
        if used ≤ Config.usedLimit then some (.binSet b (BitVec.ofNat 16 used)) else none)
      fun _ => false))

/-- BIN_HOLD: with cause STAFF; it withdraws a waiting BIN OPEN (04 R81, R82). -/
def execBinHold (bin : Nat) (s : State) : Host.Outcome State Fault Refusal :=
  .next (s.transact true true
    (binRequest ((gatedBinOf bin).map fun b => .binHold b .staff) fun f =>
      (gatedBinOf bin).any fun b => f.opens b))

/-- BIN_OPEN: it withdraws a waiting BIN HOLD (04 R81, R82). -/
def execBinOpen (bin : Nat) (s : State) : Host.Outcome State Fault Refusal :=
  .next (s.transact true true
    (binRequest ((gatedBinOf bin).map .binOpen) fun f => (gatedBinOf bin).any fun b => f.holds b))

-- Rest levels

/-- The handler of GRANT DOZE (11 R186). -/
def dozeRequest : Handler := fun s =>
  if s.host.offered then (s.enterDoze, some (.done .none)) else (s, some (.refused .state))

/-- GRANT_DOZE (11 R186). -/
def execGrantDoze (s : State) : Host.Outcome State Fault Refusal := .next (s.transact true true dozeRequest)

/-- The conditions of DEEP REST (11 R187). -/
def State.mayRest (s : State) : Bool :=
  s.host.started && s.host.rest != .deepRest && s.member != .conflict && s.pathEmpty
    && (s.session.state == .idle || s.session.state == .closed)

/-- The handler of DEEP REST (11 R187). -/
def restRequest : Handler := fun s =>
  if s.mayRest then (s.enterDeepRest, some (.done .none)) else (s, some (.refused .state))

/-- DEEP_REST (11 R187). -/
def execDeepRest (s : State) : Host.Outcome State Fault Refusal := .next (s.transact true true restRequest)

/-- The handler of WAKE (11 R188). -/
def wakeRequest : Handler := fun s =>
  match s.host.rest with
  | .doze => (s.returnActive, some (.done .none))
  | .deepRest => ((s.exitDeepRest .wakeRequest true).testDoze, some (.done .none))
  | .active => (s, some (.refused .state))

/-- WAKE (11 R188). -/
def execWake (s : State) : Host.Outcome State Fault Refusal := .next (s.transact true false wakeRequest)

-- RESTART (11 R189, 08 R146)

/-- The host access is a STORE WRITE that runs (08 R146). -/
def ArticleUnit.writeRunning (u : ArticleUnit) : Bool :=
  u.access.any fun a =>
    match a.request with
    | .write _ _ => a.stage != .waiting
    | .read _ _ => false

/-- RESTART during a host store access (08 R146): a running STORE WRITE is finished first, any other access ends. -/
def State.restartDuringAccess (s : State) : State :=
  let s := s.shiftBusy
  if !s.host.started then s.setAnswer (.refused .state)
  else if s.article.writeRunning then { s with host := { s.host with restartPending := true } }
  else s.restart.setAnswer (.done .none)

/-- RESTART (11 R189). -/
def execRestart (s : State) : Host.Outcome State Fault Refusal :=
  .next (if s.storeBusy then s.restartDuringAccess else s.transact true true (doneWith State.restart))

-- Clearing

/-- CLEAR DRIVE for the line driver (02 R30). -/
def clearLineDriver : Handler := fun s =>
  if s.line.driver = .faulted then
    ({ s with line := { s.line with
        overloadCount := 0, overloadTimer := 0, driver := if s.online then .ready else .off } }, some (.done .none))
  else (s, some (.refused .state))

/-- CLEAR DRIVE for a drive channel (09 R163). -/
def clearChannel (c : Channel) : Handler := fun s =>
  if (s.channel c).state = .faulted then
    (s.mapChannel c fun r => r.cleared s.cutCondition, some (.done .none))
  else (s, some (.refused .state))

/-- The handler of CLEAR DRIVE (09 R163, 02 R30). -/
def clearRequest (channel : Nat) : Handler := fun s =>
  match ClearTarget.ofPosition channel with
  | none => (s, some (.refused .range))
  | some .lineDriver => clearLineDriver s
  | some (.channel c) => clearChannel c s

/-- CLEAR_DRIVE (09 R163, 02 R30). -/
def execClearDrive (channel : Nat) (s : State) : Host.Outcome State Fault Refusal :=
  .next (s.transact false true (clearRequest channel))

/-- The tags and places of the STUCK records (06 R115). -/
def State.stuckRecords (s : State) : List (Tag × Place) :=
  ((s.path.entry.toList.filter Container.isStuck).map fun c => (c.tag, Place.entryZone))
    ++ ((s.path.transfer.toList.filter Container.isStuck).map fun c => (c.tag, Place.transferSlot))

/-- Every STUCK record leaves the path (06 R115). -/
def State.removeStuck (s : State) : State :=
  s.mapPath fun p =>
    { p with entry := p.entry.filter fun c => !c.isStuck, transfer := p.transfer.filter fun c => !c.isStuck }

/-- The handler of CLEAR JAM (06 R115). -/
def jamRequest : Handler := fun s =>
  if s.hasStuck then (s.removeStuck.tryStart.testDoze, some (.done (.removed s.stuckRecords)))
  else (s, some (.refused .none))

/-- CLEAR_JAM (06 R115). -/
def execClearJam (s : State) : Host.Outcome State Fault Refusal := .next (s.transact true true jamRequest)

-- Transactions without a request

/-- BAD_REQUEST (11 R176). -/
def execBadRequest (reason : BadReason) (s : State) : Host.Outcome State Fault Refusal :=
  .next (if s.storeBusy then s.shiftBusy else s.shiftOut.setAnswer (.badRequest reason))

/-- EMPTY_TRANSACTION (11 R176). -/
def execEmptyTransaction (s : State) : Host.Outcome State Fault Refusal :=
  .next (if s.storeBusy then s.shiftBusy else s.shiftOut)

end Machine
end Sys2Proof
end

