-- ==== Sys2Proof/Machine/Claiming.lean ====
section
/-! DEFINITION. The hold-queue head at a pitch mark (03): the withdrawal of a stale CLAIM, the hold wait and the
overflow route, the choice of a cleat, firing and missing at the commit point (06 R112), and the cleats given up. -/
namespace Sys2Proof
namespace Machine

/-- A cleat is given up: RELEASE is queued, the cleat enters the given-up list and takes the role (03 R47, R54, R56). -/
def State.giveUp (s : State) (x : Cleat) : State :=
  ((s.queueFrame (.release x)).enterGivenUp x).setRole x .givenUp

-- The CLAIM at the commit point (02 R45)

/-- A waiting CLAIM whose cleat's lead is CommitLead or less, or above MaxLead, at current cleat `c` (02 R45). -/
def State.staleClaim (s : State) (c : Cleat) (f : Frame) : Bool :=
  match f with
  | .claim x _ _ => decide ((x - c).toNat ≤ s.host.cfg.commitLead ∨ s.host.cfg.maxLead < (x - c).toNat)
  | _ => false

/-- The cleat of a frame that names one. -/
def Frame.cleat? (f : Frame) : Option Cleat :=
  match f.subject with
  | .cleat x => some x
  | .bin _ | .none => none

/-- The stale CLAIMs leave the queue and the Intake Sequencer is told (02 R45). -/
def State.withdrawClaims (s : State) (c : Cleat) : State :=
  let gone := (s.line.queue.filter fun g => g.phase == .waiting && s.staleClaim c g.frame).filterMap fun g =>
    g.frame.cleat?
  gone.foldl State.dropClaim (s.withdraw (s.staleClaim c))

-- The choice (03 R48 to R50)

/-- The own claims in a role (03 R46). -/
def State.roleClaims (s : State) : List Cleat := (s.path.claims.map Prod.fst).filter s.ownClaim

/-- The cleats of the CLAIMs in the transmit queue (03 R49). -/
def State.queuedClaims (s : State) : List Cleat :=
  s.line.queue.filterMap fun g =>
    match g.frame with
    | .claim x _ _ => some x
    | _ => none

/-- A cleat qualifies for the choice (03 R49). -/
def State.qualifies (s : State) (x : Cleat) : Bool :=
  s.entryAt x == .free && !s.queuedClaims.contains x
    && s.roleClaims.all fun y => decide (s.host.cfg.commitLead + 1 ≤ (x - y).toNat)

/-- The chosen cleat: the first that qualifies, in increasing lead from MinLead to MaxLead (03 R49). -/
def State.chosenCleat (s : State) (c : Cleat) : Option Cleat :=
  ((List.range' s.host.cfg.minLead (s.host.cfg.maxLead + 1 - s.host.cfg.minLead)).map fun n =>
    c + BitVec.ofNat 8 n).find? s.qualifies

/-- The head chooses a cleat and its CLAIM is queued when its bin passes (03 R49, R50). -/
def State.choose (s : State) (c : Cleat) (h : Container) : State :=
  match h.bin, s.chosenCleat c with
  | some b, some x =>
    if s.binPasses b then
      match s.enqueue (.claim x b (s.claimUsed b)) with
      | (s', .queued) => s'.mapHead fun h => { h with link := .queued, cleat := some x }
      | (_, _) => s
    else s
  | _, _ => s

/-- The station may choose for a head: the link NONE now and as the pitch mark was taken, and fewer than two own claims
in a role (03 R48). -/
def State.mayChoose (s : State) (before : ClaimLink) (h : Container) : Bool :=
  h.stage == .claiming && h.link == .none && before == .none && decide (s.roleClaims.length < 2)

-- The hold wait (03 R50, R51)

/-- What keeps the head from its bin or from the line (03 R50, R51). Where several causes hold, the first in the order of
R51's list is named, by the model's choice (log 44). -/
def State.waitCause (s : State) (b : BinNo) : Option OverflowCause :=
  if b.val = 0 then none
  else if s.bins[b].state != .opened then some .held
  else if (s.usedOf b).isNone then some .unknown
  else if s.full b then some .full
  else if s.line.condition == .stuck || s.line.driver == .faulted then some .noLine
  else none

/-- The hold-wait count of the head, brought up to date, and the overflow route at the overflow point of a head whose
link is NONE, now and as the pitch mark was taken (03 R50, R51). -/
def State.holdWait (s : State) (before : ClaimLink) (h : Container) : State :=
  match h.bin with
  | none => s
  | some b =>
    match s.waitCause b with
    | none => s.mapHead fun h => { h with holdWait := some 0 }
    | some cause =>
      let wait := h.holdWait.getD 0
      if wait < s.host.cfg.holdWait then s.mapHead fun h => { h with holdWait := some (wait + 1) }
      else if h.link = .none ∧ before = .none then
        (s.mapHead fun h => { h with bin := some 0, holdWait := some 0 }).raise (.overflowRoute h.tag b cause)
      else s

/-- A CLAIMING head at a pitch mark (03 R48 to R51): the hold wait, then the choice for the bin as it stands. -/
def State.claimingHead (s : State) (c : Cleat) (before : ClaimLink) (h : Container) : State :=
  let s := s.holdWait before h
  match s.head with
  | some h => if s.mayChoose before h then s.choose c h else s
  | none => s

-- The commit point (03 R56, 06 R112)

/-- A READY head can fire (06 R112): at the transfer eye, the FLAP channel OFF, the transfer slot empty. -/
def State.canFire (s : State) : Bool :=
  s.eyes.transfer && s.path.cleared && (s.channel .flap).state == .off && s.path.transfer.isNone

/-- The next record becomes head, link NONE and hold-wait count 0 (03 R46, 06 R112). -/
def nextHead : List Container → List Container
  | [] => []
  | h :: rest => { h with link := .none, holdWait := some 0 } :: rest

/-- The head fires onto its cleat (06 R112). -/
def State.fire (s : State) (h : Container) (x : Cleat) : State :=
  let fired := { h with stage := .transferring, link := .none, holdWait := none, landing := s.host.cfg.commitLead,
                        trust := true }
  let s := s.pulseFlap.mapPath fun p =>
    { p with cleared := false, transfer := some fired, hold := nextHead (p.hold.drop 1) }
  ((s.setRole x .transfer).settleHold).startHandover

/-- The head misses its cleat (03 R56). -/
def State.miss (s : State) (x : Cleat) : State := (s.giveUp x).mapHead fun h => h.unlinked (some 0)

/-- A READY head at a pitch mark (03 R56): it fires or misses at lead CommitLead. -/
def State.readyHead (s : State) (c : Cleat) (h : Container) : State :=
  match h.cleat with
  | some x =>
    if (x - c).toNat = s.host.cfg.commitLead then (if s.canFire then s.fire h x else s.miss x)
    else s.mapHead fun h => { h with holdWait := none }
  | none => s

/-- The head at a pitch mark with current cleat `c`, `before` its link as the pitch mark was taken (03). -/
def State.headWork (s : State) (c : Cleat) (before : ClaimLink) : State :=
  match s.head with
  | some h =>
    if h.stage = .ready then s.readyHead c h
    else if s.synced && h.stage == .claiming then s.claimingHead c before h
    else s
  | none => s

end Machine
end Sys2Proof
end

