-- ==== Sys2Proof/Machine/BeltEvents.lean ====
section
/-! DEFINITION. The pitch mark and the home mark (01): the Belt Tracker, the pitch slip, the clear point, the landing
eye, the gates, the head of the hold queue, and the listening revolution (05 R88, R89). -/
namespace Sys2Proof
namespace Machine

-- The Belt Tracker (01 R3 to R5)

/-- An ordinary pitch mark, with the slip of a missing home mark (01 R3, R5). -/
def Belt.pitch (b : Belt) : Belt × Option SlipCause :=
  if b.homeSeen then
    if b.pitchCount < 255 then
      ({ b with current := b.current.map fun c => c + 1, pitchCount := b.pitchCount + 1 }, none)
    else (.initial, some .missingHome)
  else (b, none)

/-- A home mark, with the slip of an early one (01 R4). -/
def Belt.home (b : Belt) : Belt × Option SlipCause :=
  ({ current := some 0, pitchCount := 0, homeSeen := true },
   if b.homeSeen && decide (b.pitchCount < 255) then some .earlyHome else none)

-- The pitch slip (01 R6, R7, 05 R93, R99)

/-- The JOIN of the station (05 R88). -/
def State.joinFrame (s : State) : Frame := .join (s.ownDigest.getD 0)

/-- The listen phase after a slip, and the JOIN of an early home mark (05 R99). -/
def State.listenAfterSlip (s : State) (cause : SlipCause) : State :=
  match cause with
  | .earlyHome => ({ s with member := .listening .joinPending }).queueFrame s.joinFrame
  | .missingHome => { s with member := .listening .waitingHome }

/-- The membership change of a slip (05 R99). -/
def State.slipMember (s : State) (cause : SlipCause) : State :=
  match s.member with
  | .synced => (s.changeMember (.listening .waitingHome) .pitchSlip).listenAfterSlip cause
  | .listening _ => s.listenAfterSlip cause
  | .offline | .conflict => s

/-- The frames that a slip withdraws, or does not attempt again: those that name a cleat (01 R7), and COUNTS where the
station leaves SYNCED (05 R93). -/
def slipFrame (wasSynced : Bool) (f : Frame) : Bool := f.kind.namesCleat || (wasSynced && f.kind == .counts)

/-- The head at a slip (01 R7): READY goes back to CLAIMING, a queued link becomes NONE. -/
def Container.slipped (h : Container) : Container :=
  if h.stage = .ready then h.unlinked (some 0) else if h.link = .none then h else h.unlinked h.holdWait

/-- A pitch slip with its cause and the pitch count at its moment (01 R6, R7). -/
def State.pitchSlip (s : State) (cause : SlipCause) (count : Nat) : State :=
  let before := s.member.state
  let names := slipFrame s.synced
  let s := ({ s with map := freeMap }.pruneClaims.withdraw names).markNoRetry names
  let s := (s.slipMember cause).raise (.pitchSlip cause count before)
  (s.loseTrust.mapHead Container.slipped).reportBins s.bins

-- The clear point (01 R11)

/-- The cleat at the clear point is set FREE (01 R11), with the BIN CHANGE it brings (04 R83). -/
def State.clearPoint (s : State) (c : Cleat) : State :=
  (s.changeEntry (c - BitVec.ofNat 8 s.host.cfg.clearDistance) .free).reportBins s.bins

-- The landing eye (01 R14 to R17)

/-- The LOAD of a container that has landed with the trust mark set (06 R113). -/
def Container.load? (r : Container) : Option Frame :=
  match r.cleat, r.article with
  | some x, some a => if r.trust then some (.load x (r.bin.getD 0) a.material 0) else none
  | _, _ => none

/-- The LOAD of a landed container is given to the queue, and its cleat becomes a loading cleat (06 R113, 03 R46). -/
def State.queueLoad (s : State) (r : Container) : State :=
  match r.load?, r.cleat with
  | some f, some x => (s.queueFrame f).setRole x .loading
  | _, _ => s

/-- The container in the transfer slot has LANDED (06 R113); it is unannounced where no LOAD was queued (log 50). -/
def State.landed (s : State) (r : Container) : State :=
  let s := s.credit (r.code.getD 0) (r.value.getD 0)
  let announced := r.load?.any s.takesFrame
  let s := (s.queueLoad r).mapPath fun p => { p with transfer := none }
  s.raise (.containerDone r.tag (.landed r.code (r.value.getD 0) (r.bin.getD 0) r.cleat (!announced)))

/-- The container in the transfer slot has not landed (06 R114, 01 R15). -/
def State.notLanded (s : State) (r : Container) : State :=
  let s := s.mapPath fun p => { p with transfer := some { r with stage := .stuck } }
  let s := match r.cleat with
    | some x => if r.trust then s.giveUp x else s
    | none => s
  s.losePending.raise (.jam r.tag .transferSlot .notLanded r.stage none)

/-- An own claimed cleat at the load point without a transfer (03 R57). -/
def State.unexpectedClaim (s : State) (x : Cleat) (b : BinNo) : State :=
  if s.path.givenUp.contains x || s.hasRole x .givenUp then s
  else ((s.queueFrame (.release x)).enterGivenUp x).raise (.mapConflict (.unexpectedClaim x b))

/-- The entry check of the cleat at the load point (01 R16). -/
def State.entryCheck (s : State) (item : Bool) : State :=
  match s.belt.current with
  | some c =>
    if s.synced then
      match s.entryAt c, item with
      | .free, true => (s.queueFrame (.stray c)).raise (.straySeen c)
      | .claimed owner b, _ => if owner = s.station then s.unexpectedClaim c b else s
      | .loaded owner b m, false => s.raise (.lostItem c owner b m)
      | .free, false | .loaded _ _ _, true | .foreign, _ => s
    else s
  | none => s

/-- The landing eye at a pitch mark (01 R14): the landing count of a transfer falls, its last pitch mark gives the
verdict, any other makes the entry check. -/
def State.landingWork (s : State) (item : Bool) : State :=
  match s.path.transfer with
  | some r =>
    if r.stage = .transferring then
      let r := { r with landing := r.landing - 1 }
      let s := s.mapPath fun p => { p with transfer := some r }
      if r.landing = 0 then (if item then s.landed r else s.notLanded r) else s.entryCheck item
    else s.entryCheck item
  | none => s.entryCheck item

-- Sort duty (01 R18 to R20)

/-- The gate request is withdrawn and its interval ends (01 R19). -/
def State.releaseGate (s : State) (g : Gate) : State :=
  let s := s.mapChannel (.gate g) fun r => if r.standing then r.withdraw else r
  { s with gates := s.gates.set g.val none g.isLt }

/-- The gate request is made or renewed for a cleat, which misses at once in COOL-OFF, FAULTED or CUT (01 R19, R20). -/
def State.holdGate (s : State) (g : Gate) (x : Cleat) : State :=
  let s := s.mapChannel (.gate g) fun r => if r.standing then r else r.request
  let s := { s with gates := s.gates.set g.val (some { cleat := x, missed := false }) g.isLt }
  if (s.channel (.gate g)).state.driven then s else s.missGate g

/-- The entry is LOADED with the bin (01 R19). -/
def Entry.loadedFor (b : BinNo) : Entry → Bool
  | .loaded _ bin _ => bin == b
  | _ => false

/-- The gate check of one gate (01 R19). -/
def State.checkGate (c : Cleat) (s : State) (g : Gate) : State :=
  let x := c - BitVec.ofNat 8 s.host.cfg.gateDistance[g]
  if (s.entryAt x).loadedFor (gateBin g) then s.holdGate g x else s.releaseGate g

/-- The gate checks of a station with sort duty (01 R18); without a current cleat no gate is held (R6). -/
def State.gateWork (s : State) : State :=
  if s.host.cfg.hasSortDuty then
    match s.belt.current with
    | some c => (List.finRange 8).foldl (State.checkGate c) s
    | none => (List.finRange 8).foldl State.releaseGate s
  else s

/-- The queueing of sort-duty frames runs from a pitch mark on that the station takes as SYNCED (05 R89). -/
def State.noteDuty (s : State) : State := { s with dutyReports := s.synced }

-- The listening revolution (05 R88, R89)

/-- A home mark in phase WAITING HOME queues the JOIN (05 R88). -/
def State.joinAtHome (s : State) : State :=
  if s.member = .listening .waitingHome then
    ({ s with member := .listening .joinPending }).queueFrame s.joinFrame
  else s

/-- The listen count rises, and its 256th pitch mark makes the station SYNCED (05 R89). -/
def State.countListening (s : State) : State :=
  match s.member with
  | .listening (.counting n) =>
    if n < 255 then { s with member := .listening (.counting (n + 1)) } else s.changeMember .synced .listenComplete
  | .offline | .listening .waitingHome | .listening .joinPending | .synced | .conflict => s

-- The pitch mark (01 R1)

/-- The link of the head as the pitch mark is taken (03 R48). -/
def State.headLink (s : State) : ClaimLink :=
  match s.head with
  | some h => h.link
  | none => .none

/-- The work of a pitch mark that is keyed to the current cleat, before the landing eye (01 R11). -/
def State.clearWork (s : State) : State :=
  match s.belt.current with
  | some c => s.clearPoint c
  | none => s

/-- The work of a pitch mark on the queued CLAIM and the head (02 R45, 03). -/
def State.claimWork (s : State) (before : ClaimLink) : State :=
  match s.belt.current with
  | some c => (s.withdrawClaims c).headWork c before
  | none => s

/-- A pitch mark handed on (01 R1), after the Belt Tracker has been brought up to date with the slip it found. The order of
the blocks' work, which decides whose frame finds the queue full, is the model's choice (log 43). -/
def State.pitchWork (s : State) (home : Bool) (updated : Belt × Option SlipCause) : State :=
  let count := s.belt.pitchCount
  let s := { s with belt := updated.1 }
  let s := match updated.2 with
    | some cause => s.pitchSlip cause count
    | none => s
  let s := s.noteDuty
  let before := s.headLink
  let s := (s.clearWork.landingWork s.eyes.landing).gateWork.claimWork before
  let s := if home then s.joinAtHome else s
  s.countListening.tryStart.testDoze

/-- The levels of the landing and home eyes at a pitch mark. -/
def State.readBeltEyes (s : State) (landing home : Bool) : State :=
  { s with eyes := { s.eyes with landing := landing, home := home } }

/-- PITCH_MARK (01 R3): ignored in OFFLINE (R2). -/
def execPitchMark (landing : Bool) (s : State) : Host.Outcome State Fault Refusal :=
  let s := s.readBeltEyes landing false
  .next (if s.online then s.pitchWork false s.belt.pitch else s)

/-- HOME_MARK (01 R4): ignored in OFFLINE (R2). -/
def execHomeMark (landing : Bool) (s : State) : Host.Outcome State Fault Refusal :=
  let s := s.readBeltEyes landing true
  .next (if s.online then s.pitchWork true s.belt.home else s)

end Machine
end Sys2Proof
end

