-- ==== Sys2Proof/Machine/LineEvents.lean ====
section
/-! DEFINITION. The events of the Station Line that are no Taken frame (02): frame start and arbitration, errors and
objections, the line conditions, the Wake pulse and the driver's overload. -/
namespace Sys2Proof
namespace Machine

/-- A change of the Line Controller. -/
def State.mapLine (s : State) (f : Line → Line) : State := { s with line := f s.line }

-- Sending and arbitration (02 R34 to R37)

/-- The first waiting frame that the test allows is started (02 R34). -/
def startFirst (allowed : QueuedFrame → Bool) : List QueuedFrame → List QueuedFrame
  | [] => []
  | g :: rest =>
    if allowed g then { g with phase := .arbitrating, behind := false } :: rest else g :: startFirst allowed rest

/-- A frame of the queue may be started: in the membership state (02 R34), and a BIN HOLD asked for behind the BIN OPEN of
its bin only when that BIN OPEN has left the queue (04 R82, log 48). -/
def State.allows (s : State) (g : QueuedFrame) : Bool :=
  g.frame.kind.allowedIn s.member.state
    && !(g.behind && s.line.queue.any fun h => h.frame.kind == .binOpen && h.frame.subject == g.frame.subject)

/-- The station may start a frame (02 R34). -/
def State.mayStartFrame (s : State) : Bool :=
  s.line.condition == .quiet && s.line.driver == .ready && s.line.wake == .none && s.inFlight.isNone
    && s.line.queue.any s.allows

/-- FRAME_START (02 R34). -/
def execFrameStart (s : State) : Host.Outcome State Fault Refusal :=
  .next (if s.mayStartFrame then
    s.mapLine fun l =>
      { l with queue := startFirst s.allows l.queue, condition := .busy, runLevel := .drive, runLength := 0 }
  else s)

/-- The frame being sent is in its arbitration field. -/
def State.arbitrating (s : State) : Bool := s.inFlight.any fun g => g.phase == .arbitrating

/-- ARBITRATION_LOST (02 R35): the frame waits with its attempt count unchanged; one that was being sent at a slip
leaves the queue (01 R7, 05 R93). -/
def execArbitrationLost (s : State) : Host.Outcome State Fault Refusal :=
  .next (if s.arbitrating then
    (if s.inFlight.any QueuedFrame.noRetry then s.removeInFlight
     else s.mapInFlight fun g => { g with phase := .waiting })
  else s)

/-- A won frame: its used fields and its check filled in (02 R37, R33). -/
def State.win (s : State) (g : QueuedFrame) : QueuedFrame :=
  let f := s.fill g.frame
  { g with frame := f, phase := .won, check := some (f.check s.station) }

/-- ARBITRATION_WON (02 R37). -/
def execArbitrationWon (s : State) : Host.Outcome State Fault Refusal :=
  .next (if s.arbitrating then s.mapInFlight s.win else s)

-- Errors and objections (02 R38 to R42)

/-- The receiver decodes nothing more until the next QUIET (02 R38). -/
def State.missRest (s : State) : State := s.mapLine fun l => { l with missing := true }

/-- What the station drives on an error it has found, where its driver drives (02 R30): an objection run after a stuff
violation or a bit error (R38), the Objection slot after a check mismatch (R39). -/
def State.object (s : State) (error : FrameFault) : State :=
  (s.mapLine fun l => { l with objecting := s.driverDrives && error != .checkMismatch }).driveSlot
    (if error = .checkMismatch then .objection else .none)

/-- FRAME_ERROR (02 R38): the error of a sender fails its attempt (R36); a receiver in COOL-OFF that cannot object
raises UNOBJECTED (R30). -/
def execFrameError (error : FrameFault) (kind sender : Option Nibble) (current : LineCurrent) (s : State) :
    Host.Outcome State Fault Refusal :=
  .next (
    if s.inFlight.isSome then (((s.measureCurrent current).failAttempt).object error).missRest
    else if s.receiving && error != .bitError then
      if s.line.driver = .coolOff then (s.raiseLineFault (.unobjected kind sender)).missRest
      else ((s.measureCurrent current).object error).missRest
    else s)

/-- The frame being sent has won and reaches its slots. -/
def State.sending (s : State) : Bool := s.inFlight.any fun g => g.phase == .won

/-- What a receiver does at the slots of an objected frame: it drives the Echo slot on a good check and the Objection slot
on a mismatch (02 R39, R41); in COOL-OFF it cannot object to the mismatch and raises UNOBJECTED (R30). -/
def State.judgeCheck (s : State) : CheckRead → State
  | .good => (s.driveSlot .echo).endAlone
  | .bad kind sender =>
    let s := s.driveSlot .objection
    if s.line.driver = .coolOff then s.raiseLineFault (.unobjected (some kind) (some sender)) else s

/-- FRAME_OBJECTED (02 R42, R41). -/
def execFrameObjected (echo : Bool) (check : CheckRead) (current : LineCurrent) (s : State) :
    Host.Outcome State Fault Refusal :=
  .next (
    if s.sending then ((s.countEcho echo).measureCurrent current).failAttempt
    else if s.receiving then (s.measureCurrent current).judgeCheck check
    else s)

-- Line conditions (02 R24 to R26)

/-- LINE_BUSY (02 R24). -/
def execLineBusy (s : State) : Host.Outcome State Fault Refusal :=
  .next (if s.online && s.line.condition == .quiet then
    s.mapLine fun l => { l with condition := .busy, runLevel := .drive, runLength := 0 }
  else s)

/-- The line at rest for 11 bit times (02 R24): QUIET, the next frame is received from its start bit. -/
def Line.quieted (l : Line) : Line :=
  { l with condition := .quiet, runLevel := .rest, runLength := 11, missing := false, objecting := false,
           slot := .none }

/-- LINE_QUIET (02 R24). -/
def execLineQuiet (s : State) : Host.Outcome State Fault Refusal :=
  .next (if s.online && s.line.condition == .busy then s.mapLine Line.quieted else s)

/-- LINE_STUCK (02 R25): a frame being sent counts an attempt, a waiting Wake pulse request is discarded (R27). -/
def execLineStuck (s : State) : Host.Outcome State Fault Refusal :=
  .next (if s.online && s.line.condition == .busy then
    (s.failAttempt.mapLine fun l =>
      { l with condition := .stuck, runLevel := .drive, runLength := 201, missing := true, objecting := false,
               slot := .none,
               wake := if l.wake = .waiting then .none else l.wake }).raiseLineFault .stuck
  else s)

/-- STUCK_CLEARED (02 R25): the length of the run saturates at 65535. -/
def execStuckCleared (length : Nat) (s : State) : Host.Outcome State Fault Refusal :=
  .next (if s.line.condition = .stuck then
    (s.mapLine Line.quieted).raiseLineFault (.stuckCleared (min 65535 length))
  else s)

-- Wake pulses (02 R26, R27)

/-- WAKE_PULSE (02 R26): in Deep Rest it makes the station leave Deep Rest (11 R188); elsewhere it has no effect
beyond the run of drive it ends. -/
def execWakePulse (length : Nat) (s : State) : Host.Outcome State Fault Refusal :=
  .next (
    if s.host.rest = .deepRest then
      (if classifyDriveRun length = .wakePulse then (s.exitDeepRest .wakePulse false).testDoze else s)
    else if s.online then s.mapLine fun l => { l with runLevel := .rest, runLength := 0 }
    else s)

/-- WAKE_PULSE_SEND (02 R27): the pulse begins on a QUIET line with the driver READY; none in CONFLICT (05 R98). -/
def execWakePulseSend (s : State) : Host.Outcome State Fault Refusal :=
  .next (
    if s.line.wake = .waiting ∧ s.line.condition = .quiet ∧ s.line.driver = .ready ∧ s.member ≠ .conflict then
      s.mapLine fun l => { l with wake := .driving, condition := .busy, runLevel := .drive, runLength := 0 }
    else s)

/-- The current of the 60 bits of a Wake pulse is measured (02 R28); the row does not carry it, so it is free (log 49). -/
def State.measurePulse (s : State) : State :=
  { s.measureCurrent (Config.wakePulseCurrent s.draws).toList with draws := s.draws + 1 }

/-- WAKE_PULSE_DONE (02 R27): the wire is released after 60 bit times. -/
def execWakePulseDone (s : State) : Host.Outcome State Fault Refusal :=
  .next (if s.line.wake = .driving then
    s.measurePulse.mapLine fun l => { l with wake := .none, runLevel := .rest, runLength := 0 }
  else s)

-- The driver (02 R29, R30)

/-- The driver state after an overload in READY (02 R29). -/
def overloadState (count : Nat) : DriverState := if count < Config.overloadLimit then .coolOff else .faulted

/-- An overload in READY (02 R29): what was being driven stops, the attempt fails, COOL-OFF or FAULTED. The station goes on
receiving, also the frame that it was sending itself (R30): another station may be sending the same bits. -/
def State.overload (s : State) : State :=
  let kind := s.inFlight.map fun g => g.frame.kind
  let count := s.line.overloadCount + 1
  let state := overloadState count
  (s.failAttempt.mapLine fun l =>
    { l with overloadTimer := 0, overloadCount := count, driver := state, objecting := false, slot := .none,
             driverCoolOff := if state = .coolOff then some 0 else none,
             wake := if state = .faulted ∨ l.wake = .driving then .none else l.wake }).raiseLineFault
    (.overload count state kind)

/-- DRIVER_OVERLOAD (02 R29; in FAULTED, R30). -/
def execDriverOverload (s : State) : Host.Outcome State Fault Refusal :=
  .next (match s.line.driver with
    | .ready => s.overload
    | .faulted =>
      if s.online then
        (s.mapLine fun l => { l with overloadTimer := 0, objecting := false, slot := .none }).raiseLineFault
          (.overload s.line.overloadCount .faulted none)
      else s
    | .off | .coolOff => s)

/-- DRIVER_COOL_OFF_END (02 R29). -/
def execDriverCoolOffEnd (s : State) : Host.Outcome State Fault Refusal :=
  .next (s.mapLine fun l =>
    { l with driver := if l.driver = .coolOff then .ready else l.driver, driverCoolOff := none })

end Machine
end Sys2Proof
end

