-- ==== Sys2Proof/Machine/TakenOps.lean ====
section
/-! DEFINITION. What every Taken frame does alike (02 R31, R40, R41, R29; 04 R83; 05 R96), and what each kind does to
the Cleat Map, the Bin Table and the membership (03, 04, 05). -/
namespace Sys2Proof
namespace Machine

/-- What a Taken frame is to the rules that read no payload: kind, sender, what it is about, and the field that fails
the screen of 02 R31, if one does. -/
structure TakenFrame where
  kind : FrameKind
  sender : Nibble
  subject : Subject
  screen : Option ScreenField
  deriving DecidableEq, Repr

/-- The sender of a Taken frame as a station number. -/
def TakenFrame.station (t : TakenFrame) : Nat := t.sender.toNat

/-- The station takes the frame as its own: it was sending it (05 R96, 02 R40). -/
def State.takesAsOwn (s : State) (t : TakenFrame) : Bool :=
  t.station == s.station && s.inFlight.any fun g => g.frame.kind == t.kind && g.frame.subject == t.subject

/-- The current of the bits driven in a Taken frame, which clears the overload count when it stayed below the limit in
each (02 R28, R29). -/
def State.measureTaken (s : State) (current : LineCurrent) : State :=
  let clean := s.driverDrives && !current.isEmpty && !current.contains true
  (s.measureCurrent current).mapLine fun l => { l with overloadCount := if clean then 0 else l.overloadCount }

/-- What every Taken frame does to the Line Controller (02 R29, R39 to R41): an own frame leaves the queue, and another's
has been echoed. -/
def State.receiveTaken (s : State) (rx : Reception) (own : Bool) : State :=
  let s := s.measureTaken rx.current
  if own then (s.removeInFlight.driveSlot .none).countEcho rx.echo else (s.driveSlot .echo).endAlone

/-- A frame that passes the screen is applied, but for a bin frame for bin 0: no table applies it, and it raises no notice (04
R77 to R79). -/
def TakenFrame.applied (t : TakenFrame) : Bool := t.subject != .bin 0

/-- The duplicate test of a LISTENING station, after the frame has been applied (05 R96, R98): made for the frames that it
applies, so not for a bin frame for bin 0 (log 45). -/
def State.testDuplicate (s : State) (t : TakenFrame) (own : Bool) : State :=
  if s.listening && !own && t.station == s.station && t.applied then
    (s.raise (.duplicateId t.kind t.subject s.member.state)).enterConflict .duplicate
  else s

/-- A Taken frame (02 R31, R40): the Line Controller's part, the screen, the application with its BIN CHANGE, the
report to the sender's block, and the duplicate test. -/
def State.take (s : State) (rx : Reception) (t : TakenFrame) (apply : State → State)
    (report : Bool → State → State) : State :=
  if s.receiving then
    let own := s.takesAsOwn t
    let s := s.receiveTaken rx own
    match t.screen with
    | some field => s.raise (.mapConflict (.screen t.kind t.station field))
    | none => (report own ((apply s).reportBins s.bins)).testDuplicate t own
  else s

/-- No report of the sender's block is called for. -/
def noReport (_own : Bool) (s : State) : State := s

-- CLAIM (03 R52 to R55)

/-- The application of a CLAIM (03 R52). -/
def State.applyClaim (s : State) (sender : Nat) (x : Cleat) (b : BinNo) (used : Word16) : State :=
  let s := s.adopt .claim sender b used
  if s.entryAt x = .free ∧ s.binPasses b = true then s.changeEntry x (.claimed sender b) else s

/-- An accepted own CLAIM is late (03 R53, R54). -/
def State.claimLate (s : State) (x : Cleat) : Bool :=
  (s.lead x).any fun lead => decide (lead ≤ s.host.cfg.commitLead)

/-- The verdict on the own CLAIM of a waiting head (03 R53, R54). -/
def State.claimVerdict (s : State) (x : Cleat) (h : Container) : State :=
  if h.bin.any fun b => (s.entryAt x).claimedByFor s.station b then
    if s.claimLate x then (s.giveUp x).mapHead fun h => h.unlinked (some 0)
    else (s.setRole x .held).mapHead fun h => { h with stage := .ready, link := .held, holdWait := none }
  else s.mapHead fun h => h.unlinked h.holdWait

/-- The report of an own CLAIM to the Intake Sequencer (03 R53, R55). -/
def State.reportClaim (x : Cleat) (own : Bool) (s : State) : State :=
  match s.head with
  | some h =>
    if own && s.synced && h.link == .queued && h.cleat == some x then s.claimVerdict x h else s
  | none => s

-- RELEASE, LOAD, STRAY, MISROUTE (03 R58, R60, R63, R65)

/-- The application of a RELEASE (03 R58). -/
def State.applyRelease (s : State) (sender : Nat) (x : Cleat) : State :=
  if (s.entryAt x).claimedBy sender then s.changeEntry x .free else s

/-- A LOAD makes the entry LOADED (03 R60). -/
def Entry.loads (sender : Nat) : Entry → Bool
  | .free => true
  | .claimed owner _ => owner == sender
  | .loaded _ _ _ | .foreign => false

/-- A LOAD raises MAP CONFLICT (03 R60). -/
def Entry.loadConflicts (sender : Nat) (b : BinNo) : Entry → Bool
  | .free => false
  | .claimed owner bin => owner != sender || bin != b
  | .loaded _ _ _ | .foreign => true

/-- The passed span of a gated bin's gate (01 R21). -/
def State.passedGate (s : State) (x : Cleat) (b : BinNo) : Bool :=
  (s.lead x).any fun lead =>
    decide (256 - s.host.cfg.clearDistance ≤ lead ∧ lead ≤ 256 - s.host.cfg.gateDistance.toList.getD (b.val - 1) 0)

/-- The sort-duty station queues MISROUTE for a LOAD whose cleat has passed its gate or stays FOREIGN (01 R21),
where the frames of sort duty are queued (05 R89). -/
def State.misrouteLoad (s : State) (x : Cleat) (b : BinNo) : State :=
  if s.host.cfg.hasSortDuty && s.reportsDuty && s.belt.current.isSome && b.val != 0
      && (s.passedGate x b || s.entryAt x == .foreign) then s.queueFrame (.misroute x b 0)
  else s

/-- The application of a LOAD (03 R60, 01 R21). -/
def State.applyLoad (s : State) (sender : Nat) (x : Cleat) (b : BinNo) (m : Material) (used : Word16) : State :=
  let s := s.adopt .load sender b used
  let before := s.entryAt x
  let s := if before.loads sender then s.changeEntry x (.loaded sender b m) else s
  let s := if before.loadConflicts sender b then s.raise (.mapConflict (.load x sender b m before)) else s
  s.misrouteLoad x b

/-- A STRAY makes the entry FOREIGN (03 R63). -/
def Entry.strays : Entry → Bool
  | .free | .claimed _ _ => true
  | .loaded _ _ _ | .foreign => false

/-- A READY head whose held claim a STRAY has ended (03 R64). -/
def State.loseHeld (s : State) (x : Cleat) : State :=
  s.mapHead fun h => if h.stage = .ready ∧ h.cleat = some x then h.unlinked (some 0) else h

/-- The application of a STRAY (03 R63, R64). -/
def State.applyStray (s : State) (x : Cleat) : State :=
  let lost := s.ownClaim x
  let s := if (s.entryAt x).strays then s.changeEntry x .foreign else s
  if lost then s.loseHeld x else s

-- The Bin Table (04 R77 to R80)

/-- The state of a bin is set. -/
def State.setBinState (s : State) (b : BinNo) (state : BinState) : State :=
  s.setBin b { s.bins[b] with state := state }

/-- The application of a BIN SET (04 R77). -/
def State.applyBinSet (s : State) (sender : Nat) (b : BinNo) (used : Word16) : State :=
  (s.adopt .binSet sender b used).setBinState b .opened

/-- The eight counts of a COUNTS adopted in bin order (04 R80). -/
def State.adoptCounts (s : State) (sender : Nat) (used : Vector Word16 8) : State :=
  (List.finRange 8).foldl (fun s i => s.adopt .counts sender i.succ used[i]) s

/-- BIN HOLD is queued for each HELD bin in bin order (04 R80, 05 R92). -/
def State.reassertHolds (s : State) : State :=
  gatedBins.foldl (fun s b =>
    match s.bins[b].state with
    | .held cause => s.queueFrame (.binHold b cause)
    | .opened => s) s

-- COUNTS and JOIN (05)

/-- The carried digest is the station's own (05 R91). -/
def State.ownsDigest (s : State) (digest : Word16) : Bool := s.ownDigest == some digest

/-- CONFIG CONFLICT (05 R94, R95). -/
def State.configConflict (s : State) (kind : FrameKind) (sender : Nat) (digest : Word16) : State :=
  s.raise (.configConflict kind sender digest s.ownDigest s.member.state)

/-- A COUNTS with another digest: a LISTENING station takes itself out of the bank (05 R94). Where the COUNTS also carries
its own number, the duplicate test that follows does so, with cause DUPLICATE (R96, log 22). -/
def State.foreignCounts (s : State) (sender : Nat) (digest : Word16) : State :=
  let s := s.configConflict .counts sender digest
  if s.listening && sender != s.station then s.enterConflict .digest else s

/-- A waiting COUNTS is withdrawn (05 R93). -/
def State.withdrawCounts (s : State) : State := s.withdraw fun f => f.kind == .counts

/-- The application of a COUNTS (05 R94, 04 R80). -/
def State.applyCounts (s : State) (sender : Nat) (digest : Word16) (used : Vector Word16 8) : State :=
  if s.ownsDigest digest then s.adoptCounts sender used else s.foreignCounts sender digest

/-- The report of a COUNTS (04 R80, 05 R93): the own one reasserts the holds, another's with the own digest withdraws
the waiting one. -/
def State.reportCounts (digest : Word16) (own : Bool) (s : State) : State :=
  if own then s.reassertHolds else if s.ownsDigest digest then s.withdrawCounts else s

/-- All used counts of bins 1 to 8 are Known (05 R92). -/
def State.allKnown (s : State) : Bool := gatedBins.all fun b => (s.usedOf b).isSome

/-- A SYNCED station answers a JOIN of its own digest (05 R92). -/
def State.answerJoin (s : State) (digest : Word16) : State :=
  if s.allKnown then s.queueFrame (.counts digest (Vector.replicate 8 0xFFFF#16)) else s.reassertHolds

/-- A JOIN of another station (05 R92, R95, R97). -/
def State.foreignJoin (s : State) (sender : Nat) (digest : Word16) : State :=
  let s := if s.synced && sender == s.station then s.raise (.duplicateId .join .none s.member.state) else s
  if s.ownsDigest digest then (if s.synced then s.answerJoin digest else s)
  else s.configConflict .join sender digest

/-- The own JOIN has been Taken (05 R88). -/
def State.ownJoin (s : State) : State :=
  if s.member = .listening .joinPending then { s with member := .listening (.counting 0) } else s

/-- The report of a JOIN: the own one starts the revolution, another's is answered (05 R88, R92). -/
def State.reportJoin (sender : Nat) (digest : Word16) (own : Bool) (s : State) : State :=
  if own then s.ownJoin else s.foreignJoin sender digest

end Machine
end Sys2Proof
end

