-- ==== Sys2Proof/Machine/TakenFrames.lean ====
section
/-! DEFINITION. The meanings of the Taken frames, one for each kind (02 2.4, 03, 04, 05). -/
namespace Sys2Proof
namespace Machine

/-- The bin of a screened bin field. -/
def screenedBin (n : Nibble) : BinNo := (binOf n.toNat).getD 0

/-- CLAIM_TAKEN (03 R52 to R55). -/
def execClaimTaken (rx : Reception) (sender : Nibble) (cleat : Cleat) (bin : Nibble) (used : Word16) (s : State) :
    Host.Outcome State Fault Refusal :=
  .next (s.take rx
    { kind := .claim, sender := sender, subject := .cleat cleat, screen := screenFields sender (some bin) none none }
    (fun s => s.applyClaim sender.toNat cleat (screenedBin bin) used)
    (State.reportClaim cleat))

/-- RELEASE_TAKEN (03 R58). -/
def execReleaseTaken (rx : Reception) (sender : Nibble) (cleat : Cleat) (s : State) :
    Host.Outcome State Fault Refusal :=
  .next (s.take rx
    { kind := .release, sender := sender, subject := .cleat cleat, screen := screenFields sender none none none }
    (fun s => s.applyRelease sender.toNat cleat)
    noReport)

/-- LOAD_TAKEN (03 R60, R61, 01 R21). -/
def execLoadTaken (rx : Reception) (sender : Nibble) (cleat : Cleat) (bin material : Nibble) (used : Word16)
    (s : State) : Host.Outcome State Fault Refusal :=
  .next (s.take rx
    { kind := .load, sender := sender, subject := .cleat cleat,
      screen := screenFields sender (some bin) (some material) none }
    (fun s => s.applyLoad sender.toNat cleat (screenedBin bin) ((Material.ofCode material.toNat).getD .other) used)
    noReport)

/-- STRAY_TAKEN (03 R63, R64). -/
def execStrayTaken (rx : Reception) (sender : Nibble) (cleat : Cleat) (s : State) :
    Host.Outcome State Fault Refusal :=
  .next (s.take rx
    { kind := .stray, sender := sender, subject := .cleat cleat, screen := screenFields sender none none none }
    (fun s => s.applyStray cleat)
    noReport)

/-- MISROUTE_TAKEN (03 R65). -/
def execMisrouteTaken (rx : Reception) (sender : Nibble) (cleat : Cleat) (bin : Nibble) (used : Word16) (s : State) :
    Host.Outcome State Fault Refusal :=
  .next (s.take rx
    { kind := .misroute, sender := sender, subject := .cleat cleat,
      screen := screenFields sender (some bin) none none }
    (fun s => s.adopt .misroute sender.toNat (screenedBin bin) used)
    noReport)

/-- BIN_SET_TAKEN (04 R77). -/
def execBinSetTaken (rx : Reception) (sender : Nibble) (bin : Nibble) (used : Word16) (s : State) :
    Host.Outcome State Fault Refusal :=
  .next (s.take rx
    { kind := .binSet, sender := sender, subject := .bin (screenedBin bin),
      screen := screenFields sender (some bin) none none }
    (fun s => s.applyBinSet sender.toNat (screenedBin bin) used)
    noReport)

/-- BIN_HOLD_TAKEN (04 R78). -/
def execBinHoldTaken (rx : Reception) (sender : Nibble) (bin cause : Nibble) (s : State) :
    Host.Outcome State Fault Refusal :=
  .next (s.take rx
    { kind := .binHold, sender := sender, subject := .bin (screenedBin bin),
      screen := screenFields sender (some bin) none (some cause) }
    (fun s => s.setBinState (screenedBin bin) (.held ((HoldCause.ofCode cause.toNat).getD .staff)))
    noReport)

/-- BIN_OPEN_TAKEN (04 R79). -/
def execBinOpenTaken (rx : Reception) (sender : Nibble) (bin : Nibble) (s : State) :
    Host.Outcome State Fault Refusal :=
  .next (s.take rx
    { kind := .binOpen, sender := sender, subject := .bin (screenedBin bin),
      screen := screenFields sender (some bin) none none }
    (fun s => s.setBinState (screenedBin bin) .opened)
    noReport)

/-- COUNTS_TAKEN (05 R93, R94, 04 R80). -/
def execCountsTaken (rx : Reception) (sender : Nibble) (digest : Word16) (used : Vector Word16 8) (s : State) :
    Host.Outcome State Fault Refusal :=
  .next (s.take rx
    { kind := .counts, sender := sender, subject := .none, screen := screenFields sender none none none }
    (fun s => s.applyCounts sender.toNat digest used)
    (State.reportCounts digest))

/-- JOIN_TAKEN (05 R88, R92, R95 to R97). -/
def execJoinTaken (rx : Reception) (sender : Nibble) (digest : Word16) (s : State) :
    Host.Outcome State Fault Refusal :=
  .next (s.take rx
    { kind := .join, sender := sender, subject := .none, screen := screenFields sender none none none }
    (fun s => s)
    (State.reportJoin sender.toNat digest))

/-- UNUSED_KIND_TAKEN (02 R31): applied by no table, no notice; it counts as Taken for the echo and overload rules. A sender
out of range raises no notice either, by the model's choice (log 53). -/
def execUnusedKindTaken (rx : Reception) (_sender _kind : Nibble) (s : State) : Host.Outcome State Fault Refusal :=
  .next (if s.receiving then s.receiveTaken rx false else s)

end Machine
end Sys2Proof
end

