-- ==== Sys2Proof/Machine/PathEvents.lean ====
section
/-! DEFINITION. The events of the eyes and of the path's timers (06 R103 to R111, 07 R124). An event that the state
rules out has no effect. -/
namespace Sys2Proof
namespace Machine

-- The aperture eye (06 R103, R110, 11 R186, R188)

/-- A container at the aperture of an IDLE station with the sequence exhausted (10 R171): VOUCHERS EXHAUSTED again, with
the last number assigned. -/
def State.reportExhausted (s : State) : State :=
  if s.exhausted && s.session.state == .idle then
    s.raise (.vouchersExhausted (s.voucherNumber (s.session.sequence - 1)))
  else s

/-- The aperture eye has become blocked, in the rest level as it stands: it ends Deep Rest (11 R188) and Doze (R186),
and in Active a return is OFFERED (06 R110) or a record started (R103). -/
def State.apertureSeen (s : State) : State :=
  match s.host.rest with
  | .deepRest => (s.exitDeepRest .aperture true).testDoze
  | .doze => s.returnActive
  | .active => s.testOffered.tryStart.testDoze

/-- The level of the aperture eye. -/
def State.setAperture (s : State) (blocked : Bool) : State := { s with eyes := { s.eyes with aperture := blocked } }

/-- APERTURE_BLOCKED (06 R103). -/
def execApertureBlocked (s : State) : Host.Outcome State Fault Refusal :=
  .next (if s.eyes.aperture then s else (s.setAperture true).apertureEvent.reportExhausted.apertureSeen)

/-- An OFFERED record is RETURNED when the aperture eye becomes clear (06 R110). -/
def State.takeBack (s : State) : State :=
  match s.path.entry with
  | some c => if c.stage = .returning .offered then s.returnContainer c else s
  | none => s

/-- APERTURE_CLEAR (06 R103, R110). -/
def execApertureClear (s : State) : Host.Outcome State Fault Refusal :=
  .next (if s.eyes.aperture then (s.setAperture false).apertureEvent.takeBack.testDoze else s)

-- The scan eye (07 R124)

/-- The level of the scan eye as it stands, before the filter. -/
def State.setScanEye (s : State) (blocked : Bool) : State := { s with eyes := { s.eyes with scan := blocked } }

/-- A change of the Scan Unit. -/
def State.mapScan (s : State) (f : ScanUnit → ScanUnit) : State := { s with scan := f s.scan }

/-- The filter takes a blocking (07 R124): within a clear interval it is a trigger, otherwise it is passed on. -/
def State.filterBlocked (s : State) : State :=
  if s.scan.gap.isSome then (s.mapScan fun u => { u with gap := none }).trigger
  else if s.scan.filtered then s
  else (s.mapScan fun u => { u with filtered := true }).scanEyeSeen

/-- SCAN_EYE_BLOCKED (07 R124). -/
def execScanEyeBlocked (s : State) : Host.Outcome State Fault Refusal :=
  .next (if s.eyes.scan then s
    else if s.online then (s.setScanEye true).filterBlocked else s.setScanEye true)

/-- SCAN_EYE_CLEARED (07 R124): the scan gap time starts. -/
def execScanEyeCleared (s : State) : Host.Outcome State Fault Refusal :=
  .next (if !s.eyes.scan then s
    else if s.online && s.scan.filtered then (s.setScanEye false).mapScan fun u => { u with gap := some 0 }
    else s.setScanEye false)

/-- The filtered scan eye has become clear (06 R106, R109, R110). -/
def State.scanEyeGone (s : State) : State :=
  match s.path.entry with
  | some c =>
    match c.stage with
    | .scanning | .classifying => s.pullBack c
    | .waitingHold => if s.path.entryTimer.isSome then s.joinHold c else s
    | .returning _ => s.testOffered
    | .entering | .claiming | .ready | .transferring | .stuck => s
  | none => s

/-- SCAN_GAP_EXPIRED (07 R124). -/
def execScanGapExpired (s : State) : Host.Outcome State Fault Refusal :=
  .next (if s.scan.gap.isSome then
    ((s.mapScan fun u => { u with gap := none, filtered := false }).scanEyeGone).tryStart.testDoze
  else s)

-- The transfer eye (06 R111)

/-- TRANSFER_EYE_BLOCKED (06 R111). -/
def execTransferEyeBlocked (s : State) : Host.Outcome State Fault Refusal :=
  .next (if s.eyes.transfer then s else { s with eyes := { s.eyes with transfer := true } }.settleHold)

/-- TRANSFER_EYE_CLEAR (06 R111): the cleared-since-firing mark is set. -/
def execTransferEyeClear (s : State) : Host.Outcome State Fault Refusal :=
  .next (if s.eyes.transfer then
    (({ s with eyes := { s.eyes with transfer := false } }.mapPath fun p => { p with cleared := true }).settleHold)
  else s)

-- The path's timers

/-- EntryTime expires for the record in the entry zone (06 R104, R109, R110). -/
def State.entryTimeout (s : State) (c : Container) : State :=
  match c.stage with
  | .entering => if s.eyes.aperture then s.jamEntry c .entryTimeout none else s.discardEntry
  | .waitingHold => s.jamEntry c .handoverTimeout none
  | .returning .backing =>
    if s.scan.filtered then s.jamEntry c .returnTimeout none
    else if s.eyes.aperture then s.testOffered
    else s.returnContainer c
  | .returning .offered | .scanning | .classifying | .claiming | .ready | .transferring | .stuck => s

/-- ENTRY_TIME_EXPIRED (06 R104). -/
def execEntryTimeExpired (s : State) : Host.Outcome State Fault Refusal :=
  .next (if s.path.entryTimer.isSome then
    let s := s.mapPath fun p => { p with entryTimer := none }
    (match s.path.entry with
      | some c => s.entryTimeout c
      | none => s).tryStart.testDoze
  else s)

/-- READ_TIME_EXPIRED (06 R105). -/
def execReadTimeExpired (s : State) : Host.Outcome State Fault Refusal :=
  .next (if s.path.readTimer.isSome then s.closeWindow.testClassify else s)

end Machine
end Sys2Proof
end

