-- ==== Sys2Proof/Machine/ScanEvents.lean ====
section
/-! DEFINITION. The Container Scan (07 R121, R122), the Supply Watch (R126 to R129) and the code reader (R130 to
R132). -/
namespace Sys2Proof
namespace Machine

-- The Container Scan (07 R121, R122)

/-- The average of four conversions, rounded down (07 R119). -/
def average (four : Vector Sample 4) : Nat := (four.toList.map BitVec.toNat).sum / 4

/-- The average of a channel 0 to 5 over the four rounds (07 R121). -/
def channelAverage (rounds : Vector (Vector Sample 6) 4) (channel : Fin 6) : Nat :=
  average (rounds.map fun r => r[channel])

/-- The channel was converted (07 R121). -/
def Configuration.converts (c : Configuration) (channel : Nat) : Bool :=
  decide (c.scanFirst ≤ channel ∧ channel ≤ c.scanLast)

/-- The scan record of four rounds (07 R122). -/
def buildScan (c : Configuration) (rounds : Vector (Vector Sample 6) 4) (overrun : Bool) : ScanRecord :=
  let avg := channelAverage rounds
  { averages := ((List.finRange 6).filter fun n => Configuration.converts c n.val).map fun n => (n.val, avg n)
    weight := if Configuration.converts c 0 then some (avg 0 * 4) else none
    bars := if [1, 2, 3, 4].all (Configuration.converts c) then
        some (([1, 2, 3, 4] : List (Fin 6)).countP fun n => decide (avg n < c.shadowThreshold))
      else none
    metal := if Configuration.converts c 5 then some (decide (c.metalThreshold ≤ avg 5)) else none
    overrun := overrun }

/-- The record of the entry zone is SCANNING with a code read (06 R105). -/
def State.codeRead (s : State) : Bool := s.path.entry.any fun c => c.stage == .scanning && c.code.isSome

/-- CONTAINER_SCAN_COMPLETE (07 R121): the window closes if a code has been read (06 R105). -/
def execContainerScanComplete (rounds : Vector (Vector Sample 6) 4) (s : State) :
    Host.Outcome State Fault Refusal :=
  .next (if s.scan.program = .scanning then
    let s := s.mapScan fun u =>
      { u with program := .watching, overrunPending := false,
               record := some (buildScan s.host.cfg rounds u.overrunPending) }
    (if s.codeRead then s.closeWindow else s).testClassify
  else s)

-- The Supply Watch (07 R126 to R129)

/-- The supply condition after a good supply average (07 R127). -/
def judgeSupply (before : SupplyCondition) (supply : Nat) : SupplyCondition :=
  if 656 ≤ supply then .normal
  else if 625 ≤ supply then before
  else if 531 ≤ supply then (if before = .cutoff then .cutoff else .low)
  else .cutoff

/-- A reference average is good (07 R128). -/
def referenceGood (reference : Nat) : Bool := decide (480 ≤ reference ∧ reference ≤ 544)

/-- The supply condition after a result (07 R127, R128): a bad reference is judged as a supply below 531. -/
def judgeResult (before : SupplyCondition) (supply reference : Nat) : SupplyCondition :=
  if referenceGood reference then judgeSupply before supply else .cutoff

/-- The cause of SUPPLY for a change of condition (07 R129); LOW to NORMAL raises none. -/
def supplyCause (former new : SupplyCondition) : Option SupplyCause :=
  match former, new with
  | .normal, .low => some .low
  | .normal, .cutoff | .low, .cutoff => some .cutoff
  | .cutoff, .normal => some .recovered
  | .normal, .normal | .low, .normal | .low, .low | .cutoff, .low | .cutoff, .cutoff => none

/-- WATCH_RESULT (07 R127): the reference state and the condition are recorded, the drives told, SUPPLY raised, the
REFERENCE change first. -/
def execWatchResult (supply reference : Vector Sample 4) (s : State) : Host.Outcome State Fault Refusal :=
  .next (if s.scan.program = .watching then
    let former := s.scan.supply
    let supplyAverage := average supply
    let referenceAverage := average reference
    let new := judgeResult former supplyAverage referenceAverage
    let good := referenceGood referenceAverage
    let t := State.followCut s (s.mapScan fun u =>
      { u with supply := new, reference := if good then .good else .bad, lastSupply := some supplyAverage,
               lastReference := some referenceAverage })
    let t := if s.scan.reference = .good ∧ good = false then
        t.raise (.supply .reference former new supplyAverage referenceAverage)
      else t
    match supplyCause former new with
    | some cause => t.raise (.supply cause former new supplyAverage referenceAverage)
    | none => t
  else s)

-- The code reader (07 R130 to R132)

/-- What the receiver makes of a character (07 R130): framing is taken before parity. -/
def characterError (data : Byte) (parity stop : Bool) : Option ReaderError :=
  if !stop then some .framing
  else if (fieldBits data).foldl xor parity then some .parity
  else none

/-- The end of a message (07 R131): a code, or the error and its position. -/
inductive Message where
  | good (code : Code)
  | bad (error : ReaderError) (position : Nat)
  deriving DecidableEq, Repr

/-- The value of the digits, read as a decimal number (07 R131). -/
def digitsValue (digits : List Byte) : Nat := digits.foldl (fun n d => 10 * n + (d.toNat - 0x30)) 0

/-- A character is a digit (07 R131). -/
def isDigit (data : Byte) : Bool := decide (0x30 ≤ data.toNat ∧ data.toNat ≤ 0x39)

/-- The checks of a message ended by its carriage return (07 R131). -/
def judgeMessage (digits : List Byte) : Message :=
  if digits.length < 8 ∨ 14 < digits.length then .bad .length digits.length
  else if digitsValue digits = 0 then .bad .zeroCode digits.length
  else .good (BitVec.ofNat 48 (digitsValue digits))

/-- The position of the character after the digits held (07 R132). Past the sixteenth it is free (log 6). -/
def faultPosition (late : Nat) (digits : List Byte) : Nat :=
  if digits.length < 16 then digits.length + 1 else late

/-- A character in COLLECTING (07 R131): the state after it and the message it ends. -/
def collect (late : Nat) (digits : List Byte) (error : Option ReaderError) (data : Byte) :
    Assembly × Option Message :=
  match error with
  | some e => (.discarding e (faultPosition late digits), none)
  | none =>
    if data = 0x0D#8 then (.idle, some (judgeMessage digits))
    else if !isDigit data then (.discarding .nonDigit (faultPosition late digits), none)
    else if digits.length < 16 then (.collecting (digits ++ [data]), none)
    else (.discarding .overrun (faultPosition late digits), none)

/-- One character (07 R131). -/
def Assembly.receive (a : Assembly) (late : Nat) (error : Option ReaderError) (data : Byte) :
    Assembly × Option Message :=
  match a with
  | .idle => if error = none ∧ data = 0x0A#8 then (.idle, none) else collect late [] error data
  | .collecting digits => collect late digits error data
  | .discarding e position =>
    if error = none ∧ data = 0x0D#8 then (.idle, some (.bad e position)) else (.discarding e position, none)

/-- A good code handed to an open window (06 R105, 07 R132): the first is kept, a different later one is the second
code; the first closes the window of a completed scan. -/
def State.handCode (s : State) (c : Container) (code : Code) : State :=
  match c.code with
  | none =>
    let s := s.setEntryRecord { c with code := some code }
    if s.scan.record.isSome then s.closeWindow.testClassify else s
  | some first => if first = code then s else s.setEntryRecord { c with secondCode := true }

/-- An ended message is handed on by the state of the code window (07 R132). -/
def State.endMessage (s : State) (m : Message) : State :=
  match s.path.entry with
  | some c =>
    if s.path.window then
      match m with
      | .good code => s.handCode c code
      | .bad error position => s.raise (.readerFault error position c.tag)
    else s
  | none => s

/-- A character is the seventeenth of its message, and an error is found at it (07 R131). -/
def Assembly.faultsLate (a : Assembly) (error : Option ReaderError) (data : Byte) : Bool :=
  match a with
  | .collecting digits => 16 ≤ digits.length && (error.isSome || data != 0x0D#8)
  | _ => false

/-- CODE_READER_CHARACTER (07 R131). -/
def execCodeReaderCharacter (data : Byte) (parity stop : Bool) (s : State) : Host.Outcome State Fault Refusal :=
  .next (if s.reader.run = .running then
    let error := characterError data parity stop
    let r := s.reader.assembly.receive (Config.lateFaultPosition s.draws) error data
    let s := { s with
      reader := { s.reader with assembly := r.1 }
      draws := if s.reader.assembly.faultsLate error data then s.draws + 1 else s.draws }
    match r.2 with
    | some m => s.endMessage m
    | none => s
  else s)

/-- READER_MARK_LEVEL_REACHED (07 R130): the receiver has waited ten bit periods of mark level and runs. -/
def execReaderMarkLevelReached (s : State) : Host.Outcome State Fault Refusal :=
  .next (if s.reader.run = .settling then { s with reader := { run := .running, assembly := .idle } } else s)

end Machine
end Sys2Proof
end

