-- ==== Sys2Proof/Machine/ArticleEvents.lean ====
section
/-! DEFINITION. The walk (08 R138 to R141, R149, R150), the pending query's time (R147), and the transactions of a host
store access (R144 to R146). -/
namespace Sys2Proof
namespace Machine

-- The walk

/-- The group that a walk reads in a phase (08 R136, R140). -/
def State.walkGroup (s : State) (w : Walk) : Nat :=
  if w.phase = .secondary then secondaryGroup s.host.cfg.groups w.code else primaryGroup s.host.cfg.groups w.code

/-- The walk has ended: the lookup as given, and the port frees (08 R143). -/
def State.freePort (s : State) (lookup : Lookup) : State :=
  s.mapArticle fun u => { u with lookup := lookup }.arbitrate

/-- A walk with its revoke mark set has ended (08 R149, R150): a new walk, or none for a withdrawn one. -/
def State.endRevoked (s : State) (w : Walk) : State :=
  let s := s.freePort .idle
  if w.withdrawn then s.resumeLookup else s.mapArticle fun u => u.requestWalk w.code w.tag

/-- A walk has ended found (08 R138, R150). -/
def State.endFound (s : State) (w : Walk) (a : Article) : State :=
  let s := (s.mapArticle fun u => u.fill a).freePort .idle
  if w.withdrawn then s.resumeLookup else s.fullDecision (some a)

/-- A host query begins (08 R147). -/
def State.beginQuery (s : State) (w : Walk) : State :=
  ((s.freePort (.querying w.code w.tag)).mapArticle fun u => { u with queryTimer := some 0 }).raise
    (.articleQuery w.code w.tag)

/-- A walk has ended absent (08 R138, R150). -/
def State.endAbsent (s : State) (w : Walk) : State :=
  if w.withdrawn then (s.freePort .idle).resumeLookup
  else if s.host.cfg.queriesOn then s.beginQuery w
  else (s.freePort .idle).fullDecision none

/-- STORE FAULT for a matching malformed entry (08 R134). -/
def State.raiseMalformed (s : State) (w : Walk) (entry : Fin 8) (field : MalformedField) : State :=
  let group := s.walkGroup w
  s.raise (.storeFault (.malformed group entry.val (group * 128 + entry.val * 16) w.code field))

/-- A group burst has been read (08 R141). -/
def State.walkRead (s : State) (w : Walk) (r : BurstResult) : State :=
  match r with
  | .noMatch emptySeen =>
    if w.phase = .primary ∧ emptySeen = false then
      s.mapArticle fun u => { u with lookup := .walking { w with phase := .secondary } }
    else if w.revoked then s.endRevoked w
    else s.endAbsent w
  | .found a => if w.revoked then s.endRevoked w else s.endFound w a
  | .malformed entry field =>
    if w.revoked then s.endRevoked w else (s.raiseMalformed w entry field).endAbsent w

/-- WALK_GROUP_READ (08 R141), with the 128 bytes of the group as the memory gives them. -/
def execWalkGroupRead (group : GroupBytes) (s : State) : Host.Outcome State Fault Refusal :=
  .next (match s.article.lookup with
    | .walking w => if w.phase = .waitingPort then s else s.walkRead w (readBurst group w.code)
    | .idle | .querying _ _ => s)

/-- QUERY_TIME_EXPIRED (08 R147). -/
def execQueryTimeExpired (s : State) : Host.Outcome State Fault Refusal :=
  .next (if s.article.queryTimer.isSome then
    match s.article.lookup with
    | .querying _ _ => s.endQuery none
    | .idle | .walking _ => s.mapArticle fun u => { u with queryTimer := none }
  else s)

-- Host store accesses

/-- The host access has ended: its answer is placed and the port frees (08 R143, R144). -/
def State.endAccess (s : State) (a : Answer) : State :=
  (s.mapArticle fun u => { u with access := none, busyTimer := none }.arbitrate).setAnswer a

/-- STORE_READ_END (08 R144). -/
def execStoreReadEnd (data : List Byte) (s : State) : Host.Outcome State Fault Refusal :=
  .next (match s.article.access with
    | some { request := .read _ length, stage := .running } =>
      if data.length = length then s.endAccess (.done (.bytes data)) else s
    | _ => s)

/-- WRITE_TRANSACTION_END (08 R145): StoreBusyTime starts. -/
def execWriteTransactionEnd (s : State) : Host.Outcome State Fault Refusal :=
  .next (match s.article.access with
    | some { request := .write address data, stage := .running } =>
      s.mapArticle fun u =>
        { u with access := some { request := .write address data, stage := .polling }, busyTimer := some 0 }
    | _ => s)

/-- A STORE WRITE has ended (08 R145); a RESTART that waited for it then proceeds (R146). -/
def State.endWrite (s : State) (a : Answer) : State :=
  if s.host.restartPending then s.restart.setAnswer (.done .none) else s.endAccess a

/-- STATUS_READ (08 R145): bit 0 clear shows the memory not busy. -/
def execStatusRead (status : Byte) (s : State) : Host.Outcome State Fault Refusal :=
  .next (match s.article.access with
    | some { request := .write _ _, stage := .polling } =>
      if status.getLsbD 0 then s else s.endWrite (.done .none)
    | _ => s)

/-- STORE_BUSY_TIME_EXPIRED (08 R145). -/
def execStoreBusyTimeExpired (s : State) : Host.Outcome State Fault Refusal :=
  .next (if s.article.busyTimer.isSome then
    match s.article.access with
    | some { request := .write address data, stage := .polling } =>
      (s.raise (.storeFault (.busyTimeout address data.length))).endWrite .failed
    | _ => s.mapArticle fun u => { u with busyTimer := none }
  else s)

end Machine
end Sys2Proof
end

