-- ==== Sys2Proof/Machine/DriveEvents.lean ====
section
/-! DEFINITION. The events of the drive channels and of the heat stage (09), and the expiries of the idle timer (10
R168) and the doze timer (11 R185). -/
namespace Sys2Proof
namespace Machine

/-- DRIVE_LIMIT_REACHED (09 R155). -/
def execDriveLimitReached (channel : Channel) (s : State) : Host.Outcome State Fault Refusal :=
  .next (s.mapChannel channel .limitReached)

/-- DRIVE_LIMIT_LEFT (09 R155). -/
def execDriveLimitLeft (channel : Channel) (s : State) : Host.Outcome State Fault Refusal :=
  .next (s.mapChannel channel .limitLeft)

/-- GRACE_TIME_EXPIRED (09 R155): the fault of R156, and the owner is told. -/
def execGraceTimeExpired (channel : Channel) (s : State) : Host.Outcome State Fault Refusal :=
  .next (if (s.channel channel).grace.isSome then
    if (s.channel channel).state = .limiting then (s.faultChannel channel).tellOwners s.drives
    else s.mapChannel channel fun r => { r with grace := none }
  else s)

/-- COOL_OFF_EXPIRED (09 R158, R162). -/
def execCoolOffExpired (channel : Channel) (s : State) : Host.Outcome State Fault Refusal :=
  .next (s.mapChannel channel .coolOffExpired)

/-- FLAP_TIME_EXPIRED (09 R159). -/
def execFlapTimeExpired (s : State) : Host.Outcome State Fault Refusal :=
  .next (if s.drives.flapTimer.isSome then
    let s := s.mapChannel .flap .withdraw
    { s with drives := { s.drives with flapTimer := none } }
  else s)

/-- CLEAN_RUN_EXPIRED (09 R157). -/
def execCleanRunExpired (channel : Channel) (s : State) : Host.Outcome State Fault Refusal :=
  .next (s.mapChannel channel .cleanRunExpired)

/-- The heat stage after a crossing, with the cause of THERMAL where it raises one (09 R161); a crossing that the stage
does not answer changes nothing. -/
def crossed (stage : HeatStage) (crossing : HeatCrossing) : Option (HeatStage × Option ThermalCause) :=
  match crossing, stage with
  | .above130, .normal => some (.warm, some .warm)
  | .above160, .normal | .above160, .warm => some (.hot, some .hot)
  | .below140, .hot => some (.warm, some .cooled)
  | .below120, .warm => some (.normal, none)
  | .above130, .warm | .above130, .hot | .above160, .hot | .below140, .normal | .below140, .warm
  | .below120, .normal | .below120, .hot => none

/-- The heat stage is entered, with its THERMAL and the channel states at the change (09 R161). -/
def State.enterStage (s : State) (stage : HeatStage) (cause : Option ThermalCause) : State :=
  match cause with
  | some c => { s with heat := stage }.raise (.thermal c s.heat stage s.drives.states)
  | none => { s with heat := stage }

/-- HEAT_STAGE_CHANGE (09 R161): the stage is entered, then the cut begins or ends (R162). -/
def execHeatStageChange (crossing : HeatCrossing) (s : State) : Host.Outcome State Fault Refusal :=
  .next (match crossed s.heat crossing with
    | some p => State.followCut s (s.enterStage p.1 p.2)
    | none => s)

/-- IDLE_TIMER_EXPIRED (10 R168). -/
def execIdleTimerExpired (s : State) : Host.Outcome State Fault Refusal :=
  .next (if s.session.idleTimer.isSome then
    if s.session.state = .opened then (s.beginClose .idle).testDoze
    else s.mapSession fun n => { n with idleTimer := none }
  else s)

/-- DOZE_TIMER_EXPIRED (11 R185). -/
def execDozeTimerExpired (s : State) : Host.Outcome State Fault Refusal :=
  .next (if s.host.dozeTimer.isSome then
    { s with host := { s.host with dozeTimer := none, offered := true } }.raise (.dozeOffer s.host.cfg.dozeDelay)
  else s)

end Machine
end Sys2Proof
end

