-- ==== Sys2Proof/Machine/Tick.lean ====
section
/-! DEFINITION. The part's own time (log 1, log 35): on an empty queue a step is one millisecond, or the expiry of a timer
that has reached its time. -/
namespace Sys2Proof
namespace Machine

/-- A timer with its time in milliseconds and the command of its expiry. -/
structure Clock where
  timer : Timer
  limit : Nat
  expiry : Instr

/-- The timer has reached its time. -/
def Clock.due (c : Clock) : Bool := c.timer.any fun t => decide (c.limit ≤ t)

/-- The timers of the path, the Scan Unit, the Article Unit and FLAP. -/
def State.pathClocks (s : State) : List Clock :=
  [⟨s.scan.gap, Config.scanGapTime, .scanGapExpired⟩,
   ⟨s.path.entryTimer, Config.entryTime, .entryTimeExpired⟩,
   ⟨s.path.readTimer, Config.readTime, .readTimeExpired⟩,
   ⟨s.article.queryTimer, s.host.cfg.queryTimeMs, .queryTimeExpired⟩,
   ⟨s.article.busyTimer, Config.storeBusyTime, .storeBusyTimeExpired⟩,
   ⟨s.drives.flapTimer, s.host.cfg.flapTime, .flapTimeExpired⟩]

/-- The grace timers. -/
def State.graceClocks (s : State) : List Clock :=
  allChannels.map fun c => ⟨(s.channel c).grace, (s.driveSetting c).graceMs, .graceTimeExpired c⟩

/-- The cool-off timers. -/
def State.coolOffClocks (s : State) : List Clock :=
  allChannels.map fun c => ⟨(s.channel c).coolOff, (s.driveSetting c).coolOffMs, .coolOffExpired c⟩

/-- The clean running times. -/
def State.cleanRunClocks (s : State) : List Clock :=
  allChannels.map fun c => ⟨(s.channel c).cleanRun, Config.cleanRunTime, .cleanRunExpired c⟩

/-- The idle timer, the doze timer, the driver's cool-off, and a Wake pulse being driven, which lasts under one
millisecond (log 1). -/
def State.lastClocks (s : State) : List Clock :=
  [⟨s.session.idleTimer, s.host.cfg.idleTimeMs, .idleTimerExpired⟩,
   ⟨s.host.dozeTimer, s.host.cfg.dozeDelayMs, .dozeTimerExpired⟩,
   ⟨s.line.driverCoolOff, s.host.cfg.driverCoolOffMs, .driverCoolOffEnd⟩,
   ⟨if s.line.wake = .driving then some 0 else none, 0, .wakePulseDone⟩]

/-- Every timer, in the order in which those due together expire (log 35). -/
def State.clocks (s : State) : List Clock :=
  s.pathClocks ++ s.graceClocks ++ s.coolOffClocks ++ s.cleanRunClocks ++ s.lastClocks

/-- The expiry that is due, the first in order (log 35). -/
def State.dueExpiry (s : State) : Option Instr := (s.clocks.find? Clock.due).map Clock.expiry

/-- A running timer is one millisecond further. -/
def Timer.advance (t : Timer) : Timer := t.map fun n => n + 1

/-- The timers of a channel one millisecond further. -/
def ChannelRecord.advance (r : ChannelRecord) : ChannelRecord :=
  { r with grace := Timer.advance r.grace, coolOff := Timer.advance r.coolOff, cleanRun := Timer.advance r.cleanRun }

/-- Every running timer one millisecond further. -/
def State.advance (s : State) : State :=
  { s with
    scan := { s.scan with gap := Timer.advance s.scan.gap }
    path := { s.path with
      entryTimer := Timer.advance s.path.entryTimer, readTimer := Timer.advance s.path.readTimer }
    article := { s.article with
      queryTimer := Timer.advance s.article.queryTimer, busyTimer := Timer.advance s.article.busyTimer }
    drives := { s.drives.mapAll fun _ r => r.advance with flapTimer := Timer.advance s.drives.flapTimer }
    session := { s.session with idleTimer := Timer.advance s.session.idleTimer }
    host := { s.host with dozeTimer := Timer.advance s.host.dozeTimer }
    line := { s.line with driverCoolOff := Timer.advance s.line.driverCoolOff } }

/-- One step of the part's own time (log 1): the expiry that is due joins the queue, or a millisecond passes. -/
def State.tick (s : State) : State :=
  match s.dueExpiry with
  | some i => { s with pending := [i] }
  | none => s.advance

end Machine
end Sys2Proof
end

