-- ==== Sys2Proof/Machine/Dispatch.lean ====
section
/-! DEFINITION. The dispatch: one arm per command, each one direct call of its meaning. -/
namespace Sys2Proof
namespace Machine

/-- The effect of a command on everything but the queue. -/
def exec (i : Instr) (s : State) : Host.Outcome State Fault Refusal :=
  match i with
  | .powerOnReset temperature => Sys2Proof.Machine.execPowerOnReset temperature s
  | .setConfiguration carried => Sys2Proof.Machine.execSetConfiguration carried s
  | .start => Sys2Proof.Machine.execStart s
  | .readStatus => Sys2Proof.Machine.execReadStatus s
  | .readNotices => Sys2Proof.Machine.execReadNotices s
  | .readMap first count => Sys2Proof.Machine.execReadMap first count s
  | .readBins => Sys2Proof.Machine.execReadBins s
  | .readPath => Sys2Proof.Machine.execReadPath s
  | .readSession => Sys2Proof.Machine.execReadSession s
  | .closeSession => Sys2Proof.Machine.execCloseSession s
  | .takeVoucher => Sys2Proof.Machine.execTakeVoucher s
  | .readHistory => Sys2Proof.Machine.execReadHistory s
  | .articleAnswer code kind record cacheOption => Sys2Proof.Machine.execArticleAnswer code kind record cacheOption s
  | .revokeArticle code => Sys2Proof.Machine.execRevokeArticle code s
  | .storeRead address length => Sys2Proof.Machine.execStoreRead address length s
  | .storeWrite address data => Sys2Proof.Machine.execStoreWrite address data s
  | .binSet bin used => Sys2Proof.Machine.execBinSet bin used s
  | .binHold bin => Sys2Proof.Machine.execBinHold bin s
  | .binOpen bin => Sys2Proof.Machine.execBinOpen bin s
  | .grantDoze => Sys2Proof.Machine.execGrantDoze s
  | .deepRest => Sys2Proof.Machine.execDeepRest s
  | .wake => Sys2Proof.Machine.execWake s
  | .restart => Sys2Proof.Machine.execRestart s
  | .clearDrive channel => Sys2Proof.Machine.execClearDrive channel s
  | .clearJam => Sys2Proof.Machine.execClearJam s
  | .badRequest reason => Sys2Proof.Machine.execBadRequest reason s
  | .emptyTransaction => Sys2Proof.Machine.execEmptyTransaction s
  | .pitchMark landing => Sys2Proof.Machine.execPitchMark landing s
  | .homeMark landing => Sys2Proof.Machine.execHomeMark landing s
  | .frameStart => Sys2Proof.Machine.execFrameStart s
  | .arbitrationLost => Sys2Proof.Machine.execArbitrationLost s
  | .arbitrationWon => Sys2Proof.Machine.execArbitrationWon s
  | .frameError error kind sender current => Sys2Proof.Machine.execFrameError error kind sender current s
  | .frameObjected echo check current => Sys2Proof.Machine.execFrameObjected echo check current s
  | .claimTaken rx sender cleat bin used => Sys2Proof.Machine.execClaimTaken rx sender cleat bin used s
  | .releaseTaken rx sender cleat => Sys2Proof.Machine.execReleaseTaken rx sender cleat s
  | .loadTaken rx sender cleat bin material used => Sys2Proof.Machine.execLoadTaken rx sender cleat bin material used s
  | .strayTaken rx sender cleat => Sys2Proof.Machine.execStrayTaken rx sender cleat s
  | .misrouteTaken rx sender cleat bin used => Sys2Proof.Machine.execMisrouteTaken rx sender cleat bin used s
  | .binSetTaken rx sender bin used => Sys2Proof.Machine.execBinSetTaken rx sender bin used s
  | .binHoldTaken rx sender bin cause => Sys2Proof.Machine.execBinHoldTaken rx sender bin cause s
  | .binOpenTaken rx sender bin => Sys2Proof.Machine.execBinOpenTaken rx sender bin s
  | .countsTaken rx sender digest used => Sys2Proof.Machine.execCountsTaken rx sender digest used s
  | .joinTaken rx sender digest => Sys2Proof.Machine.execJoinTaken rx sender digest s
  | .unusedKindTaken rx sender kind => Sys2Proof.Machine.execUnusedKindTaken rx sender kind s
  | .lineBusy => Sys2Proof.Machine.execLineBusy s
  | .lineQuiet => Sys2Proof.Machine.execLineQuiet s
  | .lineStuck => Sys2Proof.Machine.execLineStuck s
  | .stuckCleared length => Sys2Proof.Machine.execStuckCleared length s
  | .wakePulse length => Sys2Proof.Machine.execWakePulse length s
  | .wakePulseSend => Sys2Proof.Machine.execWakePulseSend s
  | .wakePulseDone => Sys2Proof.Machine.execWakePulseDone s
  | .driverOverload => Sys2Proof.Machine.execDriverOverload s
  | .driverCoolOffEnd => Sys2Proof.Machine.execDriverCoolOffEnd s
  | .apertureBlocked => Sys2Proof.Machine.execApertureBlocked s
  | .apertureClear => Sys2Proof.Machine.execApertureClear s
  | .scanEyeBlocked => Sys2Proof.Machine.execScanEyeBlocked s
  | .scanEyeCleared => Sys2Proof.Machine.execScanEyeCleared s
  | .scanGapExpired => Sys2Proof.Machine.execScanGapExpired s
  | .transferEyeBlocked => Sys2Proof.Machine.execTransferEyeBlocked s
  | .transferEyeClear => Sys2Proof.Machine.execTransferEyeClear s
  | .entryTimeExpired => Sys2Proof.Machine.execEntryTimeExpired s
  | .readTimeExpired => Sys2Proof.Machine.execReadTimeExpired s
  | .containerScanComplete rounds => Sys2Proof.Machine.execContainerScanComplete rounds s
  | .codeReaderCharacter data parity stop => Sys2Proof.Machine.execCodeReaderCharacter data parity stop s
  | .watchResult supply reference => Sys2Proof.Machine.execWatchResult supply reference s
  | .walkGroupRead group => Sys2Proof.Machine.execWalkGroupRead group s
  | .queryTimeExpired => Sys2Proof.Machine.execQueryTimeExpired s
  | .storeReadEnd data => Sys2Proof.Machine.execStoreReadEnd data s
  | .statusRead status => Sys2Proof.Machine.execStatusRead status s
  | .storeBusyTimeExpired => Sys2Proof.Machine.execStoreBusyTimeExpired s
  | .driveLimitReached channel => Sys2Proof.Machine.execDriveLimitReached channel s
  | .driveLimitLeft channel => Sys2Proof.Machine.execDriveLimitLeft channel s
  | .graceTimeExpired channel => Sys2Proof.Machine.execGraceTimeExpired channel s
  | .coolOffExpired channel => Sys2Proof.Machine.execCoolOffExpired channel s
  | .flapTimeExpired => Sys2Proof.Machine.execFlapTimeExpired s
  | .cleanRunExpired channel => Sys2Proof.Machine.execCleanRunExpired channel s
  | .heatStageChange crossing => Sys2Proof.Machine.execHeatStageChange crossing s
  | .idleTimerExpired => Sys2Proof.Machine.execIdleTimerExpired s
  | .dozeTimerExpired => Sys2Proof.Machine.execDozeTimerExpired s
  | .readerMarkLevelReached => Sys2Proof.Machine.execReaderMarkLevelReached s
  | .writeTransactionEnd => Sys2Proof.Machine.execWriteTransactionEnd s

end Machine
end Sys2Proof
end

