-- ==== Sys2Proof/Machine/ReaderSampling.lean ====
section
/-! DEFINITION. The code reader's receiver before the characters (07 R130): the wait for the mark level, the start bit, the
bits sampled in the middle of their bit periods, and the wait after a framing error. The input is given as levels, `true` at
mark, on a grid of `hz` samples in a second (log 57); what it spells are the commands of the code reader. -/
namespace Sys2Proof
namespace Machine

/-- The configured rate of the code reader in baud (07 R130, 11 R179). -/
def Configuration.readerBaud (c : Configuration) : Nat := if c.readerRate = 0 then 9600 else 38400

/-- The bit period in samples of the grid (07 R130). -/
def readerPeriod (c : Configuration) (hz : Nat) : Nat := hz / Configuration.readerBaud c

/-- A byte from its bits, the least significant first (07 R130). -/
def byteOfBits (bits : List Bool) : Byte := BitVec.ofNat 8 (bits.foldr (fun b n => 2 * n + b.toNat) 0)

/-- The character of eleven sampled bits (07 R130): the start bit, eight data bits, the parity bit and the stop bit. -/
def readerCharacter (bits : List Bool) : Instr :=
  .codeReaderCharacter (byteOfBits ((bits.drop 1).take 8)) (bits.getD 9 false) (bits.getD 10 false)

/-- The bits of a character as they are sent (07 R130). -/
def characterBits (data : Byte) (parity stop : Bool) : List Bool :=
  false :: (List.range 8).map data.getLsbD ++ [parity, stop]

/-- Where the receiver stands (07 R130): waiting for ten bit periods of mark level, waiting for a start bit with the level
before, or within a character with the samples since its falling edge and the bits sampled. -/
inductive ReaderPlace where
  | settling (mark : Nat)
  | waiting (level : Bool)
  | inside (age : Nat) (bits : List Bool)
  deriving DecidableEq, Repr

/-- One sample within a character (07 R130): each bit is taken in the middle of its bit period from the falling edge of the
start bit on; the eleventh ends the character, and the next start bit is a falling edge after it. -/
def readerSample (period age : Nat) (bits : List Bool) (level : Bool) : ReaderPlace × Option Instr :=
  if age = bits.length * period + period / 2 then
    let bits := bits ++ [level]
    if bits.length = 11 then (.waiting level, some (readerCharacter bits)) else (.inside (age + 1) bits, none)
  else (.inside (age + 1) bits, none)

/-- One sample of the input (07 R130). -/
def ReaderPlace.next (period : Nat) (place : ReaderPlace) (level : Bool) : ReaderPlace × Option Instr :=
  match place with
  | .settling mark =>
    if !level then (.settling 0, none)
    else if mark + 1 = 10 * period then (.waiting true, some .readerMarkLevelReached)
    else (.settling (mark + 1), none)
  | .waiting before => if before && !level then readerSample period 0 [] level else (.waiting level, none)
  | .inside age bits => readerSample period age bits level

/-- The commands that the input spells from a place on (07 R130). -/
def readerCommandsFrom (period : Nat) (place : ReaderPlace) : List Bool → List Instr
  | [] => []
  | level :: rest =>
    let r := place.next period level
    r.2.toList ++ readerCommandsFrom period r.1 rest

/-- The commands that the input spells to a receiver that begins to run (07 R130). -/
def readerCommands (c : Configuration) (hz : Nat) (input : List Bool) : List Instr :=
  readerCommandsFrom (readerPeriod c hz) (.settling 0) input

end Machine
end Sys2Proof
end

