-- ==== Sys2Proof/Machine/StorePort.lean ====
section
/-! DEFINITION. The transactions on the Store port (08 R142): their bytes, those of a group burst with its early stop
(R140), and those of a host access (R144, R145). -/
namespace Sys2Proof
namespace Machine

/-- The four transactions of the port (08 R142). -/
inductive StoreTransaction where
  | read (address length : Nat)
  | writeEnable
  | write (address : Nat) (data : List Byte)
  | statusRead
  deriving DecidableEq, Repr

/-- The three address bytes, high byte first (08 R142). -/
def addressBytes (address : Nat) : List Byte :=
  [BitVec.ofNat 8 (address / 65536), BitVec.ofNat 8 (address / 256), BitVec.ofNat 8 address]

/-- The bytes that a transaction sends (08 R142); none is a dummy byte, whose value the manual leaves open (log 51). -/
def StoreTransaction.bytesSent (latency : Nat) : StoreTransaction → List (Option Byte)
  | .read address _ => (0x0B#8 :: addressBytes address).map some ++ List.replicate latency none
  | .writeEnable => [some 0x06#8]
  | .write address data => (0x02#8 :: addressBytes address ++ data).map some
  | .statusRead => [some 0x05#8]

/-- How many bytes a transaction receives (08 R142). -/
def StoreTransaction.received : StoreTransaction → Nat
  | .read _ length => length
  | .statusRead => 1
  | .writeEnable | .write _ _ => 0

/-- The byte times that a transaction lasts (08 R142). -/
def StoreTransaction.byteTimes (latency : Nat) (t : StoreTransaction) : Nat :=
  (t.bytesSent latency).length + t.received

/-- How many entries of a burst a walk for a code reads (08 R140): to the first that holds the code, or all eight. -/
def entriesRead (group : GroupBytes) (code : Code) : Nat :=
  match (burst group (startEntry code)).findIdx? fun p => entryCode p.2 == code with
  | some i => i + 1
  | none => 8

/-- The one or two read transactions of the first `n` entries of a burst (08 R140, R135): from the start entry to entry 7,
then from entry 0. -/
def burstReads (group start n : Nat) : List StoreTransaction :=
  let first := min n (8 - start)
  .read (group * 128 + start * 16) (first * 16)
    :: if first < n then [.read (group * 128) ((n - first) * 16)] else []

/-- The transactions of a walk for the group it reads, whose bytes are given (08 R140). -/
def State.walkReads (s : State) (w : Walk) (group : GroupBytes) : List StoreTransaction :=
  burstReads (s.walkGroup w) (startEntry w.code) (entriesRead group w.code)

/-- The transactions of a host access in its stage (08 R144, R145); the status read is made again every 100 µs until the
memory is not busy. -/
def HostAccess.transactions (a : HostAccess) : List StoreTransaction :=
  match a.stage, a.request with
  | .waiting, _ => []
  | .running, .read address length => [.read address length]
  | .running, .write address data => [.writeEnable, .write address data]
  | .polling, .write _ _ => [.statusRead]
  | .polling, .read _ _ => []

/-- The transactions that the port carries out for its present holder (08 R143): the running walk, with the bytes of the
group it reads, or the running host access. -/
def State.portTransactions (s : State) (group : GroupBytes) : List StoreTransaction :=
  match s.article.walk, s.article.access with
  | some w, access =>
    if w.phase = .waitingPort then access.toList.flatMap HostAccess.transactions else s.walkReads w group
  | none, access => access.toList.flatMap HostAccess.transactions

/-- The bytes that the port sends, transaction by transaction, at the configured StoreLatency (08 R142). -/
def State.portBytes (s : State) (group : GroupBytes) : List (List (Option Byte)) :=
  (s.portTransactions group).map (StoreTransaction.bytesSent s.host.cfg.storeLatency)

end Machine
end Sys2Proof
end

