-- ==== Sys2Proof/Machine/WireSampling.lean ====
section
/-! DEFINITION. The receiver of the Station Line before the bits (02 R23): the deglitch filter, the sampling once in each
bit time, and the runs of R24 and R26. The wire is given as levels, `true` at rest, on a grid of `rate` samples for each
bit time; the grid and the place of the sampling instant within the bit time are parameters (log 51). -/
namespace Sys2Proof
namespace Machine

/-- The levels after the deglitch filter (02 R23): `level` has been taken, and the other one has held for `run` samples; a
change is taken once the new level has held for `hold` samples. -/
def deglitchFrom (hold : Nat) (level : Bool) (run : Nat) : List Bool → List Bool
  | [] => []
  | b :: rest =>
    if b = level then level :: deglitchFrom hold level 0 rest
    else if run + 1 < hold then level :: deglitchFrom hold level (run + 1) rest
    else b :: deglitchFrom hold b 0 rest

/-- The levels that the receiver takes from a wire at rest before (02 R23): an enabled filter holds a change for an eighth
of a bit time. -/
def wireLevels (c : Configuration) (rate : Nat) (wire : List Bool) : List Bool :=
  if c.deglitch = 1 then deglitchFrom (rate / 8) true 0 wire else wire

/-- The bits sampled once in each bit time (02 R23): `count` samples of the present bit time have passed, and it begins
anew at each change from rest to drive. -/
def sampleFrom (rate instant : Nat) (last : Bool) (count : Nat) : List Bool → List Bool
  | [] => []
  | b :: rest =>
    let place := if last && !b then 0 else count
    let next := sampleFrom rate instant b (if place + 1 = rate then 0 else place + 1) rest
    if place = instant then b :: next else next

/-- The bits that the receiver reads, from the start bit of a frame on (02 R23). -/
def wireBits (c : Configuration) (rate instant : Nat) (wire : List Bool) : List Bool :=
  sampleFrom rate instant true 0 ((wireLevels c rate wire).dropWhile id)

/-- The runs of rest and drive that the Line Controller measures, with their lengths in bit times (02 R23, R24, R26). -/
def wireRuns (c : Configuration) (rate : Nat) (wire : List Bool) : List (WireLevel × Nat) :=
  ((wireLevels c rate wire).splitBy (· == ·)).map fun run =>
    (if run.headD true then .rest else .drive, run.length / rate)

/-- A wire that carries whole bits (02 R22). -/
def waveOf (rate : Nat) (bits : List Bool) : List Bool := bits.flatMap (List.replicate rate)

end Machine
end Sys2Proof
end

