-- ==== Sys2Proof/Safety.lean ====
section
/-! DEFINITION. The predicates that every step keeps: the belt, the transmit queue, the driver, the notices, the
session, the path, the end bin and the configuration stay as the manual says they can be; and the frames and premises that
the statements share. -/
namespace Sys2Proof
namespace Machine

/-- The Belt Tracker's items agree (01 R2 to R5): the current cleat is the pitch count once home has been seen, and
Unknown with count 0 before. -/
def Belt.Consistent (b : Belt) : Prop :=
  b.pitchCount ≤ 255
    ∧ (b.homeSeen = true → b.current = some (BitVec.ofNat 8 b.pitchCount))
    ∧ (b.homeSeen = false → b.current = none ∧ b.pitchCount = 0)

/-- The transmit queue is as 02 R42 to R44 keep it: at most 8 frames, in order of kind code, no two for one place, fewer
than four failed attempts each. -/
def QueueGood (q : List QueuedFrame) : Prop :=
  q.length ≤ Config.queuePlaces
    ∧ q.Pairwise (fun f g => f.frame.kind.code ≤ g.frame.kind.code)
    ∧ q.Pairwise (fun f g => f.frame.sameSlot g.frame = false)
    ∧ ∀ f ∈ q, f.attempts < Config.attemptLimit

/-- The driver's counters (02 R28, R29): a driver that is not FAULTED has overloaded fewer than three times since the
count last fell. -/
def DriverGood (l : Line) : Prop :=
  l.overloadTimer ≤ 16 ∧ l.overloadCount ≤ Config.overloadLimit ∧ l.aloneCount ≤ 8
    ∧ (l.driver ≠ .faulted → l.overloadCount < Config.overloadLimit)

/-- Occurrence counts stay at 255 once there, and a kind whose flag is clear has count 0 (11 R182, R183). -/
def NoticesGood (n : Vector NoticeRecord 22) : Prop :=
  ∀ k : Fin 22, n[k].count ≤ 255 ∧ (n[k].detail = none ↔ n[k].count = 0)

/-- The session record holds what its state gives it (10 R164, R170, R173). -/
def Session.Tidy (n : Session) : Prop :=
  (n.state = .idle → n.lines = [] ∧ n.total = 0 ∧ n.count = 0 ∧ n.reason = none ∧ n.number = none)
    ∧ (n.state = .closing → n.reason.isSome = true)
    ∧ (n.state = .closed → n.reason.isSome = true ∧ n.number.isSome = true ∧ 1 ≤ n.count)
    ∧ n.history.length ≤ Config.historyPlaces

/-- The places of the path (06 R101, R109, 03 R47): four records in the hold queue, of which one place is free while a
record is carried to it, and two given-up cleats. -/
def Path.WithinPlaces (p : Path) : Prop :=
  p.hold.length ≤ Config.holdPlaces
    ∧ p.givenUp.length ≤ Config.givenUpPlaces
    ∧ (∀ c, p.entry = some c → c.stage = .waitingHold → p.entryTimer.isSome = true →
        p.hold.length < Config.holdPlaces)

/-- The record of bin 0 is the end bin's (04 R71). -/
def State.EndBinFixed (s : State) : Prop := s.bins[0] = BinRecord.initial

/-- Everything that every step keeps. -/
structure State.Good (s : State) : Prop where
  belt : s.belt.Consistent
  queue : QueueGood s.line.queue
  driver : DriverGood s.line
  notices : NoticesGood s.notices
  session : s.session.Tidy
  path : s.path.WithinPlaces
  endBin : s.EndBinFixed
  bounds : s.host.cfg.MeetsBounds

-- Frames and premises of the statements

/-- Every notice kind outside the list is as it was. -/
def State.sameNoticesBut (kinds : List NoticeKind) (s t : State) : Prop :=
  ∀ k, k ∉ kinds → t.notices[k.index] = s.notices[k.index]

/-- The detail record of a notice kind (11 R182). -/
def State.noticeOf (s : State) (k : NoticeKind) : Option NoticeDetail := s.notices[k.index].detail

/-- A transaction that changes the two answer registers only (11 R176): the former answer has been shifted out, and `a` is
placed. -/
def State.answered (s : State) (a : Answer) : State :=
  { s with host := { s.host with shifted := s.host.answer, answer := a } }

/-- The Host Port takes requests (08 R146), and none ends a Doze. -/
def State.awake (s : State) : Prop := s.storeBusy = false ∧ s.host.rest ≠ .doze

/-- The queue holds a frame of the kind about the subject. -/
def State.queues (s : State) (k : FrameKind) (x : Subject) : Prop :=
  ∃ g ∈ s.line.queue, g.frame.kind = k ∧ g.frame.subject = x

/-- Nothing is being sent. -/
def allWaiting (q : List QueuedFrame) : Prop := ∀ g ∈ q, g.phase = .waiting

/-- An ordinary pitch mark causes no slip (01 R3). -/
def Belt.steady (b : Belt) : Prop := b.homeSeen = true → b.pitchCount < 255

/-- The command of a pitch mark or of a home mark (01 R1). -/
def mark (home item : Bool) : Instr := if home then .homeMark item else .pitchMark item

/-- A pitch mark, or a home mark, that causes no slip (01 R3, R4). -/
def Belt.noSlip (b : Belt) (home : Bool) : Prop :=
  if home then ¬(b.homeSeen = true ∧ b.pitchCount < 255) else b.steady

/-- A pitch mark, or a home mark, that causes no slip and brings cleat `c` to the load point (01 R3, R4). -/
def Belt.brings (b : Belt) (home : Bool) (c : Cleat) : Prop :=
  b.noSlip home ∧ if home then c = 0 else b.homeSeen = true ∧ ∃ p, b.current = some p ∧ c = p + 1

/-- No transfer ends at the next pitch mark (01 R14): the slot is empty, holds a STUCK record, or its landing count is 2 or
more. -/
def State.noLanding (s : State) : Prop :=
  ∀ r, s.path.transfer = some r → r.stage = .transferring → 2 ≤ r.landing

/-- A timer has reached its time in milliseconds. -/
def reached (t : Timer) (limit : Nat) : Prop := ∃ n, t = some n ∧ limit ≤ n

/-- The expiry of a running timer is due (log 1): each timer of the part with its time. -/
def State.due (s : State) : Instr → Prop
  | .scanGapExpired => reached s.scan.gap 20
  | .entryTimeExpired => reached s.path.entryTimer 3000
  | .readTimeExpired => reached s.path.readTimer 1000
  | .queryTimeExpired => reached s.article.queryTimer (s.host.cfg.queryTime * 100)
  | .storeBusyTimeExpired => reached s.article.busyTimer 50
  | .flapTimeExpired => reached s.drives.flapTimer s.host.cfg.flapTime
  | .graceTimeExpired c => reached (s.channel c).grace (s.driveSetting c).graceMs
  | .coolOffExpired c => reached (s.channel c).coolOff (s.driveSetting c).coolOffMs
  | .cleanRunExpired c => reached (s.channel c).cleanRun 2000
  | .idleTimerExpired => reached s.session.idleTimer (s.host.cfg.idleTime * 1000)
  | .dozeTimerExpired => reached s.host.dozeTimer (s.host.cfg.dozeDelay * 1000)
  | .driverCoolOffEnd => reached s.line.driverCoolOff s.host.cfg.driverCoolOffMs
  | .wakePulseDone => s.line.wake = .driving
  | _ => False

/-- A Taken frame of another station: received here, its sender a station number other than this station's. -/
def State.hears (s : State) (sender : Nibble) : Prop :=
  s.receiving = true ∧ senderInRange sender = true ∧ sender.toNat ≠ s.station

/-- The overload timer after the bits of a command have been measured (02 R28): only a driver that drives measures. -/
def State.timerMeasured (s : State) (current : LineCurrent) : Nat :=
  if s.driverDrives then timerAfter s.line.overloadTimer current else s.line.overloadTimer

/-- The Line Controller after a Taken frame of another station (02 R28, R29, R39, R41). -/
def State.lineAfter (s : State) (rx : Reception) : Line :=
  { s.line with
    aloneCount := 0
    overloadTimer := s.timerMeasured rx.current
    overloadCount := if s.driverDrives = true ∧ rx.current ≠ [] ∧ true ∉ rx.current then 0 else s.line.overloadCount
    slot := if s.driverDrives then .echo else .none }

/-- A Taken frame of a kind about a subject, received here with its sender in range: another station's, or this station's
own, which it was sending (02 R40, 05 R96); and the Line Controller after it (02 R28, R29, R39 to R41). -/
def State.takesFrom (s : State) (rx : Reception) (sender : Nibble) (k : FrameKind) (x : Subject) (l : Line) : Prop :=
  s.receiving = true ∧ senderInRange sender = true
    ∧ ((sender.toNat ≠ s.station ∧ l = s.lineAfter rx)
      ∨ (sender.toNat = s.station ∧ ∃ pre g post, s.line.queue = pre ++ g :: post ∧ allWaiting pre ∧ allWaiting post
          ∧ g.phase ≠ .waiting ∧ g.frame.kind = k ∧ g.frame.subject = x
          ∧ l = { s.lineAfter rx with
              queue := pre ++ post, slot := .none
              aloneCount := if rx.echo then 0 else min 8 (s.line.aloneCount + 1) }))

/-- The queue after a failed attempt of the frame `g` being sent between `pre` and `post` (02 R42, 01 R7): dropped at the
fourth, or where it is not attempted again; otherwise one more attempt in its place. -/
def queueAfterFailure (pre : List QueuedFrame) (g : QueuedFrame) (post : List QueuedFrame) : List QueuedFrame :=
  if g.noRetry = true ∨ 3 ≤ g.attempts then pre ++ post
  else pre ++ { g with attempts := g.attempts + 1, phase := .waiting, check := none } :: post

/-- The frame `g` is dropped with LINE FAULT at its failed attempt (02 R42). -/
def QueuedFrame.drops (g : QueuedFrame) : Prop := g.noRetry = false ∧ 3 ≤ g.attempts

/-- What a failed attempt of the frame `g` does beside the Line Controller (02 R42, 05 R88): the block that queued a dropped
CLAIM or JOIN is told, and nothing else changes but LINE FAULT. -/
def State.failedFor (s t : State) (g : QueuedFrame) : Prop :=
  (∀ d, g.drops → g.frame = .join d → s.member = .listening .joinPending → t.member = .listening .waitingHome)
    ∧ (¬(g.drops ∧ g.frame.kind = .join) → t.member = s.member)
    ∧ (∀ x b u h rest, g.drops → g.frame = .claim x b u → s.path.hold = h :: rest → h.link = .queued →
        h.cleat = some x →
        t.path = { s.path with hold := { h with stage := .claiming, link := .none, cleat := none } :: rest })
    ∧ (¬(g.drops ∧ g.frame.kind = .claim) → t.path = s.path)
    ∧ t = { s with line := t.line, notices := t.notices, member := t.member, path := t.path }
    ∧ s.sameNoticesBut [.lineFault] t

/-- BIN CHANGE between a state and the state after an event (04 R83): raised once for each bin of which one of the four items
differs, the detail of the last such bin, and every reported full mark at the bin's fullness. A hold cause that comes or goes
with the state counts as changed too (log 61). -/
def State.reportsBins (s t : State) : Prop :=
  let differs : BinNo → BinChanges := fun b =>
    { state := s.bins[b].state.cause.isSome != t.bins[b].state.cause.isSome
      cause := s.bins[b].state.cause != t.bins[b].state.cause
      known := s.bins[b].used.isSome != t.bins[b].used.isSome
      fullness := t.full b != s.bins[b].reportedFull }
  let changed : List BinNo := gatedBins.filter fun b =>
    (differs b).state || (differs b).cause || (differs b).known || (differs b).fullness
  (∀ b : BinNo, b ≠ 0 → t.bins[b].reportedFull = t.full b)
    ∧ (changed = [] → t.notices[NoticeKind.binChange.index] = s.notices[NoticeKind.binChange.index])
    ∧ (∀ b, changed.getLast? = some b → t.notices[NoticeKind.binChange.index] =
        { detail := some (.binChange b t.bins[b].state t.bins[b].used (t.claimedCount b) (t.capacity b) (t.full b)
            (differs b))
          count := min 255 (s.notices[NoticeKind.binChange.index].count + changed.length) })

/-- COUNT MISMATCH at the adoption of a carried count (04 R75): raised once where a Known count gives another expected value
than the carried one, and left as it was where they agree, or the count is Unknown, or nothing is adopted. -/
def State.comparesCount (s t : State) (k : FrameKind) (sender : Nat) (b : BinNo) (expected : Nat → Nat) (u : Word16) :
    Prop :=
  (∀ n, b ≠ 0 → s.bins[b].used = some n → u ≠ 0xFFFF#16 → u.toNat ≠ expected n →
    t.notices[NoticeKind.countMismatch.index] =
      { detail := some (.countMismatch b n (expected n) u.toNat k sender)
        count := min 255 (s.notices[NoticeKind.countMismatch.index].count + 1) })
  ∧ (b = 0 ∨ u = 0xFFFF#16 ∨ s.bins[b].used = none ∨ s.bins[b].used.map expected = some u.toNat →
    t.notices[NoticeKind.countMismatch.index] = s.notices[NoticeKind.countMismatch.index])

/-- COUNT MISMATCH at the adoption of the eight counts of a COUNTS (04 R75): raised once for each bin whose Known count is not
the carried one, in bin order, with the last such bin in its detail. -/
def State.comparesCounts (s t : State) (sender : Nat) (used : Vector Word16 8) : Prop :=
  let differing := (List.finRange 8).filter fun i =>
    used[i] != 0xFFFF#16 && s.bins[i.succ].used.any fun n => n != used[i].toNat
  (differing = [] → t.notices[NoticeKind.countMismatch.index] = s.notices[NoticeKind.countMismatch.index])
  ∧ (∀ i n, differing.getLast? = some i → s.bins[i.succ].used = some n → t.notices[NoticeKind.countMismatch.index] =
      { detail := some (.countMismatch i.succ n n used[i].toNat .counts sender)
        count := min 255 (s.notices[NoticeKind.countMismatch.index].count + differing.length) })

/-- The gates that a cut has stopped within an interval have been missed (01 R20): the interval is marked, and a SYNCED station
has MISROUTE queued for the cleat of the one gate that was driven, but not before the pitch mark that follows the one at which
it became SYNCED (05 R89). -/
def State.gatesMissed (s t : State) : Prop :=
  (∀ (g : Gate) i, s.gates[g] = some i → (s.channel (.gate g)).state.driven = true →
    t.gates[g] = some { i with missed := true })
  ∧ (∀ g : Gate, s.gates[g] = none ∨ (s.channel (.gate g)).state.driven = false → t.gates[g] = s.gates[g])
  ∧ (s.member ≠ .synced ∨ s.dutyReports = false → t.line = s.line)
  ∧ (∀ (g : Gate) i, s.gates[g] = some i → (s.channel (.gate g)).state.driven = true → i.missed = false →
    (∀ k, k ≠ g → (s.channel (.gate k)).state.driven = false) → s.member = .synced → s.dutyReports = true →
    s.line.queue.length < Config.queuePlacesOther → t.queues .misroute (.cleat i.cleat))

/-- A cleat is given up (03 R47): with fewer than two cleats in the list it is in it as long as it is own CLAIMED, and a full
list whose cleats stay own CLAIMED is left as it is. -/
def State.givesUp (s t : State) (x : Cleat) : Prop :=
  (s.path.givenUp.length < 2 → t.ownClaim x = true → x ∈ t.path.givenUp)
    ∧ (2 ≤ s.path.givenUp.length → (∀ y ∈ s.path.givenUp, t.ownClaim y = true) → t.path.givenUp = s.path.givenUp)

/-- Bins 1 to 8 that are HELD, in bin order. -/
def State.heldBins (s : State) : List BinNo := gatedBins.filter fun b => s.bins[b].state != .opened

/-- The lookup of a code for the container of a tag, where none is in hand (08 R137, R139): a hit is an access of its way and
is decided on at once; a miss asks for a walk, which waits for a host access that is running. -/
def State.looksUp (s : State) (code : Code) (tag : Tag) (t : State) : Prop :=
  let set : CacheSet := s.article.cache[cacheSetOf code]
  (∀ (w : Fin 4) a, set.ways[w] = some a → a.code = code →
    (∀ (v : Fin 4) b, v < w → set.ways[v] = some b → b.code ≠ code) →
    t = ({ s with article := { s.article with
      cache := s.article.cache.set (cacheSetOf code).val (set.access w) (cacheSetOf code).isLt
      waiting := none } } : State).fullDecision (some a))
  ∧ ((∀ (w : Fin 4) a, set.ways[w] = some a → a.code ≠ code) → ∃ v : Walk,
    t = { s with article := { s.article with lookup := .walking v, waiting := none } }
    ∧ v.code = code ∧ v.tag = tag ∧ v.revoked = false ∧ v.withdrawn = false
    ∧ v.phase = if s.article.accessRunning = true then .waitingPort else .primary)

/-- What follows the end of a withdrawn walk (08 R150): a lookup that waited for it is made, and nothing else is done. -/
def State.resumesTo (s t : State) : Prop :=
  (s.article.waiting = none → t = s)
    ∧ ∀ code tag, s.article.waiting = some (code, tag) → s.looksUp code tag t

/-- What every pitch slip does beside the membership state (01 R6, R7, 05 R93, R99). -/
def State.slippedTo (s t : State) : Prop :=
  (∀ x, t.entryAt x = .free)
    ∧ (∀ b : BinNo, t.bins[b].used = s.bins[b].used ∧ t.bins[b].state = s.bins[b].state)
    ∧ (∀ g ∈ t.line.queue, g.phase = .waiting → g.frame.kind.namesCleat = false)
    ∧ (∀ r, t.path.transfer = some r → r.trust = false)
    ∧ (s.member = .synced → t.noticeOf .joinState = some (.joinState .listening .synced .pitchSlip)
        ∧ ∀ g ∈ t.line.queue, g.phase = .waiting → g.frame.kind ≠ .counts)
    ∧ (s.member ≠ .synced → t.notices[NoticeKind.joinState.index] = s.notices[NoticeKind.joinState.index])
    ∧ t.path.givenUp = [] ∧ t.path.claims = [] ∧ t.dutyReports = false
    ∧ (∀ h, t.path.hold.head? = some h → h.stage ≠ .ready ∧ h.link ≠ .queued)

-- The configuration

/-- A carried value within its fixed range, or else the default (11 R180, first pass). -/
def within (low high dflt v : Nat) : Nat := if low ≤ v ∧ v ≤ high then v else dflt

/-- The fields of the record `t` that the first pass of 11 R180 settles alone, with the ranges and defaults of 11 R179, 09 R152
and 11 R182. -/
def firstPassSettles (c t : Configuration) : Prop :=
  t.stationNumber = within 1 12 1 c.stationNumber ∧ t.lineRate = within 0 3 1 c.lineRate
    ∧ t.deglitch = within 0 1 0 c.deglitch ∧ t.clearDistance = within 8 200 96 c.clearDistance
    ∧ t.holdWait = within 64 1024 256 c.holdWait ∧ t.sortDuty = within 0 1 0 c.sortDuty
    ∧ (∀ b : Fin 8, t.capacity[b] = within 1 65000 1000 c.capacity[b])
    ∧ (∀ i : Fin 11,
        t.drive[i].currentLimit =
          within 0 3 (if i.val < 2 then 2 else if i.val = 2 then 3 else 1) c.drive[i].currentLimit
        ∧ t.drive[i].graceTime = within 0 3 (if i.val = 2 then 1 else 2) c.drive[i].graceTime
        ∧ t.drive[i].faultResponse = within 0 1 1 c.drive[i].faultResponse
        ∧ t.drive[i].coolOff = within 0 3 1 c.drive[i].coolOff)
    ∧ t.flapTime = within 40 200 80 c.flapTime ∧ t.shadowThreshold = within 1 1023 300 c.shadowThreshold
    ∧ t.metalThreshold = within 1 1023 512 c.metalThreshold ∧ t.readerRate = within 0 1 0 c.readerRate
    ∧ t.tableGroups = within 0 3 1 c.tableGroups ∧ t.storeLatency = within 1 4 1 c.storeLatency
    ∧ t.hostQueries = within 0 1 0 c.hostQueries ∧ t.idleTime = within 10 600 60 c.idleTime
    ∧ t.queryTime = within 5 100 20 c.queryTime ∧ t.dozeDelay = within 10 600 120 c.dozeDelay
    ∧ t.keepCache = within 0 1 0 c.keepCache ∧ t.wakePeers = within 0 1 0 c.wakePeers
    ∧ (∀ k : Fin 22, t.notice[k].enable = within 0 1 1 c.notice[k].enable
        ∧ t.notice[k].priority = within 0 7
            (if k.val < 4 then 7 else if k.val < 8 then 6 else if k.val < 9 then 5 else if k.val < 11 then 4
              else if k.val < 13 then 3 else if k.val < 19 then 2 else 1) c.notice[k].priority)

-- What a command may write, by the block that holds it

/-- Changes of the levels of the eyes (01 R1, R14, 06 R103, R111, 07 R124). -/
def readsEyes : Instr → Bool
  | .pitchMark _ | .homeMark _ | .apertureBlocked | .apertureClear | .scanEyeBlocked | .scanEyeCleared
  | .transferEyeBlocked | .transferEyeClear => true
  | _ => false

/-- Changes of the configuration record, its mark and the digest (11 R179). -/
def configures : Instr → Bool
  | .powerOnReset _ | .setConfiguration _ => true
  | _ => false

/-- Changes of the started mark (11 R179, R181). -/
def starts : Instr → Bool
  | .powerOnReset _ | .start => true
  | _ => false

/-- The resets of 11 R179, R187 and R189, a RESTART that waited for a STORE WRITE among them (08 R146). -/
def resets : Instr → Bool
  | .powerOnReset _ | .deepRest | .restart | .statusRead _ | .storeBusyTimeExpired => true
  | _ => false

/-- Changes of the Belt Tracker (01 R2 to R4) and of the mark that sort-duty frames are queued (05 R89). -/
def writesBelt : Instr → Bool
  | .pitchMark _ | .homeMark _ => true
  | i => resets i

/-- Changes of the Cleat Map (01 R6, R10, R11, 03 R52, R58, R60, R63). -/
def writesMap : Instr → Bool
  | .claimTaken _ _ _ _ _ | .releaseTaken _ _ _ | .loadTaken _ _ _ _ _ _ | .strayTaken _ _ _ => true
  | i => writesBelt i

/-- Changes of a bin's used count or state (04 R71, R75, R77 to R80). -/
def writesBins : Instr → Bool
  | .claimTaken _ _ _ _ _ | .loadTaken _ _ _ _ _ _ | .misrouteTaken _ _ _ _ _ | .binSetTaken _ _ _ _
  | .binHoldTaken _ _ _ _ | .binOpenTaken _ _ _ | .countsTaken _ _ _ _ => true
  | i => resets i

/-- Changes of the heat stage (09 R161). -/
def measuresHeat : Instr → Bool
  | .powerOnReset _ | .heatStageChange _ => true
  | _ => false

/-- Changes of the voucher history (10 R173). -/
def writesHistory : Instr → Bool
  | .powerOnReset _ | .takeVoucher => true
  | _ => false

/-- Changes of the Article Cache, the hits that point tree bits among them (08 R137, R139, R148, R149). -/
def writesCache : Instr → Bool
  | .articleAnswer _ _ _ _ | .revokeArticle _ | .walkGroupRead _ | .containerScanComplete _
  | .codeReaderCharacter _ _ _ | .readTimeExpired => true
  | i => resets i

-- Host transactions

/-- A transaction of the Host Port other than RESTART (11 R176, 08 R146). -/
def isTransaction : Instr → Bool
  | .setConfiguration _ | .start | .readStatus | .readNotices | .readMap _ _ | .readBins | .readPath | .readSession
  | .closeSession | .takeVoucher | .readHistory | .articleAnswer _ _ _ _ | .revokeArticle _ | .storeRead _ _
  | .storeWrite _ _ | .binSet _ _ | .binHold _ | .binOpen _ | .grantDoze | .deepRest | .wake | .clearDrive _
  | .clearJam | .badRequest _ | .emptyTransaction => true
  | _ => false

/-- A request that is refused STATE before START (11 R177). -/
def needsStart : Instr → Bool
  | .closeSession | .takeVoucher | .articleAnswer _ _ _ _ | .revokeArticle _ | .binSet _ _ | .binHold _ | .binOpen _
  | .grantDoze | .deepRest | .wake | .restart | .clearJam => true
  | _ => false

/-- A request that returns a dozing station to Active before it is taken (11 R177). -/
def endsDoze : Instr → Bool
  | .setConfiguration _ | .start | .readMap _ _ | .readBins | .readPath | .readSession | .closeSession | .takeVoucher
  | .readHistory | .articleAnswer _ _ _ _ | .revokeArticle _ | .storeRead _ _ | .storeWrite _ _ | .binSet _ _
  | .binHold _ | .binOpen _ | .grantDoze | .deepRest | .restart | .clearDrive _ | .clearJam => true
  | _ => false

-- The path

/-- The records of the hold queue and the transfer slot that are not STUCK: the pending containers of 06 R108. -/
def State.accepted (s : State) : List Container :=
  (s.path.hold ++ s.path.transfer.toList).filter fun c => c.stage != .stuck

/-- The conditions for a new record (06 R103), but for the eye and the rest level, with ENTRY ready to run and the scan eye
clear. -/
def State.readyToTake (s : State) : Prop :=
  s.member = .synced ∧ s.path.entry = none ∧ (∀ c, s.path.transfer = some c → c.stage ≠ .stuck)
    ∧ (s.session.state = .opened ∨ (s.session.state = .idle ∧ s.session.sequence ≠ Config.lastSequence))
    ∧ (s.channel .entry).state = .off ∧ (s.channel .entry).standing = false ∧ s.scan.filtered = false

/-- ENTRY is neither in COOL-OFF nor FAULTED, so a move asked for is not jammed at once (06 R104). -/
def State.entryRuns (s : State) : Prop := (s.channel .entry).state ≠ .coolOff ∧ (s.channel .entry).state ≠ .faulted

/-- A character without a framing or a parity error (07 R130). -/
def goodCharacter (data : Byte) (parity stop : Bool) : Prop :=
  stop = true ∧ ((fieldBits data).countP (· == true) + parity.toNat) % 2 = 0

/-- At most one way of the set holds a code (08 R139). -/
def CacheSet.oneWayPerCode (c : CacheSet) : Prop :=
  ∀ (v w : Fin 4) (a b : Article), c.ways[v] = some a → c.ways[w] = some b → a.code = b.code → v = w

/-- What RESTART does to everything but the answer registers (11 R189, 10 R174). -/
def State.restartedTo (s t : State) : Prop :=
  t.host.cfg = s.host.cfg ∧ t.host.configured = s.host.configured ∧ t.host.started = true ∧ t.host.rest = .active
    ∧ t.host.restartPending = false ∧ t.host.offered = false
    ∧ t.belt = { current := none, pitchCount := 0, homeSeen := false } ∧ (∀ x, t.entryAt x = .free)
    ∧ (∀ b : BinNo, t.bins[b] = { used := none, state := .opened, reportedFull := false })
    ∧ t.member = .listening .waitingHome ∧ t.dutyReports = false ∧ t.line.queue = [] ∧ t.line.driver = .ready
    ∧ t.line.wake = .none ∧ t.line.overloadCount = 0 ∧ t.line.aloneCount = 0
    ∧ t.path.entry = none ∧ t.path.hold = [] ∧ t.path.transfer = none ∧ t.path.givenUp = []
    ∧ t.scan.program = .watching ∧ t.scan.record = none ∧ t.reader.run = .settling
    ∧ t.article.lookup = .idle ∧ t.article.access = none
    ∧ (∀ k : Fin 64, t.article.cache[k] = CacheSet.initial)
    ∧ (∀ c, t.channel c = { ChannelRecord.initial with state := if s.cutCondition then .cut else .off })
    ∧ t.heat = s.heat ∧ t.session.history = s.session.history
    ∧ (s.session.state = .idle ∨ s.session.state = .closed → t.session.state = s.session.state
        ∧ t.session.number = s.session.number ∧ t.session.total = s.session.total)
    ∧ (s.session.state = .opened ∨ s.session.state = .closing → 1 ≤ s.session.count →
        t.session.state = .closed ∧ t.session.reason = some .restart ∧ t.session.count = s.session.count
        ∧ t.session.number = some (s.host.cfg.stationNumber * 1048576 + s.session.sequence)
        ∧ t.session.sequence = s.session.sequence + 1
        ∧ t.notices[NoticeKind.sessionClosed.index] =
            { detail := some (.sessionClosed (s.host.cfg.stationNumber * 1048576 + s.session.sequence) .restart
                s.session.total s.session.count s.session.lines.length)
              count := 1 }
        ∧ (s.session.sequence + 1 = Config.lastSequence → t.notices[NoticeKind.vouchersExhausted.index] =
            { detail := some (.vouchersExhausted (s.host.cfg.stationNumber * 1048576 + s.session.sequence))
              count := 1 }))
    ∧ (s.session.state = .opened ∨ s.session.state = .closing → s.session.count = 0 →
        t.session.state = .idle ∧ t.session.sequence = s.session.sequence)
    ∧ t.notices[NoticeKind.joinState.index] =
        { detail := some (.joinState .listening .offline .restart), count := 1 }
    ∧ (∀ k : NoticeKind, k ≠ .joinState →
        ¬((s.session.state = .opened ∨ s.session.state = .closing) ∧ 1 ≤ s.session.count
          ∧ (k = .sessionClosed ∨ (k = .vouchersExhausted ∧ s.session.sequence + 1 = Config.lastSequence))) →
        t.notices[k.index] = { detail := none, count := 0 })

end Machine
end Sys2Proof
end

