-- ==== Sys2Proof/Certificates/Slice0/Obligations.lean ====
section
/-! DEFINITION. The statements about the machine, one definition each; OBLIGATIONS.json lists them. -/
open Sys2Proof Sys2Proof.Machine

-- Steps

/-- A step runs the command at the front of the queue with the queue's rest. On an empty queue a step puts the expiry of a due
timer into the queue, or, where none is due, lets each running timer of the part advance by one millisecond, and changes
nothing else. The queue is the model's form of the block, and the step on an empty queue is the model's choice (log 1,
log 35, log 38). -/
def Obligations.StepRunsFrontCommand : Prop :=
  (∀ (c : Instr) (s : State) (rest : List Instr),
    step { s with pending := c :: rest } = exec c { s with pending := rest })
  ∧ (∀ s : State, s.pending = [] →
    ((∃ i, s.due i) → ∃ i, s.due i ∧ step s = .next { s with pending := [i] })
    ∧ ((∀ i, ¬s.due i) → ∃ d : Drives,
      step s = .next { s with
        scan := { s.scan with gap := s.scan.gap.map (· + 1) }
        path := { s.path with
          entryTimer := s.path.entryTimer.map (· + 1), readTimer := s.path.readTimer.map (· + 1) }
        article := { s.article with
          queryTimer := s.article.queryTimer.map (· + 1), busyTimer := s.article.busyTimer.map (· + 1) }
        drives := d
        session := { s.session with idleTimer := s.session.idleTimer.map (· + 1) }
        host := { s.host with dozeTimer := s.host.dozeTimer.map (· + 1) }
        line := { s.line with driverCoolOff := s.line.driverCoolOff.map (· + 1) } }
      ∧ d.flapTimer = s.drives.flapTimer.map (· + 1)
      ∧ ∀ c, d.get c = { s.channel c with
          grace := (s.channel c).grace.map (· + 1), coolOff := (s.channel c).coolOff.map (· + 1)
          cleanRun := (s.channel c).cleanRun.map (· + 1) }))

/-- Every command answers a next state and leaves alone what no rule has it write: the waiting commands, and, but for the
commands named in Safety.lean, the eyes, the configuration, the belt and the mark that sort-duty frames are queued (05 R89),
the map, the bins, the heat stage, the voucher history and the cache. -/
def Obligations.EveryCommandCompletesInItsFrame : Prop :=
  ∀ (i : Instr) (s : State), ∃ t, exec i s = .next t ∧ t.pending = s.pending
    ∧ (readsEyes i = false → t.eyes = s.eyes)
    ∧ (configures i = false → t.host.cfg = s.host.cfg ∧ t.host.configured = s.host.configured
        ∧ t.ownDigest = s.ownDigest)
    ∧ (starts i = false → t.host.started = s.host.started)
    ∧ (writesBelt i = false → t.belt = s.belt ∧ t.dutyReports = s.dutyReports)
    ∧ (writesMap i = false → t.map = s.map)
    ∧ (writesBins i = false → ∀ b : BinNo, t.bins[b].used = s.bins[b].used ∧ t.bins[b].state = s.bins[b].state)
    ∧ (measuresHeat i = false → t.heat = s.heat)
    ∧ (writesHistory i = false → t.session.history = s.session.history)
    ∧ (writesCache i = false → t.article.cache = s.article.cache)

/-- The state after power-on reset is good. The levels of the eyes and the heat stage at reset are the model's choice
(log 4). -/
def Obligations.ResetIsGood : Prop := State.reset.Good

/-- Every step keeps the state good: the belt, the transmit queue, the driver, the notices, the session, the path, the end
bin and the bounds of the configuration. -/
def Obligations.StepKeepsGood : Prop := ∀ s t : State, s.Good → step s = .next t → t.Good

/-- Power-on reset sets every block, with the eyes and the waiting commands as they stand (01 R2, 04 R71, 08 R139, 09
R153, R161, 10 R164, 11 R179, R182). The former stage that THERMAL gives is free (log 7). That THERMAL shows the
channel states before the cut, that the channels are CUT at once where the cut condition holds, and the reset values that the
manual does not give, are the model's choice (log 5, log 8, log 25). -/
def Obligations.PowerOnReset : Prop :=
  ∀ (temperature : Int) (s : State), ∃ t, exec (.powerOnReset temperature) s = .next t
    ∧ t.host.configured = false ∧ t.host.started = false ∧ t.stationNumber = none ∧ t.host.rest = .active
    ∧ t.host.answer = .empty ∧ t.host.cfg = Configuration.default ∧ t.host.dozeTimer = none ∧ t.host.offered = false
    ∧ t.belt = { current := none, pitchCount := 0, homeSeen := false }
    ∧ (∀ x, t.entryAt x = .free)
    ∧ (∀ b : BinNo, t.capacity b = none ∧ t.bins[b] = { used := none, state := .opened, reportedFull := false })
    ∧ t.member = .offline ∧ t.ownDigest = none ∧ t.gates = Vector.replicate 8 none
    ∧ t.dutyReports = false ∧ t.line = Line.initial ∧ t.path = Path.emptied 0
    ∧ t.scan.program = .watching ∧ t.scan.supply = .normal ∧ t.scan.reference = .good ∧ t.scan.record = none
    ∧ t.scan.filtered = s.eyes.scan ∧ t.reader.run = .stopped ∧ t.article.lookup = .idle ∧ t.article.access = none
    ∧ (∀ n : Fin 64, t.article.cache[n] = CacheSet.initial)
    ∧ t.session = Session.initial
    ∧ t.heat = (if 160 < temperature then .hot else if 130 < temperature then .warm else .normal)
    ∧ (∀ c, t.channel c =
        { ChannelRecord.initial with state := if 160 < temperature then .cut else .off })
    ∧ (∀ k : NoticeKind, k ≠ .thermal → t.notices[k.index] = { detail := none, count := 0 })
    ∧ (130 < temperature → ∃ former, t.notices[NoticeKind.thermal.index] =
        { detail := some (.thermal (if 160 < temperature then .hot else .warm) former t.heat
              (Vector.replicate 11 .off)), count := 1 })
    ∧ (temperature ≤ 130 → t.notices[NoticeKind.thermal.index] = { detail := none, count := 0 })
    ∧ t.eyes = s.eyes ∧ t.pending = s.pending

/-- A notice raised (11 R182): its flag and detail are set and its count rises by one up to 255; nothing else changes. -/
def Obligations.NoticeRaised : Prop :=
  ∀ (s : State) (d : NoticeDetail),
    (s.raise d).notices[d.kind.index] =
        { detail := some d, count := min 255 (s.notices[d.kind.index].count + 1) }
    ∧ s.sameNoticesBut [d.kind] (s.raise d)
    ∧ s.raise d = { s with notices := (s.raise d).notices }

-- The belt

/-- An ordinary pitch mark changes the Belt Tracker by the table of 01 R3, and is handed on in every row: a transfer still
under way comes one pitch mark nearer to its landing. An OFFLINE station ignores both eyes (R2). -/
def Obligations.PitchMarkMovesBelt : Prop :=
  ∀ (landing : Bool) (s : State), (s.online = true → ∃ t, exec (.pitchMark landing) s = .next t
    ∧ (s.belt.homeSeen = false → t.belt = s.belt)
    ∧ (s.belt.homeSeen = true → s.belt.pitchCount < 255 →
        t.belt = { current := s.belt.current.map fun c => c + 1, pitchCount := s.belt.pitchCount + 1,
                   homeSeen := true })
    ∧ (s.belt.homeSeen = true → ¬s.belt.pitchCount < 255 →
        t.belt = { current := none, pitchCount := 0, homeSeen := false }
        ∧ t.noticeOf .pitchSlip = some (.pitchSlip .missingHome s.belt.pitchCount s.member.state))
    ∧ (s.belt.steady → t.notices[NoticeKind.pitchSlip.index] = s.notices[NoticeKind.pitchSlip.index])
    ∧ (∀ r, s.path.transfer = some r → r.stage = .transferring → 2 ≤ r.landing →
        ∃ r', t.path.transfer = some r' ∧ r'.tag = r.tag ∧ r'.stage = .transferring ∧ r'.landing = r.landing - 1)
    ∧ t.eyes = { s.eyes with landing := landing, home := false } ∧ t.pending = s.pending)
    ∧ (s.member = .offline →
      exec (.pitchMark landing) s = .next { s with eyes := { s.eyes with landing := landing, home := false } }
      ∧ exec (.homeMark landing) s = .next { s with eyes := { s.eyes with landing := landing, home := true } })

/-- A home mark changes the Belt Tracker by the table of 01 R4 and is handed on with current cleat 0: the cleat at the
clear point of cleat 0 is set FREE. -/
def Obligations.HomeMarkSetsBelt : Prop :=
  ∀ (landing : Bool) (s : State), s.online = true → ∃ t, exec (.homeMark landing) s = .next t
    ∧ t.belt = { current := some 0, pitchCount := 0, homeSeen := true }
    ∧ (s.belt.homeSeen = true → s.belt.pitchCount < 255 →
        t.noticeOf .pitchSlip = some (.pitchSlip .earlyHome s.belt.pitchCount s.member.state))
    ∧ (s.belt.homeSeen = false ∨ ¬s.belt.pitchCount < 255 →
        t.notices[NoticeKind.pitchSlip.index] = s.notices[NoticeKind.pitchSlip.index])
    ∧ t.entryAt (0 - BitVec.ofNat 8 s.host.cfg.clearDistance) = .free
    ∧ t.eyes = { s.eyes with landing := landing, home := true } ∧ t.pending = s.pending

/-- A pitch mark without a slip sets the entry of the cleat at the clear point FREE and no other (01 R11); with the current
cleat Unknown it clears none (R8). -/
def Obligations.PitchMarkClearsOneEntry : Prop :=
  ∀ (landing : Bool) (s : State), s.online = true → ∃ t, exec (.pitchMark landing) s = .next t
    ∧ (∀ c, s.belt.homeSeen = true → s.belt.pitchCount < 255 → s.belt.current = some c →
        ∀ x, t.entryAt x =
          if x = c + 1 - BitVec.ofNat 8 s.host.cfg.clearDistance then .free else s.entryAt x)
    ∧ (s.belt.homeSeen = false → s.belt.current = none → ∀ x, t.entryAt x = s.entryAt x)

/-- A pitch slip (01 R6, R7, 05 R99), by a missing and by an early home mark: the map is FREE, the bins stand, a SYNCED or
LISTENING station listens afresh (with its JOIN queued at once after an early home mark), no waiting frame names a cleat, and
the transfer is no longer trusted. A SYNCED station raises JOIN STATE with cause PITCH SLIP and withdraws its waiting COUNTS
(05 R93). -/
def Obligations.PitchSlip : Prop :=
  ∀ (landing : Bool) (s : State), s.online = true → s.belt.homeSeen = true →
    (¬s.belt.pitchCount < 255 → ∃ t, exec (.pitchMark landing) s = .next t ∧ s.slippedTo t
      ∧ t.member = (if s.member = .conflict then .conflict else .listening .waitingHome))
    ∧ (s.belt.pitchCount < 255 → ∃ t, exec (.homeMark landing) s = .next t ∧ s.slippedTo t
      ∧ t.member = (if s.member = .conflict then .conflict else .listening .joinPending)
      ∧ (s.member ≠ .conflict → s.line.queue.length < Config.queuePlaces → t.queues .join .none))

/-- The landing pitch mark or home mark with an item at the landing eye (01 R15, 06 R113, 10 R166, R170): the record leaves
the path, the session is credited on the tally line of its code, and CONTAINER DONE says LANDED, unannounced where no LOAD was
queued: a trusted record's LOAD is queued unless the queue is full (02 R44). That a LOAD replacing a waiting one counts as
queued is the model's reading (log 50); that the LOAD finds the last place of the queue before the head's RELEASE of the same
mark is its choice (log 43). -/
def Obligations.LandedIsCredited : Prop :=
  ∀ (s : State) (home : Bool) (r : Container) (x : Cleat) (a : Article), s.online = true → s.belt.noSlip home →
    s.path.transfer = some r → r.stage = .transferring → r.landing = 1 → r.cleat = some x → r.article = some a →
    ∃ t unannounced, exec (mark home true) s = .next t
      ∧ (∀ f, t.path.transfer = some f → ∃ h rest, s.path.hold = h :: rest ∧ h.stage = .ready
          ∧ f = { h with stage := .transferring, link := .none, holdWait := none,
                         landing := s.host.cfg.commitLead, trust := true })
      ∧ t.noticeOf .containerDone = some (.containerDone r.tag
          (.landed r.code (r.value.getD 0) (r.bin.getD 0) (some x) unannounced))
      ∧ (r.trust = false → unannounced = true)
      ∧ (r.trust = true → s.line.queue.length < Config.queuePlaces →
          (∀ g ∈ s.line.queue, g.frame.kind = .load → g.frame.subject = .cleat x → g.phase = .waiting) →
          unannounced = false ∧ t.queues .load (.cleat x))
      ∧ (r.trust = true → Config.queuePlaces ≤ s.line.queue.length → ¬s.queues .load (.cleat x) →
          unannounced = true ∧ ¬t.queues .load (.cleat x))
      ∧ (s.session.state = .opened ∨ s.session.state = .closing →
          (∀ pre l post, s.session.lines = pre ++ l :: post → l.code = r.code.getD 0 →
            (∀ k ∈ pre, k.code ≠ r.code.getD 0) →
            t.session.lines = pre ++ { l with count := l.count + 1 } :: post)
          ∧ ((∀ k ∈ s.session.lines, k.code ≠ r.code.getD 0) → t.session.lines =
              s.session.lines ++ [{ code := r.code.getD 0, value := r.value.getD 0, count := 1 }])
          ∧ t.session.total = s.session.total + r.value.getD 0 ∧ t.session.count = s.session.count + 1)
      ∧ (s.session.state = .opened → t.session.state = .opened ∧ t.session.pending = s.session.pending - 1
          ∧ t.session.idleTimer = some 0 ∧ t.session.sequence = s.session.sequence)
      ∧ (s.session.state = .closing → 2 ≤ s.session.pending ∨ s.session.undecided = true →
          t.session.state = .closing ∧ t.session.pending = s.session.pending - 1
          ∧ t.session.sequence = s.session.sequence)
      ∧ (s.session.state = .closing → s.session.pending = 1 → s.session.undecided = false →
          t.session.state = .closed
          ∧ t.session.number = some (s.host.cfg.stationNumber * 1048576 + s.session.sequence)
          ∧ t.session.sequence = s.session.sequence + 1)

/-- The landing pitch mark or home mark with an empty landing eye (01 R15, 06 R114, 10 R167): the record is STUCK in its
place, the pending container is lost without credit, which may end the close of a CLOSING session (R170), JAM is raised, and a
trusted record has its RELEASE queued and its cleat given up (03 R47). That it finds the last place of the queue and of the
given-up list before a head that misses at the same mark is the model's choice (log 43). -/
def Obligations.NotLandedIsStuck : Prop :=
  ∀ (s : State) (home : Bool) (r : Container) (x : Cleat), s.online = true → s.belt.noSlip home →
    s.path.transfer = some r → r.stage = .transferring → r.landing = 1 → r.cleat = some x →
    ∃ t, exec (mark home false) s = .next t
      ∧ t.path.transfer = some { r with stage := .stuck, landing := 0 }
      ∧ t.noticeOf .jam = some (.jam r.tag .transferSlot .notLanded .transferring none)
      ∧ (r.trust = true → s.line.queue.length < Config.queuePlaces → t.queues .release (.cleat x))
      ∧ (r.trust = true → s.givesUp t x)
      ∧ (s.session.state = .opened ∨ (s.session.state = .closing
            ∧ (2 ≤ s.session.pending ∨ s.session.undecided = true)) →
          t.session = { s.session with pending := s.session.pending - 1 }
          ∧ t.notices[NoticeKind.sessionClosed.index] = s.notices[NoticeKind.sessionClosed.index])
      ∧ (∀ reason, s.session.state = .closing → s.session.pending ≤ 1 → s.session.undecided = false →
          s.session.reason = some reason →
          let number := s.host.cfg.stationNumber * 1048576 + s.session.sequence
          (1 ≤ s.session.count → t.session = { s.session with
              state := .closed, pending := 0, number := some number, sequence := s.session.sequence + 1 }
            ∧ t.noticeOf .sessionClosed = some
                (.sessionClosed number reason s.session.total s.session.count s.session.lines.length)
            ∧ (s.session.sequence + 1 = Config.lastSequence →
                t.noticeOf .vouchersExhausted = some (.vouchersExhausted number)))
          ∧ (s.session.count = 0 → t.session = { s.session with
              state := .idle, lines := [], total := 0, count := 0, pending := 0, reason := none, number := none
              idleTimer := none }
            ∧ t.notices[NoticeKind.sessionClosed.index] = s.notices[NoticeKind.sessionClosed.index]))

/-- The entry check of a SYNCED station at a pitch mark or home mark that causes no slip and at which no transfer ends (01 R16,
R17, 03 R57), for the cleat that it brings to the load point; an unexpected own claim is given up (03 R47). That its STRAY or
RELEASE finds the last place of the queue, and its cleat the last place of the given-up list, before the gates and a head that
misses at the same mark is the model's choice (log 43). -/
def Obligations.EntryCheck : Prop :=
  ∀ (home item : Bool) (s : State) (c : Cleat), s.member = .synced → s.belt.brings home c →
    s.host.cfg.MeetsBounds → s.noLanding →
    ∃ t, exec (mark home item) s = .next t
      ∧ (s.entryAt c = .free → item = true →
          t.noticeOf .straySeen = some (.straySeen c)
          ∧ (s.line.queue.length < Config.queuePlacesOther → t.queues .stray (.cleat c)))
      ∧ (∀ owner b m, s.entryAt c = .loaded owner b m → item = false →
          t.noticeOf .lostItem = some (.lostItem c owner b m))
      ∧ (∀ b, s.entryAt c = .claimed s.station b → s.path.givenUp.contains c = false →
          s.hasRole c .givenUp = false →
          t.noticeOf .mapConflict = some (.mapConflict (.unexpectedClaim c b)) ∧ s.givesUp t c
          ∧ (s.line.queue.length < Config.queuePlaces → t.queues .release (.cleat c)))
      ∧ (¬(s.entryAt c = .free ∧ item = true) →
          t.notices[NoticeKind.straySeen.index] = s.notices[NoticeKind.straySeen.index])
      ∧ (¬((∃ owner b m, s.entryAt c = .loaded owner b m) ∧ item = false) →
          t.notices[NoticeKind.lostItem.index] = s.notices[NoticeKind.lostItem.index])

/-- The gate check of the sort-duty station at a pitch mark or home mark (01 R19): the gate is asked for exactly while the
cleat at it is LOADED with its bin; without sort duty no gate is touched (R18). A request that finds the gate in COOL-OFF,
FAULTED or CUT is a miss (R20): a SYNCED station queues MISROUTE, and BIN HOLD for a FAULTED gate and a bin that is OPEN. When
a cleat counts as missed within its interval is the model's reading (log 14); that BIN HOLD finds its place before the head's
frame of the same mark is its choice (log 43). -/
def Obligations.GateCheck : Prop :=
  ∀ (home item : Bool) (s : State) (c : Cleat) (g : Gate), s.online = true → s.belt.brings home c →
    s.host.cfg.MeetsBounds →
    let at_ : Gate → Cleat := fun k => c - BitVec.ofNat 8 s.host.cfg.gateDistance[k]
    let asked : Gate → Bool := fun k => (s.entryAt (at_ k)).loadedFor k.succ
    ∃ t, exec (mark home item) s = .next t
      ∧ (s.host.cfg.sortDuty = 0 → t.channel (.gate g) = s.channel (.gate g) ∧ t.gates[g] = s.gates[g])
      ∧ (s.host.cfg.sortDuty = 1 → asked g = true →
          (t.channel (.gate g)).standing = true
          ∧ ((s.channel (.gate g)).state = .off → (s.channel (.gate g)).standing = false →
              (t.channel (.gate g)).state = .running)
          ∧ ∃ i, t.gates[g] = some i ∧ i.cleat = at_ g
              ∧ i.missed = !(t.channel (.gate g)).state.driven)
      ∧ (s.host.cfg.sortDuty = 1 → asked g = false →
          (t.channel (.gate g)).standing = false ∧ t.gates[g] = none)
      ∧ (s.host.cfg.sortDuty = 1 → asked g = true → s.member = .synced → (∀ k, k ≠ g → asked k = false) →
          (s.channel (.gate g)).state = .coolOff ∨ (s.channel (.gate g)).state = .faulted
            ∨ (s.channel (.gate g)).state = .cut →
          s.line.queue.length < 4 → t.queues .misroute (.cleat (at_ g))
          ∧ ((s.channel (.gate g)).state = .faulted → s.bins[g.succ].state = .opened →
              t.queues .binHold (.bin g.succ)))

/-- A READY head at the pitch mark or home mark that brings its cleat to lead CommitLead (03 R56, 06 R112): it fires where it
is at the transfer eye, FLAP is OFF and the transfer slot is empty, and misses where one of these fails. The missed cleat is
given up (03 R47), unless an unexpected own claim at the load point has just filled the list. -/
def Obligations.ReadyHeadFiresOrMisses : Prop :=
  ∀ (home item : Bool) (s : State) (c x : Cleat) (h : Container) (rest : List Container), s.online = true →
    s.belt.brings home c → s.host.cfg.MeetsBounds → s.noLanding → s.path.hold = h :: rest → h.stage = .ready →
    h.link = .held → h.cleat = some x → (x - c).toNat = s.host.cfg.commitLead →
    ∃ t, exec (mark home item) s = .next t
      ∧ (s.eyes.transfer = true → s.path.cleared = true → (s.channel .flap).state = .off →
          s.path.transfer = none →
          t.path.transfer = some { h with stage := .transferring, link := .none, holdWait := none,
                                          landing := s.host.cfg.commitLead, trust := true }
          ∧ t.path.hold = nextHead rest ∧ t.path.cleared = false ∧ (t.channel .flap).state = .running
          ∧ t.drives.flapTimer = some 0)
      ∧ (s.eyes.transfer = false ∨ s.path.cleared = false ∨ (s.channel .flap).state ≠ .off
            ∨ s.path.transfer.isSome = true →
          t.path.transfer = s.path.transfer.map (fun r =>
            if r.stage = .transferring then { r with landing := r.landing - 1 } else r)
          ∧ t.path.hold = { h with stage := .claiming, link := .none, cleat := none, holdWait := some 0 } :: rest
          ∧ t.path.cleared = s.path.cleared ∧ t.drives.flap = s.drives.flap
          ∧ (s.path.givenUp = [] ∨ s.ownClaim c = false → s.givesUp t x)
          ∧ (2 ≤ s.path.givenUp.length → s.givesUp t x)
          ∧ (s.line.queue.length < 7 → t.queues .release (.cleat x)))

/-- The chosen cleat (03 R49) is the first in increasing lead from MinLead to MaxLead that is FREE, that no queued CLAIM
names, and that follows every own claim in a role by CommitLead + 1; none is chosen only where none is so. And a CLAIMING head
of a SYNCED station at a pitch mark (03 R48 to R51, 02 R45): with its link NONE and its bin passing, the CLAIM is queued for
the first such cleat and the link is QUEUED; with its bin HELD, Unknown or full, or no line, its hold-wait count rises, and at
the overflow point it is switched to bin 0 with OVERFLOW ROUTE; its waiting CLAIM is withdrawn at lead CommitLead or less, or
above MaxLead. Which cause is named where several hold, and that a head whose CLAIM is withdrawn chooses at a later pitch mark,
are the model's reading (log 15, log 44). -/
def Obligations.ChosenCleatIsTheFirst : Prop :=
  (∀ (s : State) (c : Cleat), s.host.cfg.MeetsBounds →
    let fits : Cleat → Prop := fun x => s.entryAt x = .free
      ∧ (∀ g ∈ s.line.queue, ∀ b u, g.frame ≠ .claim x b u)
      ∧ ∀ y r, (y, r) ∈ s.path.claims → s.ownClaim y = true → s.host.cfg.commitLead + 1 ≤ (x - y).toNat
    (∀ x, s.chosenCleat c = some x →
      s.host.cfg.minLead ≤ (x - c).toNat ∧ (x - c).toNat ≤ s.host.cfg.maxLead ∧ fits x
      ∧ ∀ n, s.host.cfg.minLead ≤ n → n < (x - c).toNat → ¬fits (c + BitVec.ofNat 8 n))
    ∧ (s.chosenCleat c = none →
      ∀ n, s.host.cfg.minLead ≤ n → n ≤ s.host.cfg.maxLead → ¬fits (c + BitVec.ofNat 8 n)))
  ∧ (∀ (item : Bool) (s : State) (p : Cleat) (h : Container) (rest : List Container) (b : BinNo),
    s.member = .synced → s.belt.homeSeen = true → s.belt.pitchCount < 255 → s.belt.current = some p →
    s.host.cfg.MeetsBounds → s.host.cfg.sortDuty = 0 → s.path.transfer = none → s.path.hold = h :: rest →
    h.stage = .claiming → h.bin = some b →
    ∃ t, exec (.pitchMark item) s = .next t
      ∧ (let c := p + 1
        -- the cleats as the head finds them: `t` differs from that moment by the CLAIM alone
        let fits : Cleat → Prop := fun x => t.entryAt x = .free
          ∧ (∀ g ∈ t.line.queue, ∀ d u, g.frame ≠ .claim x d u)
          ∧ ∀ y r, (y, r) ∈ t.path.claims → t.ownClaim y = true → s.host.cfg.commitLead + 1 ≤ (x - y).toNat
        let claims : BinNo → Container → Prop := fun d h' =>
          (∃ x, t.path.hold = { h' with link := .queued, cleat := some x } :: rest
            ∧ (∃ g ∈ t.line.queue, ∃ u, g.frame = .claim x d u) ∧ t.entryAt x = .free
            ∧ s.host.cfg.minLead ≤ (x - c).toNat ∧ (x - c).toNat ≤ s.host.cfg.maxLead
            ∧ (∀ y r, (y, r) ∈ t.path.claims → t.ownClaim y = true → s.host.cfg.commitLead + 1 ≤ (x - y).toNat)
            ∧ ∀ n, s.host.cfg.minLead ≤ n → n < (x - c).toNat → ¬fits (c + BitVec.ofNat 8 n))
          ∨ (t.path.hold = h' :: rest
            ∧ ∀ n, s.host.cfg.minLead ≤ n → n ≤ s.host.cfg.maxLead → ¬fits (c + BitVec.ofNat 8 n))
        let room := t.roleClaims.length < 2 ∧ s.line.queue.length < 5
        let passes := b = 0 ∨ (s.bins[b].state = .opened
          ∧ ∃ u, s.bins[b].used = some u ∧ u + t.claimedCount b + 1 ≤ s.capacityOf b)
        let line := s.line.condition ≠ .stuck ∧ s.line.driver ≠ .faulted
        let wait := h.holdWait.getD 0
        let turnedAway : OverflowCause → Prop := fun cause =>
          (wait < s.host.cfg.holdWait → t.path.hold = { h with holdWait := some (wait + 1) } :: rest)
          ∧ (¬wait < s.host.cfg.holdWait → t.noticeOf .overflowRoute = some (.overflowRoute h.tag b cause)
              ∧ (room → claims 0 { h with bin := some 0, holdWait := some 0 }))
        (h.link = .none →
          (passes → b = 0 ∨ line → room → claims b { h with holdWait := some 0 })
          ∧ (passes → b = 0 ∨ line → 2 ≤ t.roleClaims.length →
              t.path.hold = { h with holdWait := some 0 } :: rest)
          ∧ (b ≠ 0 → s.bins[b].state ≠ .opened → turnedAway .held)
          ∧ (b ≠ 0 → s.bins[b].state = .opened → s.bins[b].used = none → turnedAway .unknown)
          ∧ (∀ u, b ≠ 0 → s.bins[b].state = .opened → s.bins[b].used = some u →
              s.capacityOf b ≤ u + t.claimedCount b → turnedAway .full)
          ∧ (b ≠ 0 → passes → ¬line → ∃ h', t.path.hold = h' :: rest
              ∧ (wait < s.host.cfg.holdWait → h'.bin = some b ∧ h'.holdWait = some (wait + 1))
              ∧ (¬wait < s.host.cfg.holdWait → h'.bin = some 0 ∧ h'.holdWait = some 0
                  ∧ t.noticeOf .overflowRoute = some (.overflowRoute h.tag b .noLine))))
        ∧ (∀ pre g post x u, h.link = .queued → h.cleat = some x → s.line.queue = pre ++ g :: post →
            g.frame = .claim x b u → g.phase = .waiting →
            ((x - c).toNat ≤ s.host.cfg.commitLead ∨ s.host.cfg.maxLead < (x - c).toNat →
              (∃ h', t.path.hold = h' :: rest ∧ h'.stage = .claiming ∧ h'.link = .none ∧ h'.cleat = none)
              ∧ ∀ f ∈ t.line.queue, f.phase = .waiting → ∀ d v, f.frame ≠ .claim x d v)
            ∧ (s.host.cfg.commitLead < (x - c).toNat → (x - c).toNat ≤ s.host.cfg.maxLead →
              g ∈ t.line.queue
              ∧ ∃ h', t.path.hold = h' :: rest ∧ h'.link = .queued ∧ h'.cleat = some x))))

/-- The listening revolution (05 R89): each pitch mark counts, a home mark among them, and the 256th makes the station
SYNCED. The queueing of sort-duty frames does not run yet after it, and runs from the next mark on, which the station takes as
SYNCED. The mark that says so is the model's own (log 54). -/
def Obligations.ListeningRevolution : Prop :=
  ∀ (home item : Bool) (s : State), s.belt.noSlip home →
    (∀ n, s.member = .listening (.counting n) → ∃ t, exec (mark home item) s = .next t
      ∧ t.dutyReports = false
      ∧ (n < 255 → t.member = .listening (.counting (n + 1))
          ∧ t.notices[NoticeKind.joinState.index] = s.notices[NoticeKind.joinState.index])
      ∧ (n = 255 → t.member = .synced
          ∧ t.noticeOf .joinState = some (.joinState .synced .listening .listenComplete)))
    ∧ (s.member = .synced → ∃ t, exec (mark home item) s = .next t
      ∧ t.member = .synced ∧ t.dutyReports = true)

-- The Station Line

/-- A frame starts (02 R34) exactly where the line is QUIET, the driver READY, no Wake pulse request stands, nothing is being
sent and the queue holds a frame that may go: of a kind that the membership state allows, and no BIN HOLD asked for behind a
BIN OPEN of its bin that the queue still holds (04 R82). The one started is the first of these, and those ahead keep their
places. The run level and length and the mark that keeps R82's order are the model's choice (log 27, log 48). -/
def Obligations.FrameStarts : Prop :=
  ∀ (s : State),
    let goes : QueuedFrame → Prop := fun f => f.frame.kind.allowedIn s.member.state = true
      ∧ ¬(f.behind = true ∧ s.queues .binOpen f.frame.subject)
    (∀ pre g post, s.line.condition = .quiet → s.line.driver = .ready → s.line.wake = .none →
      s.line.queue = pre ++ g :: post → allWaiting s.line.queue → (∀ f ∈ pre, ¬goes f) → goes g →
      exec .frameStart s = .next { s with line := { s.line with
        queue := pre ++ { g with phase := .arbitrating, behind := false } :: post
        condition := .busy, runLevel := .drive, runLength := 0 } })
    ∧ (s.line.condition ≠ .quiet ∨ s.line.driver ≠ .ready ∨ s.line.wake ≠ .none ∨ ¬allWaiting s.line.queue
        ∨ (∀ f ∈ s.line.queue, ¬goes f) →
      exec .frameStart s = .next s)
    ∧ (∀ k : FrameKind, k.allowedIn .synced = true ∧ (k.allowedIn .listening = true ↔ k = .join)
        ∧ k.allowedIn .offline = false ∧ k.allowedIn .conflict = false)

/-- The used fields are filled in at the win from the Bin Table as it stands, and the check over them (02 R37, R33). -/
def Obligations.WonFrameIsFilledIn : Prop :=
  ∀ (s : State) (pre post : List QueuedFrame) (g : QueuedFrame), s.line.queue = pre ++ g :: post →
    allWaiting pre → allWaiting post → g.phase = .arbitrating →
    ∃ f : Frame,
      exec .arbitrationWon s = .next { s with line := { s.line with
        queue := pre ++ { g with frame := f, phase := .won, check := some (f.check s.station) } :: post } }
      ∧ (∀ x b m w, g.frame = .load x b m w → f = .load x b m
          (if b = 0 then 0 else
            match s.bins[b].used with
            | some u => BitVec.ofNat 16 (min 65534 (u + 1))
            | none => 0xFFFF#16))
      ∧ (∀ x b w, g.frame = .claim x b w → f = .claim x b
          (if b = 0 then 0 else
            match s.bins[b].used with
            | some u => BitVec.ofNat 16 u
            | none => 0xFFFF#16))
      ∧ (∀ x b w, g.frame = .misroute x b w → f = .misroute x b
          (match s.bins[b].used with
            | some u => BitVec.ofNat 16 (u - 1)
            | none => 0xFFFF#16))
      ∧ (∀ d w, g.frame = .counts d w → ∃ v : Vector Word16 8, f = .counts d v
          ∧ ∀ i : Fin 8, v[i] = (match s.bins[i.succ].used with
            | some u => BitVec.ofNat 16 u
            | none => 0xFFFF#16))
      ∧ ((g.frame.kind = .release ∨ g.frame.kind = .stray ∨ g.frame.kind = .binHold ∨ g.frame.kind = .binOpen
          ∨ g.frame.kind = .binSet ∨ g.frame.kind = .join) → f = g.frame)

/-- A lost arbitration (02 R35) leaves the frame in its place with its attempt count. An objected own frame (R41, R42): up to
the third failure the attempt count rises and the frame keeps its place; the fourth drops it with LINE FAULT, and the block
that queued it is told. A frame that was being sent at a slip leaves at its failure without a notice (01 R7, 05 R93). The
alone count follows the Echo slot. A receiver drives the Echo slot of an objected frame whose check was good, and the Objection
slot of one whose check was bad (R39); in COOL-OFF it drives neither, and a bad check raises UNOBJECTED with the kind and the
sender (R30). When the current of the bits driven is measured (R28), and that UNOBJECTED is raised although the frame is not
Taken, are the model's reading (log 23, log 27). -/
def Obligations.LostAndObjectedFrames : Prop :=
  ∀ (s : State) (pre post : List QueuedFrame) (g : QueuedFrame) (echo : Bool) (check : CheckRead) (cur : LineCurrent),
    (s.line.queue = pre ++ g :: post → allWaiting pre → allWaiting post →
      (g.phase = .arbitrating → exec .arbitrationLost s = .next { s with line := { s.line with
          queue := if g.noRetry = true then pre ++ post else pre ++ { g with phase := .waiting } :: post } })
      ∧ (g.phase = .won → ∃ t, exec (.frameObjected echo check cur) s = .next t
          ∧ t.line = { s.line with
              queue := queueAfterFailure pre g post
              aloneCount := if echo then 0 else min 8 (s.line.aloneCount + 1), overloadTimer := s.timerMeasured cur }
          ∧ (g.drops → t.noticeOf .lineFault = some (.lineFault (.dropped g.frame.kind g.frame.subject)))
          ∧ (¬g.drops → t.notices = s.notices)
          ∧ s.failedFor t g))
    ∧ (allWaiting s.line.queue → s.receiving = true →
      exec (.frameObjected echo .good cur) s = .next { s with line := { s.line with
        overloadTimer := s.timerMeasured cur, aloneCount := 0
        slot := if s.driverDrives = true then .echo else .none } }
      ∧ ∀ kind sender,
        let judged : State := { s with line := { s.line with
          overloadTimer := s.timerMeasured cur, slot := if s.driverDrives = true then .objection else .none } }
        (s.line.driver ≠ .coolOff → exec (.frameObjected echo (.bad kind sender) cur) s = .next judged)
        ∧ (s.line.driver = .coolOff → exec (.frameObjected echo (.bad kind sender) cur) s =
          .next (judged.raise (.lineFault (.unobjected (some kind) (some sender))))))

/-- A frame error (02 R38, R36, R39, R30): the sender's attempt fails, the fourth failure drops the frame, a receiver in
COOL-OFF raises UNOBJECTED and any other objects, in the Objection slot after a check mismatch and by an objection run
otherwise; nothing of the frame is applied, and nothing is decoded until the line is QUIET. That UNOBJECTED is raised at the
error, the mark of a missed frame, when the current is measured, and that a bit error tells a receiver nothing, are the
model's reading (log 3, log 23, log 27, log 39). -/
def Obligations.ErrorIsObjected : Prop :=
  (∀ (s : State) (error : FrameFault) (kind sender : Option Nibble) (cur : LineCurrent),
    let afterwards : List QueuedFrame → Line := fun q => { s.line with
      queue := q, overloadTimer := s.timerMeasured cur, missing := true
      objecting := s.driverDrives && error != .checkMismatch
      slot := if s.driverDrives = true ∧ error = .checkMismatch then .objection else .none }
    (∀ pre g post, s.line.queue = pre ++ g :: post → allWaiting pre → allWaiting post → g.phase ≠ .waiting →
      ∃ t, exec (.frameError error kind sender cur) s = .next t
        ∧ t.line = afterwards (queueAfterFailure pre g post)
        ∧ (g.drops → t.noticeOf .lineFault = some (.lineFault (.dropped g.frame.kind g.frame.subject)))
        ∧ (¬g.drops → t.notices = s.notices)
        ∧ s.failedFor t g)
    ∧ (allWaiting s.line.queue → s.receiving = true → error ≠ .bitError →
      (s.line.driver ≠ .coolOff →
        exec (.frameError error kind sender cur) s = .next { s with line := afterwards s.line.queue })
      ∧ (s.line.driver = .coolOff → exec (.frameError error kind sender cur) s =
        .next (({ s with line := { s.line with missing := true } } : State).raise
          (.lineFault (.unobjected kind sender)))))
    ∧ (allWaiting s.line.queue → s.receiving = false ∨ error = .bitError →
      exec (.frameError error kind sender cur) s = .next s))
  ∧ SlotDrive.bits .none = [true, true] ∧ SlotDrive.bits .echo = [false, true]
  ∧ SlotDrive.bits .objection = [true, false] ∧ objectionRun.length = 8 ∧ (∀ b ∈ objectionRun, b = false)
  ∧ (∀ i, slotFor (.ok i) = .echo) ∧ slotFor (.error .checkMismatch) = .objection
  ∧ slotFor (.error .stuffViolation) = .none

/-- The line condition (02 R24, R25): drive makes a QUIET line BUSY; rest for 11 bit times makes a BUSY or STUCK line QUIET,
the latter with LINE FAULT and the saturated length of the run; a drive run beyond 200 bit times makes a BUSY line STUCK, and
fails the attempt of a frame being sent. And what is taken from the wire (R23): one bit in each bit time, aligned to the
changes from rest to drive, with the deglitch filter on or off; a change that the filter ignores counts for no run, so a
disturbance of less than an eighth of a bit time neither splits nor shortens a run of rest or of drive. The run level and
length, the mark of a missed frame and the grid of samples are the model's choice (log 27, log 39, log 51). -/
def Obligations.LineCondition : Prop :=
  (∀ (s : State) (n : Nat), s.online = true →
    let stuck : Line := { s.line with
      condition := .stuck, runLevel := .drive, runLength := 201, missing := true, objecting := false, slot := .none
      wake := if s.line.wake = .waiting then .none else s.line.wake }
    (s.line.condition = .quiet → exec .lineBusy s = .next { s with line := { s.line with
      condition := .busy, runLevel := .drive, runLength := 0 } })
    ∧ (s.line.condition = .busy → exec .lineQuiet s = .next { s with line := { s.line with
      condition := .quiet, runLevel := .rest, runLength := 11, missing := false, objecting := false, slot := .none } })
    ∧ (s.line.condition = .busy → allWaiting s.line.queue →
      exec .lineStuck s = .next (({ s with line := stuck } : State).raise (.lineFault .stuck)))
    ∧ (∀ pre g post, s.line.condition = .busy → s.line.queue = pre ++ g :: post → allWaiting pre → allWaiting post →
      g.phase ≠ .waiting → ∃ t, exec .lineStuck s = .next t
        ∧ t.line = { stuck with queue := queueAfterFailure pre g post }
        ∧ t.noticeOf .lineFault = some (.lineFault .stuck)
        ∧ (g.drops → t.notices[NoticeKind.lineFault.index].count =
            min 255 (s.notices[NoticeKind.lineFault.index].count + 2))
        ∧ (¬g.drops → t.notices[NoticeKind.lineFault.index].count =
            min 255 (s.notices[NoticeKind.lineFault.index].count + 1))
        ∧ s.failedFor t g)
    ∧ (s.line.condition = .stuck → exec (.stuckCleared n) s =
      .next (({ s with line := { s.line with
        condition := .quiet, runLevel := .rest, runLength := 11, missing := false, objecting := false
        slot := .none } } : State).raise (.lineFault (.stuckCleared (min 65535 n))))))
  ∧ (∀ (c : Configuration) (rate instant n : Nat) (bits : List Bool), instant < rate →
    c.deglitch = 0 ∨ (c.deglitch = 1 ∧ instant + rate / 8 ≤ rate) →
    wireBits c rate instant (waveOf rate (List.replicate n true ++ false :: bits)) = false :: bits)
  ∧ (∀ (c : Configuration) (rate : Nat) (wire : List Bool),
    (c.deglitch = 0 → wireLevels c rate wire = wire)
    ∧ (c.deglitch = 1 → wireLevels c rate wire = deglitchFrom (rate / 8) true 0 wire))
  ∧ (∀ (hold n : Nat) (level : Bool) (rest : List Bool),
    (n < hold → deglitchFrom hold level 0 (List.replicate n (!level) ++ level :: rest) =
      List.replicate (n + 1) level ++ deglitchFrom hold level 0 rest)
    ∧ (1 ≤ hold → deglitchFrom hold level 0 (List.replicate hold (!level) ++ rest) =
      List.replicate (hold - 1) level ++ (!level) :: deglitchFrom hold (!level) 0 rest))
  ∧ (∀ (rate instant count : Nat) (rest : List Bool),
    sampleFrom rate instant true count (false :: rest) = sampleFrom rate instant true 0 (false :: rest))
  ∧ (∀ (c : Configuration) (rate m n : Nat), c.deglitch = 0 → 1 ≤ rate → 1 ≤ m → 1 ≤ n →
    wireRuns c rate (List.replicate (rate * m) true ++ List.replicate (rate * n) false) = [(.rest, m), (.drive, n)])
  ∧ (∀ (c : Configuration) (rate m n k a d b e : Nat), c.deglitch = 1 → 8 ≤ rate → 1 ≤ m → 1 ≤ k →
    d < rate / 8 → a + d < rate * m → e < rate / 8 → rate / 8 ≤ b → b + e < rate * n →
    wireRuns c rate
        -- m bit times of rest, d samples of drive within them; n of drive, e samples of rest within them; and rest
        (List.replicate a true ++ List.replicate d false ++ List.replicate (rate * m - (a + d)) true
          ++ List.replicate b false ++ List.replicate e true ++ List.replicate (rate * n - (b + e)) false
          ++ List.replicate (rate * k + (rate / 8 - 1)) true) =
      [(.rest, m), (.drive, n), (.rest, k)])

/-- Wake pulses (02 R26, R27, 11 R188): in Deep Rest a pulse of 40 to 120 bit times makes the station listen again
without one of its own; elsewhere it changes no more than the measured run; a request waits for a QUIET line and a
READY driver; the current of the 60 bits of a pulse is measured (R28), with any outcome. The run level and length, and that
this outcome is a free value, are the model's choice (log 27, log 49); that none is sent in CONFLICT while the request waits is
log 36. -/
def Obligations.WakePulses : Prop :=
  ∀ (s : State) (n : Nat),
    (s.host.rest = .deepRest → 40 ≤ n → n ≤ 120 → ∃ t, exec (.wakePulse n) s = .next t
      ∧ t.host.rest = .active ∧ t.member = .listening .waitingHome ∧ t.scan.program = .watching
      ∧ t.line.wake = s.line.wake ∧ t.line.condition = .busy
      ∧ t.noticeOf .joinState = some (.joinState .listening s.member.state .wakePulse)
      ∧ t.session = s.session ∧ t.host.cfg = s.host.cfg ∧ t.bins = s.bins ∧ t.map = s.map)
    ∧ (s.host.rest ≠ .deepRest → s.online = true → exec (.wakePulse n) s = .next { s with line := { s.line with
        runLevel := .rest, runLength := 0 } })
    ∧ (s.line.wake = .waiting → s.line.condition = .quiet → s.line.driver = .ready → s.member ≠ .conflict →
      exec .wakePulseSend s = .next { s with line := { s.line with
        wake := .driving, condition := .busy, runLevel := .drive, runLength := 0 } })
    ∧ (s.line.wake ≠ .waiting ∨ s.line.condition ≠ .quiet ∨ s.line.driver ≠ .ready →
      exec .wakePulseSend s = .next s)
    ∧ (s.line.wake = .driving → ∃ cur : LineCurrent, cur.length = 60 ∧ exec .wakePulseDone s = .next { s with
        line := { s.line with wake := .none, runLevel := .rest, runLength := 0, overloadTimer := s.timerMeasured cur }
        draws := s.draws + 1 })

/-- The overload timer (02 R28): one more for each driven bit above the driver limit, 0 after one below it. A driver overload
(02 R29, R30): the timer falls to 0 and the count rises; below 3 the driver cools off for 1000 bit times and is READY again,
at 3 it is FAULTED; a frame being sent fails its attempt, and the station goes on receiving; LINE FAULT says so. That the
timer stays at 16 until the overload is reported, and that a waiting Wake pulse request goes with the change to FAULTED, are
the model's reading (log 27, log 36). -/
def Obligations.DriverOverloads : Prop :=
  (∀ (timer : Nat) (cur : LineCurrent) (above : Bool), timerAfter timer [] = timer
    ∧ timerAfter timer (cur ++ [above]) = if above then min 16 (timerAfter timer cur + 1) else 0)
  ∧ ∀ (s : State),
    (s.line.driver = .ready → allWaiting s.line.queue → s.line.overloadCount < 2 →
      exec .driverOverload s = .next (({ s with line := { s.line with
        overloadTimer := 0, overloadCount := s.line.overloadCount + 1, driver := .coolOff, driverCoolOff := some 0
        objecting := false, slot := .none
        wake := if s.line.wake = .driving then .none else s.line.wake } } : State).raise
          (.lineFault (.overload (s.line.overloadCount + 1) .coolOff none))))
    ∧ (s.line.driver = .ready → allWaiting s.line.queue → s.line.overloadCount = 2 →
      exec .driverOverload s = .next (({ s with line := { s.line with
        overloadTimer := 0, overloadCount := 3, driver := .faulted, driverCoolOff := none
        objecting := false, slot := .none, wake := .none } } : State).raise
          (.lineFault (.overload 3 .faulted none))))
    ∧ (∀ pre g post, s.line.driver = .ready → s.line.queue = pre ++ g :: post → allWaiting pre → allWaiting post →
      g.phase ≠ .waiting → s.line.overloadCount ≤ 2 →
      let state : DriverState := if s.line.overloadCount = 2 then .faulted else .coolOff
      ∃ t, exec .driverOverload s = .next t
        ∧ t.line = { s.line with
            queue := queueAfterFailure pre g post, overloadTimer := 0, overloadCount := s.line.overloadCount + 1
            driver := state, driverCoolOff := if s.line.overloadCount = 2 then none else some 0
            objecting := false, slot := .none
            wake := if s.line.overloadCount = 2 ∨ s.line.wake = .driving then .none else s.line.wake }
        ∧ t.noticeOf .lineFault = some
            (.lineFault (.overload (s.line.overloadCount + 1) state (some g.frame.kind)))
        ∧ (g.drops → t.notices[NoticeKind.lineFault.index].count =
            min 255 (s.notices[NoticeKind.lineFault.index].count + 2))
        ∧ (¬g.drops → t.notices[NoticeKind.lineFault.index].count =
            min 255 (s.notices[NoticeKind.lineFault.index].count + 1))
        ∧ t.receiving = s.receiving ∧ s.failedFor t g)
    ∧ (s.line.driver = .faulted → s.online = true →
      exec .driverOverload s = .next (({ s with line := { s.line with
        overloadTimer := 0, objecting := false, slot := .none } } : State).raise
          (.lineFault (.overload s.line.overloadCount .faulted none))))
    ∧ (s.line.driver = .coolOff → exec .driverCoolOffEnd s = .next { s with line := { s.line with
        driver := .ready, driverCoolOff := none } })
    ∧ (∀ c : Configuration, c.lineRate ≤ 3 → c.driverCoolOffMs = 16 / 2 ^ c.lineRate)

/-- The frame read back from the wire: what a receiver makes of a stuffed frame of a station 1 to 12 is the command of that
frame, every field at every value (02 2.4, R31 to R33). Where a long run of equal frame bits is broken is the model's choice
(log 59). -/
def Obligations.FramesReadBack : Prop :=
  ∀ (f : Frame) (rx : Reception) (station : Nat), 1 ≤ station → station ≤ 12 →
    readFrame rx (stuff (f.stuffedFields station)) = .ok (f.takenAs rx (BitVec.ofNat 4 station))

-- Taken frames

/-- A frame that fails the screen of 02 R31 is applied by no table and raises MAP CONFLICT with the field, for every kind and
every field that its payload has. An unused kind code raises no notice; each counts as Taken for R29 and R41. That an unused
kind code from a sender out of range raises none either, and that of several fields out of range the first in the order of the
frame is named, are the model's choice (log 53, log 58). -/
def Obligations.ScreenedFrameRaisesMapConflict : Prop :=
  ∀ (s : State) (rx : Reception) (sender bin material cause : Nibble) (x : Cleat) (u digest : Word16)
    (used : Vector Word16 8), s.receiving = true → allWaiting s.line.queue →
    let screened : Instr → FrameKind → ScreenField → Prop := fun i k f =>
      exec i s = .next (({ s with line := s.lineAfter rx } : State).raise (.mapConflict (.screen k sender.toNat f)))
    exec (.unusedKindTaken rx sender bin) s = .next { s with line := s.lineAfter rx }
    ∧ (senderInRange sender = false →
      screened (.releaseTaken rx sender x) .release .sender ∧ screened (.strayTaken rx sender x) .stray .sender
      ∧ screened (.misrouteTaken rx sender x bin u) .misroute .sender
      ∧ screened (.loadTaken rx sender x bin material u) .load .sender
      ∧ screened (.claimTaken rx sender x bin u) .claim .sender
      ∧ screened (.binHoldTaken rx sender bin cause) .binHold .sender
      ∧ screened (.binOpenTaken rx sender bin) .binOpen .sender
      ∧ screened (.binSetTaken rx sender bin u) .binSet .sender
      ∧ screened (.countsTaken rx sender digest used) .counts .sender
      ∧ screened (.joinTaken rx sender digest) .join .sender)
    ∧ (senderInRange sender = true → 8 < bin.toNat →
      screened (.misrouteTaken rx sender x bin u) .misroute .bin
      ∧ screened (.loadTaken rx sender x bin material u) .load .bin
      ∧ screened (.claimTaken rx sender x bin u) .claim .bin
      ∧ screened (.binHoldTaken rx sender bin cause) .binHold .bin
      ∧ screened (.binOpenTaken rx sender bin) .binOpen .bin
      ∧ screened (.binSetTaken rx sender bin u) .binSet .bin)
    ∧ (senderInRange sender = true → bin.toNat ≤ 8 → (material = 0 ∨ 5 < material.toNat) →
      screened (.loadTaken rx sender x bin material u) .load .material)
    ∧ (senderInRange sender = true → bin.toNat ≤ 8 → cause ≠ 1 → cause ≠ 2 →
      screened (.binHoldTaken rx sender bin cause) .binHold .cause)

/-- A CLAIM of another station, and this station's own (03 R52): the carried count is adopted, with COUNT MISMATCH where it is
not the used count (04 R75), then the claim is accepted where the entry is FREE and the bin is 0, or OPEN and Known with used
plus claimed plus one not above its capacity; a void one leaves the map. What the verdict on an own one does to the head and
the queue is OwnClaimVerdict's. When the current of an own frame is measured is the model's choice (log 27). -/
def Obligations.ClaimTaken : Prop :=
  ∀ (s : State) (rx : Reception) (sender : Nibble) (x : Cleat) (b : BinNo) (u : Word16) (l : Line),
    s.takesFrom rx sender .claim (.cleat x) l →
    ∃ t, exec (.claimTaken rx sender x (BitVec.ofNat 4 b.val) u) s = .next t
      ∧ (∀ y, y ≠ x → t.entryAt y = s.entryAt y)
      ∧ (s.entryAt x ≠ .free → t.entryAt x = s.entryAt x)
      ∧ (s.entryAt x = .free → b = 0 → t.entryAt x = .claimed sender.toNat b)
      ∧ (∀ n, s.entryAt x = .free → b ≠ 0 → t.bins[b].used = some n →
          t.entryAt x = if s.bins[b].state = .opened ∧ n + s.claimedCount b + 1 ≤ s.capacityOf b then
            .claimed sender.toNat b else .free)
      ∧ (s.entryAt x = .free → b ≠ 0 → t.bins[b].used = none → t.entryAt x = .free)
      ∧ (b ≠ 0 → t.bins[b].used = if u = 0xFFFF#16 then s.bins[b].used else some u.toNat)
      ∧ (∀ k : BinNo, t.bins[k].state = s.bins[k].state ∧ (k ≠ b ∨ b = 0 → t.bins[k].used = s.bins[k].used))
      ∧ s.comparesCount t .claim sender.toNat b (fun n => n) u
      ∧ (sender.toNat ≠ s.station ∨ s.member ≠ .synced →
          t.line = l ∧ s.sameNoticesBut [.countMismatch, .binChange] t)
      ∧ t.line = { l with queue := t.line.queue } ∧ s.sameNoticesBut [.countMismatch, .binChange, .lineFault] t
      ∧ t.belt = s.belt ∧ t.member = s.member ∧ t.session = s.session ∧ t.drives = s.drives ∧ t.host = s.host

/-- This station's own CLAIM, accepted or void by R52 as any other, and the verdict on it (03 R53, R54): in time, the head is
READY for its cleat; late, the cleat is given up, with its RELEASE and its place in the list (R47), and the head chooses
again; void, the head chooses again. -/
def Obligations.OwnClaimVerdict : Prop :=
  ∀ (s : State) (rx : Reception) (pre post : List QueuedFrame) (g : QueuedFrame) (x c : Cleat) (b : BinNo)
    (u w : Word16) (h : Container) (rest : List Container),
    s.receiving = true → s.member = .synced → 1 ≤ s.station → s.station ≤ 12 →
    s.line.queue = pre ++ g :: post → allWaiting pre → allWaiting post → g.phase = .won → g.frame = .claim x b w →
    s.path.hold = h :: rest → h.link = .queued → h.cleat = some x → h.bin = some b → s.belt.current = some c →
    let used : Option Nat := if u = 0xFFFF#16 then s.bins[b].used else some u.toNat
    let fits : Prop := b = 0 ∨ (s.bins[b].state = .opened ∧ ∃ n, used = some n
      ∧ n + s.claimedCount b + 1 ≤ s.capacityOf b)
    ∃ t, exec (.claimTaken rx (BitVec.ofNat 4 s.station) x (BitVec.ofNat 4 b.val) u) s = .next t
      ∧ (s.entryAt x = .free → fits → t.entryAt x = .claimed s.station b)
      ∧ (s.entryAt x = .free → ¬fits → t.entryAt x = .free)
      ∧ (s.entryAt x ≠ .free → t.entryAt x = s.entryAt x)
      ∧ (t.entryAt x = .claimed s.station b → s.host.cfg.commitLead < (x - c).toNat →
          t.path.hold = { h with stage := .ready, link := .held, holdWait := none } :: rest
          ∧ t.hasRole x .held = true ∧ t.line.queue = pre ++ post)
      ∧ (t.entryAt x = .claimed s.station b → (x - c).toNat ≤ s.host.cfg.commitLead →
          t.path.hold = { h with stage := .claiming, link := .none, cleat := none, holdWait := some 0 } :: rest
          ∧ s.givesUp t x
          ∧ (pre.length + post.length < Config.queuePlaces → t.queues .release (.cleat x)))
      ∧ (t.entryAt x ≠ .claimed s.station b →
          t.path.hold = { h with stage := .claiming, link := .none, cleat := none } :: rest
          ∧ t.line.queue = pre ++ post)

/-- RELEASE and STRAY of another station, and this station's own (03 R58, R63, R64): a RELEASE frees the sender's claim alone;
a STRAY makes a FREE or CLAIMED entry FOREIGN; a READY head that loses its claim goes back to CLAIMING. No bin's count or
state changes. When the current of an own frame is measured is the model's choice (log 27). -/
def Obligations.ReleaseAndStrayTaken : Prop :=
  ∀ (s : State) (rx : Reception) (sender : Nibble) (x : Cleat) (l : Line),
    (s.takesFrom rx sender .release (.cleat x) l → ∃ t, exec (.releaseTaken rx sender x) s = .next t
      ∧ (∀ y, t.entryAt y = if y = x ∧ (s.entryAt x).claimedBy sender.toNat = true then .free else s.entryAt y)
      ∧ (∀ k : BinNo, t.bins[k].state = s.bins[k].state ∧ t.bins[k].used = s.bins[k].used)
      ∧ t.line = l ∧ s.sameNoticesBut [.binChange] t ∧ t.path.hold = s.path.hold
      ∧ t.belt = s.belt ∧ t.member = s.member ∧ t.session = s.session ∧ t.drives = s.drives)
    ∧ (s.takesFrom rx sender .stray (.cleat x) l → ∃ t, exec (.strayTaken rx sender x) s = .next t
      ∧ (∀ y, y ≠ x → t.entryAt y = s.entryAt y)
      ∧ (s.entryAt x = .free → t.entryAt x = .foreign)
      ∧ (∀ o b, s.entryAt x = .claimed o b → t.entryAt x = .foreign)
      ∧ (∀ o b m, s.entryAt x = .loaded o b m → t.entryAt x = s.entryAt x)
      ∧ (s.entryAt x = .foreign → t.entryAt x = .foreign)
      ∧ (∀ h rest, s.path.hold = h :: rest → h.stage = .ready → h.cleat = some x → s.ownClaim x = true →
          t.path.hold = { h with stage := .claiming, link := .none, cleat := none, holdWait := some 0 } :: rest)
      ∧ (∀ k : BinNo, t.bins[k].state = s.bins[k].state ∧ t.bins[k].used = s.bins[k].used)
      ∧ t.line = l ∧ s.sameNoticesBut [.binChange] t
      ∧ t.belt = s.belt ∧ t.member = s.member ∧ t.session = s.session ∧ t.drives = s.drives)

/-- A LOAD of another station, and this station's own (03 R60): the carried count is adopted, with COUNT MISMATCH where
it is not the used count plus one, at most 65534 (04 R75), then the entry follows the table, with MAP CONFLICT where the table
gives it. The sort-duty station, SYNCED with the current cleat Known, queues MISROUTE
for a cleat that has passed its gate or stays FOREIGN (01 R21), from the pitch mark on that follows the one at which it became
SYNCED (05 R89). When the current of an own frame is measured, and that R89 limits this MISROUTE too, are the model's reading
(log 27, log 54). -/
def Obligations.LoadTaken : Prop :=
  ∀ (s : State) (rx : Reception) (sender : Nibble) (x : Cleat) (b : BinNo) (m : Material) (u : Word16) (l : Line),
    s.takesFrom rx sender .load (.cleat x) l →
    (∃ t, exec (.loadTaken rx sender x (BitVec.ofNat 4 b.val) (BitVec.ofNat 4 m.code) u) s = .next t
      ∧ (∀ y, y ≠ x → t.entryAt y = s.entryAt y)
      ∧ (s.entryAt x = .free → t.entryAt x = .loaded sender.toNat b m)
      ∧ (∀ o k, s.entryAt x = .claimed o k →
          t.entryAt x = if o = sender.toNat then .loaded sender.toNat b m else .claimed o k)
      ∧ (∀ o k n, s.entryAt x = .loaded o k n → t.entryAt x = .loaded o k n)
      ∧ (s.entryAt x = .foreign → t.entryAt x = .foreign)
      ∧ ((s.entryAt x = .free ∨ s.entryAt x = .claimed sender.toNat b) →
          t.notices[NoticeKind.mapConflict.index] = s.notices[NoticeKind.mapConflict.index])
      ∧ (s.entryAt x ≠ .free → s.entryAt x ≠ .claimed sender.toNat b →
          t.noticeOf .mapConflict = some (.mapConflict (.load x sender.toNat b m (s.entryAt x))))
      ∧ s.comparesCount t .load sender.toNat b (fun n => min 65534 (n + 1)) u
      ∧ (b ≠ 0 → t.bins[b].used = if u = 0xFFFF#16 then s.bins[b].used else some u.toNat)
      ∧ (∀ k : BinNo, t.bins[k].state = s.bins[k].state ∧ (k ≠ b ∨ b = 0 → t.bins[k].used = s.bins[k].used))
      ∧ (s.host.cfg.sortDuty = 0 ∨ s.member ≠ .synced ∨ s.dutyReports = false → t.line = l)
      ∧ t.belt = s.belt ∧ t.member = s.member ∧ t.session = s.session ∧ t.drives = s.drives)
    ∧ (∀ (c : Cleat) (g : Gate), s.member = .synced → s.dutyReports = true → s.host.cfg.sortDuty = 1 →
      s.host.cfg.MeetsBounds → s.belt.current = some c → l.queue.length < Config.queuePlacesOther →
      (256 - s.host.cfg.clearDistance ≤ (x - c).toNat ∧ (x - c).toNat ≤ 256 - s.host.cfg.gateDistance[g])
        ∨ s.entryAt x = .foreign →
      ∃ t, exec (.loadTaken rx sender x (BitVec.ofNat 4 g.succ.val) (BitVec.ofNat 4 m.code) u) s = .next t
        ∧ t.queues .misroute (.cleat x))

/-- MISROUTE and the bin frames of another station, and this station's own (03 R65, 04 R75, R77 to R79): which counts, states
and causes of the bin change; no entry of the map and no other bin does. For bin 0 nothing changes and no notice is raised
(R71). And BIN CHANGE (04 R83), after the application of any frame, the clearing of a cleat and a pitch slip: raised once for
each bin of which the state, the hold cause, the Known mark or the fullness has changed, with the last such bin in its detail,
and every reported full mark at the bin's fullness. A bin frame for bin 0 does nothing either where it carries this station's
number and this station did not send it: it is not applied, and so not tested (05 R96; log 45). That a hold cause which comes
or goes with the state is among the changed items of BIN CHANGE is the model's choice (log 61). When the current of an own
frame is measured is the model's choice (log 27). -/
def Obligations.BinFramesTaken : Prop :=
  (∀ (s : State) (rx : Reception) (sender : Nibble) (x : Cleat) (b : BinNo) (u : Word16) (cause : HoldCause),
    (s.hears sender → (∀ k : BinNo, s.full k = s.bins[k].reportedFull) →
      exec (.misrouteTaken rx sender x 0 u) s = .next { s with line := s.lineAfter rx })
    ∧ (s.hears sender ∨ (s.receiving = true ∧ senderInRange sender = true ∧ allWaiting s.line.queue) →
      (∀ k : BinNo, s.full k = s.bins[k].reportedFull) →
      exec (.binSetTaken rx sender 0 u) s = .next { s with line := s.lineAfter rx }
      ∧ exec (.binHoldTaken rx sender 0 (BitVec.ofNat 4 cause.code)) s = .next { s with line := s.lineAfter rx }
      ∧ exec (.binOpenTaken rx sender 0) s = .next { s with line := s.lineAfter rx })
    ∧ (∀ l, b ≠ 0 →
    (s.takesFrom rx sender .misroute (.cleat x) l →
      ∃ t, exec (.misrouteTaken rx sender x (BitVec.ofNat 4 b.val) u) s = .next t
      ∧ t.bins[b].used = (if u = 0xFFFF#16 then s.bins[b].used else some u.toNat) ∧ t.bins[b].state = s.bins[b].state
      ∧ s.comparesCount t .misroute sender.toNat b (fun n => n - 1) u
      ∧ (∀ k, k ≠ b → t.bins[k].used = s.bins[k].used ∧ t.bins[k].state = s.bins[k].state)
      ∧ t.map = s.map ∧ t.line = l ∧ s.sameNoticesBut [.countMismatch, .binChange] t ∧ t.member = s.member)
    ∧ (s.takesFrom rx sender .binSet (.bin b) l →
      ∃ t, exec (.binSetTaken rx sender (BitVec.ofNat 4 b.val) u) s = .next t
      ∧ t.bins[b].used = (if u = 0xFFFF#16 then s.bins[b].used else some u.toNat) ∧ t.bins[b].state = .opened
      ∧ (∀ k, k ≠ b → t.bins[k].used = s.bins[k].used ∧ t.bins[k].state = s.bins[k].state)
      ∧ t.map = s.map ∧ t.line = l ∧ s.sameNoticesBut [.binChange] t ∧ t.member = s.member)
    ∧ (s.takesFrom rx sender .binHold (.bin b) l →
      ∃ t, exec (.binHoldTaken rx sender (BitVec.ofNat 4 b.val) (BitVec.ofNat 4 cause.code)) s = .next t
      ∧ t.bins[b].used = s.bins[b].used ∧ t.bins[b].state = .held cause
      ∧ (∀ k, k ≠ b → t.bins[k].used = s.bins[k].used ∧ t.bins[k].state = s.bins[k].state)
      ∧ t.map = s.map ∧ t.line = l ∧ s.sameNoticesBut [.binChange] t ∧ t.member = s.member)
    ∧ (s.takesFrom rx sender .binOpen (.bin b) l →
      ∃ t, exec (.binOpenTaken rx sender (BitVec.ofNat 4 b.val)) s = .next t
      ∧ t.bins[b].used = s.bins[b].used ∧ t.bins[b].state = .opened
      ∧ (∀ k, k ≠ b → t.bins[k].used = s.bins[k].used ∧ t.bins[k].state = s.bins[k].state)
      ∧ t.map = s.map ∧ t.line = l ∧ s.sameNoticesBut [.binChange] t ∧ t.member = s.member)))
  ∧ (∀ (s : State) (rx : Reception) (sender : Nibble) (x : Cleat) (b : BinNo) (m : Material) (cause : HoldCause)
    (u digest : Word16) (used : Vector Word16 8), s.receiving = true → senderInRange sender = true →
    ∀ i ∈ [Instr.releaseTaken rx sender x, .strayTaken rx sender x, .misrouteTaken rx sender x (BitVec.ofNat 4 b.val) u,
        .loadTaken rx sender x (BitVec.ofNat 4 b.val) (BitVec.ofNat 4 m.code) u,
        .claimTaken rx sender x (BitVec.ofNat 4 b.val) u,
        .binHoldTaken rx sender (BitVec.ofNat 4 b.val) (BitVec.ofNat 4 cause.code),
        .binOpenTaken rx sender (BitVec.ofNat 4 b.val), .binSetTaken rx sender (BitVec.ofNat 4 b.val) u,
        .countsTaken rx sender digest used, .joinTaken rx sender digest],
      ∃ t, exec i s = .next t ∧ s.reportsBins t)
  ∧ (∀ (home item : Bool) (s : State), s.online = true →
    home = true ∨ s.belt.current.isSome = true ∨ (s.belt.homeSeen = true ∧ ¬s.belt.pitchCount < 255) →
    ∃ t, exec (mark home item) s = .next t ∧ s.reportsBins t)

/-- A COUNTS of another station (05 R93, R94, 04 R80): with the own digest each carried count is adopted, with COUNT MISMATCH
for each bin where it is not the used count (R75), and the own waiting COUNTS withdrawn; with another digest CONFIG CONFLICT
is raised, nothing is adopted, and a LISTENING station enters CONFLICT with JOIN STATE, cause DIGEST (R98). This station's own
COUNTS is adopted as well, and then BIN HOLD is queued for each HELD bin (04 R80). -/
def Obligations.CountsTaken : Prop :=
  ∀ (s : State) (rx : Reception) (sender : Nibble) (digest : Word16) (used : Vector Word16 8),
    (s.hears sender → ∃ t, exec (.countsTaken rx sender digest used) s = .next t
      ∧ (s.ownDigest = some digest →
          (∀ i : Fin 8, t.bins[i.succ].used =
            if used[i] = 0xFFFF#16 then s.bins[i.succ].used else some used[i].toNat)
          ∧ s.comparesCounts t sender.toNat used
          ∧ (∀ g ∈ t.line.queue, g.phase = .waiting → g.frame.kind ≠ .counts)
          ∧ t.member = s.member ∧ s.sameNoticesBut [.countMismatch, .binChange] t)
      ∧ (s.ownDigest ≠ some digest →
          t.noticeOf .configConflict = some (.configConflict .counts sender.toNat digest s.ownDigest s.member.state)
          ∧ (∀ i : Fin 8, t.bins[i.succ].used = s.bins[i.succ].used)
          ∧ t.member = (if s.member.state = .listening then .conflict else s.member)
          ∧ (s.member.state = .listening → t.line.queue = []
              ∧ t.noticeOf .joinState = some (.joinState .conflict .listening .digest))
          ∧ (s.member.state ≠ .listening →
              t.notices[NoticeKind.joinState.index] = s.notices[NoticeKind.joinState.index]))
      ∧ (∀ k : BinNo, t.bins[k].state = s.bins[k].state)
      ∧ t.map = s.map ∧ t.belt = s.belt ∧ t.session = s.session ∧ t.drives = s.drives)
    ∧ (∀ l, s.takesFrom rx sender .counts .none l → sender.toNat = s.station → s.ownDigest = some digest →
      ∃ t, exec (.countsTaken rx sender digest used) s = .next t
      ∧ (∀ i : Fin 8, t.bins[i.succ].used =
          if used[i] = 0xFFFF#16 then s.bins[i.succ].used else some used[i].toNat)
      ∧ s.comparesCounts t sender.toNat used
      ∧ (l.queue.length + s.heldBins.length ≤ Config.queuePlacesOther →
          (∀ b ∈ s.heldBins, t.queues .binHold (.bin b)) ∧ s.sameNoticesBut [.countMismatch, .binChange] t)
      ∧ (∀ g ∈ l.queue, g.frame.kind ≠ .binHold → g ∈ t.line.queue)
      ∧ (∀ g ∈ t.line.queue, g ∈ l.queue ∨ ∃ b c, b ∈ s.heldBins ∧ s.bins[b].state = .held c ∧ g.frame = .binHold b c)
      ∧ (∀ k : BinNo, t.bins[k].state = s.bins[k].state)
      ∧ t.line = { l with queue := t.line.queue } ∧ t.member = s.member
      ∧ t.map = s.map ∧ t.belt = s.belt ∧ t.session = s.session ∧ t.drives = s.drives)

/-- A JOIN (05 R88, R92, R95): a SYNCED station of the same digest answers with COUNTS where it knows all its counts, and with
a BIN HOLD for each HELD bin where one is Unknown; another digest raises CONFIG CONFLICT; the own JOIN starts the revolution.
A frame with this station's number that it did not send (R96, R97, R98) makes a LISTENING station enter CONFLICT with
DUPLICATE ID and cause DUPLICATE, whatever the kind of the frame it applies, after it has been applied as any other; a SYNCED
one raises DUPLICATE ID for a JOIN and stays SYNCED. Where another digest and the own number meet, both notices, and the one
entry into CONFLICT, are the model's reading (log 22), and so is it that a bin frame for bin 0 is none that the station
applies (log 45). -/
def Obligations.JoinsAndDuplicates : Prop :=
  ∀ (s : State) (rx : Reception) (sender : Nibble) (digest : Word16),
    (s.hears sender → s.member = .synced → s.ownDigest = some digest →
      (∀ i : Fin 8, s.bins[i.succ].used.isSome = true) → s.line.queue.length < Config.queuePlacesOther →
      (∀ b : BinNo, s.full b = s.bins[b].reportedFull) →
      ∃ t, exec (.joinTaken rx sender digest) s = .next t ∧ t.queues .counts .none
        ∧ t = { s with line := { s.lineAfter rx with queue := t.line.queue } })
    ∧ (s.hears sender → s.member = .synced → s.ownDigest = some digest →
      (∃ i : Fin 8, s.bins[i.succ].used = none) → (∀ b : BinNo, s.full b = s.bins[b].reportedFull) →
      ∃ t, exec (.joinTaken rx sender digest) s = .next t
        ∧ (s.line.queue.length + s.heldBins.length ≤ Config.queuePlacesOther →
            (∀ b ∈ s.heldBins, t.queues .binHold (.bin b)) ∧ t.notices = s.notices)
        ∧ (∀ g ∈ s.line.queue, g.frame.kind ≠ .binHold → g ∈ t.line.queue)
        ∧ (∀ g ∈ t.line.queue, g ∈ s.line.queue
            ∨ ∃ b c, b ∈ s.heldBins ∧ s.bins[b].state = .held c ∧ g.frame = .binHold b c)
        ∧ t = { s with line := { s.lineAfter rx with queue := t.line.queue }, notices := t.notices }
        ∧ s.sameNoticesBut [.lineFault] t)
    ∧ (s.hears sender → s.ownDigest ≠ some digest → (∀ b : BinNo, s.full b = s.bins[b].reportedFull) →
      exec (.joinTaken rx sender digest) s = .next (({ s with line := s.lineAfter rx } : State).raise
        (.configConflict .join sender.toNat digest s.ownDigest s.member.state)))
    ∧ (∀ pre g post, s.receiving = true → 1 ≤ s.station → s.station ≤ 12 → s.line.queue = pre ++ g :: post →
      allWaiting pre → allWaiting post → g.phase = .won → g.frame = .join digest →
      s.member = .listening .joinPending →
      ∃ t, exec (.joinTaken rx (BitVec.ofNat 4 s.station) digest) s = .next t
        ∧ t.member = .listening (.counting 0) ∧ t.line.queue = pre ++ post ∧ t.map = s.map)
    ∧ (∀ (x : Cleat) (b : BinNo) (m : Material) (cause : HoldCause) (u : Word16) (used : Vector Word16 8),
      s.receiving = true → 1 ≤ s.station → s.station ≤ 12 → allWaiting s.line.queue →
      let own : Nibble := BitVec.ofNat 4 s.station
      let bin : Nibble := BitVec.ofNat 4 b.val
      let adopted : Option Nat := if u = 0xFFFF#16 then s.bins[b].used else some u.toNat
      let foreign : FrameKind → State → Prop := fun k t => s.ownDigest ≠ some digest →
        t.noticeOf .configConflict = some (.configConflict k s.station digest s.ownDigest .listening)
      -- each frame with its kind, what it is about, and what its application leaves
      let frames : List (Instr × FrameKind × Subject × (State → Prop)) :=
        [(.releaseTaken rx own x, .release, .cleat x,
            fun t => t.entryAt x = if (s.entryAt x).claimedBy s.station then .free else s.entryAt x),
         (.strayTaken rx own x, .stray, .cleat x, fun t => s.entryAt x = .free → t.entryAt x = .foreign),
         (.claimTaken rx own x bin u, .claim, .cleat x,
            fun t => s.entryAt x = .free → b = 0 → t.entryAt x = .claimed s.station b),
         (.loadTaken rx own x bin (BitVec.ofNat 4 m.code) u, .load, .cleat x,
            fun t => s.entryAt x = .free → t.entryAt x = .loaded s.station b m),
         (.misrouteTaken rx own x bin u, .misroute, .cleat x, fun t => b ≠ 0 → t.bins[b].used = adopted),
         (.binSetTaken rx own bin u, .binSet, .bin b,
            fun t => b ≠ 0 → t.bins[b].used = adopted ∧ t.bins[b].state = .opened),
         (.binHoldTaken rx own bin (BitVec.ofNat 4 cause.code), .binHold, .bin b,
            fun t => b ≠ 0 → t.bins[b].state = .held cause),
         (.binOpenTaken rx own bin, .binOpen, .bin b, fun t => b ≠ 0 → t.bins[b].state = .opened),
         (.countsTaken rx own digest used, .counts, .none, fun t => foreign .counts t
            ∧ (s.ownDigest = some digest → ∀ i : Fin 8, t.bins[i.succ].used =
                if used[i] = 0xFFFF#16 then s.bins[i.succ].used else some used[i].toNat)),
         (.joinTaken rx own digest, .join, .none, foreign .join)]
      (s.member.state = .listening → ∀ f ∈ frames, f.2.2.1 ≠ .bin 0 → ∃ t, exec f.1 s = .next t
        ∧ t.member = .conflict ∧ t.line.queue = [] ∧ f.2.2.2 t
        ∧ t.noticeOf .duplicateId = some (.duplicateId f.2.1 f.2.2.1 .listening)
        ∧ t.noticeOf .joinState = some (.joinState .conflict .listening .duplicate)
        ∧ t.notices[NoticeKind.joinState.index].count =
            min 255 (s.notices[NoticeKind.joinState.index].count + 1))
      ∧ (s.member = .synced → ∃ t, exec (.joinTaken rx (BitVec.ofNat 4 s.station) digest) s = .next t
        ∧ t.member = .synced ∧ t.noticeOf .duplicateId = some (.duplicateId .join .none .synced)))

-- Host transactions

/-- READ MAP (01 R13): the current cleat and one record for each requested cleat, modulo 256, as the map stands when the
request is taken, in every membership state and rest level; a count of 0 or above 32 is refused. -/
def Obligations.MapIsRead : Prop :=
  ∀ (s : State) (first count : Nat), s.storeBusy = false → ∃ t, exec (.readMap first count) s = .next t
    ∧ (count = 0 ∨ 32 < count → t.host.answer = .refused .range)
    ∧ (first < 256 → 1 ≤ count → count ≤ 32 → ∃ records : List (Cleat × Entry),
        t.host.answer = .done (.map s.belt.current records) ∧ records.length = count
        ∧ ∀ i, i < count →
          records[i]? = some (BitVec.ofNat 8 (first + i), s.entryAt (BitVec.ofNat 8 (first + i))))
    ∧ (s.host.rest ≠ .doze → t = s.answered t.host.answer)
    ∧ t.map = s.map ∧ t.belt = s.belt ∧ t.bins = s.bins ∧ t.line = s.line ∧ t.member = s.member

/-- READ STATUS and READ NOTICES (11 R183, R184), which do not end Doze: the notices come by priority and kind order,
and every flag returned is cleared with its count. And the NOTICE output (R183), asserted exactly while an enabled kind has its
flag set. The answer is structured data by the model's choice (log 29). -/
def Obligations.StatusAndNoticesAreRead : Prop :=
  (∀ s : State, s.noticeAsserted = true ↔
    ∃ k : NoticeKind, s.host.cfg.notice[k.index].enable = 1 ∧ (s.noticeOf k).isSome = true)
  ∧ ∀ s : State, s.storeBusy = false →
    (∃ d : StatusData, exec .readStatus s = .next (s.answered (.done (.status d)))
      ∧ d.configured = s.host.configured ∧ d.started = s.host.started ∧ d.rest = s.host.rest
      ∧ d.dozeLeft = s.host.dozeTimer.map (fun n => s.host.cfg.dozeDelay * 1000 - n) ∧ d.offered = s.host.offered
      ∧ (d.wakeWaiting = true ↔ s.line.wake = .waiting) ∧ d.member = s.member ∧ d.ownDigest = s.ownDigest
      ∧ d.belt = s.belt ∧ d.condition = s.line.condition ∧ d.driver = s.line.driver
      ∧ d.overloadCount = s.line.overloadCount ∧ (d.alone = true ↔ s.line.aloneCount = 8)
      ∧ d.queueLength = s.line.queue.length ∧ d.program = s.scan.program ∧ d.supply = s.scan.supply
      ∧ d.reference = s.scan.reference ∧ d.lastSupply = s.scan.lastSupply
      ∧ d.lastReference = s.scan.lastReference ∧ d.heat = s.heat ∧ d.lookup = s.article.lookup
      ∧ (∀ c : Channel, d.channels[channelIndex c].state = (s.channel c).state
          ∧ d.channels[channelIndex c].direction = (s.channel c).direction
          ∧ d.channels[channelIndex c].retry = (s.channel c).retry
          ∧ d.channels[channelIndex c].cause = (s.channel c).cause
          ∧ d.channels[channelIndex c].standing = (s.channel c).standing
          ∧ d.channels[channelIndex c].coolOffLeft =
              (s.channel c).coolOff.map fun n => (s.driveSetting c).coolOffMs - n)
      ∧ (∀ pre g post, s.line.queue = pre ++ g :: post → allWaiting pre → g.phase ≠ .waiting →
          d.firstFrame = some { kind := g.frame.kind, subject := g.frame.subject, attempts := g.attempts })
      ∧ (allWaiting s.line.queue → d.firstFrame = s.line.queue.head?.map fun g =>
          { kind := g.frame.kind, subject := g.frame.subject, attempts := g.attempts })
      ∧ d.queryLeft = s.article.queryTimer.map (fun n => s.host.cfg.queryTime * 100 - n)
      ∧ (∀ w, s.article.lookup = .walking w → d.walk = if w.phase = .waitingPort then .waiting else .running)
      ∧ ((∀ w, s.article.lookup ≠ .walking w) → d.walk = .absent)
      ∧ (∀ a, s.article.access = some a → d.access = if a.stage = .waiting then .waiting else .running)
      ∧ (s.article.access = none → d.access = .absent))
    ∧ (s.host.cfg.MeetsBounds → ∃ (entries : List (NoticeKind × NoticeDetail × Nat)) (t : State),
      exec .readNotices s = .next t ∧ t = { s.answered (.done (.notices entries)) with notices := t.notices }
      ∧ (∀ k d n, (k, d, n) ∈ entries ↔ s.noticeOf k = some d ∧ s.notices[k.index].count = n)
      ∧ entries.Pairwise (fun a b =>
          s.host.cfg.notice[b.1.index].priority < s.host.cfg.notice[a.1.index].priority
          ∨ (s.host.cfg.notice[a.1.index].priority = s.host.cfg.notice[b.1.index].priority ∧ a.1.index < b.1.index))
      ∧ (∀ k : NoticeKind, t.noticeOf k = none
          ∧ t.notices[k.index].count = if (s.noticeOf k).isSome then 0 else s.notices[k.index].count)
      ∧ t.noticeAsserted = false)

/-- READ BINS (04 R85), READ PATH (06 R118), READ SESSION (10 R175) and READ HISTORY (10 R173, from the most recent
voucher to the oldest): what stands, and nothing changes but the answer registers. The answer is structured data by
the model's choice (log 29). -/
def Obligations.RecordsAreRead : Prop :=
  ∀ s : State, s.awake →
    (∃ records, exec .readBins s = .next (s.answered (.done (.bins records))) ∧ records.length = 9
      ∧ ∀ b : BinNo, records[b.val]? = some
          { bin := b, capacity := if s.host.configured = true ∧ b ≠ 0 then some (s.capacityOf b) else none
            used := if b = 0 then none else s.bins[b].used, state := s.bins[b].state
            claimed := s.claimedCount b, full := s.full b })
    ∧ (∃ records,
      exec .readPath s = .next (s.answered
        (.done (.path s.path.tagCounter s.path.cleared s.path.givenUp records)))
      ∧ (let shown : Place → Option ScanRecord → Option ClaimLink → Option (Nat × Bool) → Container → PathRecord :=
          fun place scan link landing c =>
            { place := place, tag := c.tag, stage := c.stage, code := c.code
              article := c.article.map fun a => (a.deposit, a.material, a.bin)
              scan := scan, bin := c.bin, value := c.value, cleat := c.cleat, reject := c.reject
              holdWait := c.holdWait, link := link, landing := landing }
        records = s.path.entry.toList.map (shown .entryZone s.scan.record none none)
          ++ s.path.hold.head?.toList.map (fun c => shown .holdQueue none (some c.link) none c)
          ++ s.path.hold.tail.map (shown .holdQueue none none none)
          ++ s.path.transfer.toList.map (fun c => shown .transferSlot none none (some (c.landing, c.trust)) c)))
    ∧ exec .readSession s = .next (s.answered (.done (.session
        { state := s.session.state, lines := s.session.lines, total := s.session.total, count := s.session.count
          pending := s.session.pending, undecided := s.session.undecided, reason := s.session.reason
          number := s.session.number
          idleLeft := s.session.idleTimer.map fun n => s.host.cfg.idleTime * 1000 - n
          sequence := s.session.sequence, exhausted := s.session.sequence == Config.lastSequence })))
    ∧ exec .readHistory s = .next (s.answered (.done (.history s.session.history.reverse)))

/-- Requests turned away: BUSY during a host store access (08 R146), STATE before START (11 R177), and a bad or an empty
transaction (R176), which changes the answer registers alone. And the bytes of a transaction (R176): each transaction shifts
out the register, or REFUSED, BUSY during an access; its i-th byte is that of the framed answer, and 0x00 after the answer's
check; no byte is no request, fewer bytes than the length field and the check require are BAD REQUEST, LENGTH, and bytes after
the check are ignored. -/
def Obligations.RequestsTurnedAway : Prop :=
  ∀ (s : State),
    (∀ i, isTransaction i = true → s.storeBusy = true →
      exec i s = .next { s with host := { s.host with shifted := .refused .busy } })
    ∧ (∀ i, needsStart i = true → s.awake → s.host.started = false →
      exec i s = .next (s.answered (.refused .state)))
    ∧ (∀ r, s.storeBusy = false → exec (.badRequest r) s = .next (s.answered (.badRequest r)))
    ∧ (s.storeBusy = false → exec .emptyTransaction s = .next (s.answered .empty))
    ∧ (∀ i, isTransaction i = true → ∃ t, exec i s = .next t ∧ t.host.shifted = s.outgoing)
    ∧ (s.storeBusy = true → s.outgoing = .refused .busy) ∧ (s.storeBusy = false → s.outgoing = s.host.answer)
    ∧ (∀ received data, s.transaction received data =
        (transactionCommand received, shiftedBytes s.outgoing data received.length))
    ∧ (∀ (a : Answer) (data : List Byte) (n i : Nat), i < n → (shiftedBytes a data n).length = n
      ∧ (shiftedBytes a data n)[i]? = some ((answerBytes a data).getD i 0)
      ∧ (answerBytes a data).take 4 =
          [BitVec.ofNat 8 a.code, BitVec.ofNat 8 a.reason, BitVec.ofNat 8 (data.length / 256), BitVec.ofNat 8 data.length]
      ∧ ((answerBytes a data).drop 4).take data.length = data ∧ (answerBytes a data).length = data.length + 5
      ∧ (answerBytes a data)[data.length + 4]? = some (crc8 ((answerBytes a data).take (data.length + 4))))
    ∧ transactionCommand [] = .emptyTransaction
    ∧ (∀ bytes : List Byte, 1 ≤ bytes.length →
      bytes.length < 4 ∨ bytes.length < 4 + 256 * (bytes.getD 1 0).toNat + (bytes.getD 2 0).toNat →
      transactionCommand bytes = .badRequest .length)
    ∧ (∀ bytes more : List Byte, 4 ≤ bytes.length →
      4 + 256 * (bytes.getD 1 0).toNat + (bytes.getD 2 0).toNat ≤ bytes.length →
      transactionCommand (bytes ++ more) = transactionCommand bytes)

/-- SET CONFIGURATION (11 R179, R180): taken before START alone, it replaces the record by the values as taken, sets
the configured mark and the digest, and its answer lists each field whose value differs, with both values. In the first pass a
field outside its own range takes its default, and in the second the bounds between fields are settled in the order of R180;
the record as taken meets every bound, and one that meets them is taken as given. The first-pass ranges of fields that other
fields bound are the model's reading (log 40). -/
def Obligations.ConfigurationIsTaken : Prop :=
  ∀ (s : State) (c : Configuration), s.awake →
    (s.host.started = false → exec (.setConfiguration c) s = .next
      { s with
        host := { s.host with cfg := c.taken, configured := true, shifted := s.host.answer
                              answer := .done (.adjusted (c.adjusted c.taken)) }
        ownDigest := some (digestOf c.taken.capacity) })
    ∧ (s.host.started = true → exec (.setConfiguration c) s = .next (s.answered (.refused .state)))
    ∧ (∀ f v w, (f, v, w) ∈ c.adjusted c.taken ↔ (f, v) ∈ c.fields ∧ (f, w) ∈ c.taken.fields ∧ v ≠ w)
    ∧ c.taken.MeetsBounds ∧ (c.MeetsBounds → c.taken = c)
    ∧ firstPassSettles c c.taken
    ∧ (let clear := c.taken.clearDistance
      let scan := (within 0 5 0 c.scanFirst, within 0 5 5 c.scanLast)
      -- R180, step 1, on CommitLead and MinLead
      let step1 : Nat × Nat → Nat × Nat := fun l =>
        if l.2 < l.1 + 1 then (if 8 < l.1 + 1 then 3 else l.1, 8) else l
      let max1 := within 0 120 48 c.maxLead
      let lead1 := step1 (within 1 8 3 c.commitLead, within 0 60 8 c.minLead)
      let max2 := if max1 < lead1.2 then 48 else max1
      let lead2 := if max1 < lead1.2 ∧ 48 < lead1.2 then step1 (lead1.1, 8) else lead1
      let max3 := if 255 < max2 + clear then 255 - clear else max2
      let lead3 := if 255 < max2 + clear ∧ 255 - clear < lead2.2 then step1 (lead2.1, 8) else lead2
      c.taken.maxLead = max3 ∧ c.taken.commitLead = lead3.1 ∧ c.taken.minLead = lead3.2
      ∧ (∀ g : Fin 8, c.taken.gateDistance[g] = min (clear - 1) (within 1 199 (clear - 1) c.gateDistance[g]))
      ∧ (c.taken.scanFirst, c.taken.scanLast) = if scan.2 < scan.1 then (0, 5) else scan)

/-- START (11 R181, 05 R87): taken once configured and not started, the station leaves OFFLINE into LISTENING, WAITING HOME,
with the driver READY unless FAULTED and the code reader about to run; otherwise it is refused STATE. -/
def Obligations.StartListens : Prop :=
  ∀ s : State, s.awake →
    (s.host.configured = true → s.host.started = false → ∃ t, exec .start s = .next t
      ∧ t.host.started = true ∧ t.host.rest = .active ∧ t.host.answer = .done .none ∧ t.host.cfg = s.host.cfg
      ∧ t.member = .listening .waitingHome
      ∧ t.noticeOf .joinState = some (.joinState .listening s.member.state .start) ∧ s.sameNoticesBut [.joinState] t
      ∧ t.line.condition = .busy ∧ t.line.driver = (if s.line.driver = .faulted then .faulted else .ready)
      ∧ t.line.queue = s.line.queue ∧ t.reader.run = .settling ∧ t.scan.filtered = s.eyes.scan
      ∧ (s.pathEmpty = true → s.session.state = .idle → s.host.dozeTimer = none → s.host.offered = false →
          t.host.dozeTimer = some 0)
      ∧ t.belt = s.belt ∧ t.map = s.map ∧ t.bins = s.bins ∧ t.path = s.path ∧ t.session = s.session
      ∧ t.drives = s.drives ∧ t.article = s.article)
    ∧ (s.host.configured = false ∨ s.host.started = true → exec .start s = .next (s.answered (.refused .state)))

-- The session

/-- CLOSE SESSION (10 R169): refused NONE in IDLE, the close begun in OPEN and ended at once where nothing is waited for,
DONE in CLOSING, refused STATE in CLOSED. -/
def Obligations.SessionIsClosed : Prop :=
  ∀ s : State, s.host.started = true → s.storeBusy = false →
    (s.session.state = .idle → ∃ t, exec .closeSession s = .next t ∧ t.host.answer = .refused .none
      ∧ t.session.state = .idle ∧ (s.host.rest ≠ .doze → t = s.answered (.refused .none)))
    ∧ (s.host.rest ≠ .doze → s.session.state = .opened → ∃ t, exec .closeSession s = .next t
      ∧ t.host.answer = .done .none
      ∧ (¬(s.session.pending = 0 ∧ s.session.undecided = false) →
          t.session = { s.session with state := .closing, reason := some .customer, idleTimer := none }
          ∧ t.notices = s.notices)
      ∧ (s.session.pending = 0 → s.session.undecided = false → 1 ≤ s.session.count →
          t.session = { s.session with
            state := .closed, reason := some .customer, idleTimer := none
            number := some (s.host.cfg.stationNumber * 1048576 + s.session.sequence)
            sequence := s.session.sequence + 1 }
          ∧ t.noticeOf .sessionClosed = some (.sessionClosed
              (s.host.cfg.stationNumber * 1048576 + s.session.sequence) .customer s.session.total s.session.count
              s.session.lines.length)
          ∧ (s.session.sequence + 1 = Config.lastSequence → t.noticeOf .vouchersExhausted =
              some (.vouchersExhausted (s.host.cfg.stationNumber * 1048576 + s.session.sequence)))
          ∧ s.sameNoticesBut [.sessionClosed, .vouchersExhausted] t)
      ∧ (s.session.pending = 0 → s.session.undecided = false → s.session.count = 0 →
          t.session = { s.session with
            state := .idle, lines := [], total := 0, reason := none, number := none, idleTimer := none }
          ∧ t.notices = s.notices)
      ∧ t.path = s.path ∧ t.drives = s.drives ∧ t.line = s.line ∧ t.bins = s.bins ∧ t.map = s.map)
    ∧ (s.host.rest ≠ .doze → s.session.state = .closing →
        exec .closeSession s = .next (s.answered (.done .none)))
    ∧ (s.host.rest ≠ .doze → s.session.state = .closed →
        exec .closeSession s = .next (s.answered (.refused .state)))

/-- TAKE VOUCHER (10 R172, R173) answers with the voucher of a CLOSED session, which joins the history, a full one losing its
oldest entry, and sets the session IDLE; and the idle timer (R168) begins the close of an OPEN session with reason IDLE. -/
def Obligations.VoucherIsTaken : Prop :=
  ∀ (s : State) (n : Nat) (r : CloseReason),
    (s.host.started = true → s.awake → s.session.state = .closed → s.session.number = some n →
      s.session.reason = some r → ∃ t, exec .takeVoucher s = .next t
      ∧ t.host.answer = .done (.voucher n r s.session.total s.session.count s.session.lines)
      ∧ t.session.history = (if s.session.history.length < 8 then s.session.history else s.session.history.drop 1)
          ++ [{ number := n, total := s.session.total, count := s.session.count, reason := r }]
      ∧ t.session.state = .idle ∧ t.session.lines = [] ∧ t.session.total = 0 ∧ t.session.count = 0
      ∧ t.session.reason = none ∧ t.session.number = none ∧ t.session.sequence = s.session.sequence)
    ∧ (s.host.started = true → s.awake → s.session.state ≠ .closed →
      exec .takeVoucher s = .next (s.answered (.refused .state)))
    ∧ (s.session.idleTimer.isSome = true → s.session.state = .opened →
      ∃ t, exec .idleTimerExpired s = .next t ∧ t.session.idleTimer = none
      ∧ (¬(s.session.pending = 0 ∧ s.session.undecided = false) →
          t.session = { s.session with state := .closing, reason := some .idle, idleTimer := none })
      ∧ (s.session.pending = 0 → s.session.undecided = false → 1 ≤ s.session.count →
          t.session.state = .closed ∧ t.session.reason = some .idle
          ∧ t.session.number = some (s.host.cfg.stationNumber * 1048576 + s.session.sequence)
          ∧ t.session.sequence = s.session.sequence + 1 ∧ t.session.total = s.session.total)
      ∧ t.path = s.path ∧ t.line = s.line ∧ t.drives = s.drives)

-- Articles

/-- ARTICLE ANSWER (08 R148), the first case that applies deciding, and QueryTime's expiry (R147): the query ends, and
its record or none is what the full decision is made on. Where the kind and option bytes are tested is the model's
reading (log 30). -/
def Obligations.QueryIsAnswered : Prop :=
  ∀ (s : State) (code kind option : Nat) (record : EntryBytes) (p : Code) (tag : Tag),
    (s.host.started = true → s.awake →
      ((∀ q u, s.article.lookup ≠ .querying q u) →
        exec (.articleAnswer code kind record option) s = .next (s.answered (.refused .none)))
      ∧ (s.article.lookup = .querying p tag → code ≠ p.toNat →
        exec (.articleAnswer code kind record option) s = .next (s.answered (.refused .none)))
      ∧ (s.article.lookup = .querying p tag → code = p.toNat → kind = 0 → option ≤ 1 →
        (entryCode record ≠ p ∨ malformedField record ≠ none) →
        exec (.articleAnswer code kind record option) s = .next (s.answered (.refused .range)))
      ∧ (s.article.lookup = .querying p tag → code = p.toNat → kind = 1 → option ≤ 1 →
        exec (.articleAnswer code kind record option) s = .next
          (({ s.answered .empty with
              article := { s.article with lookup := .idle, queryTimer := none } }.fullDecision none).setAnswer
            (.done .none)))
      ∧ (∀ a, s.article.lookup = .querying p tag → code = p.toNat → kind = 0 → entryCode record = p →
        readEntry record = .ok a →
        (option = 0 → exec (.articleAnswer code kind record option) s = .next
          (({ s.answered .empty with
              article := { s.article with lookup := .idle, queryTimer := none } }.fullDecision (some a)).setAnswer
            (.done .none)))
        ∧ (option = 1 → exec (.articleAnswer code kind record option) s = .next
          (({ s.answered .empty with
              article := { s.article.fill a with lookup := .idle, queryTimer := none } }.fullDecision
            (some a)).setAnswer (.done .none)))))
    ∧ (s.article.lookup = .querying p tag → s.article.queryTimer.isSome = true →
      exec .queryTimeExpired s = .next
        ({ s with article := { s.article with lookup := .idle, queryTimer := none } }.fullDecision none))

/-- The full decision (06 R108): the checks in order, and the first that fails names the reject reason; a record that passes
every check is accepted for the article. An article that was found stays with the record in either case (R101). -/
def Obligations.FullDecisionOrder : Prop :=
  ∀ (s : State) (c : Container) (answer : Option Article), s.path.entry = some c → c.stage = .classifying →
    let checks : List (RejectReason × Prop) :=
      [(.noCode, c.code = none),
       (.mixed, c.secondCode = true),
       (.doubleEntry, ∃ r, s.scan.record = some r ∧ r.overrun = true),
       (.unknown, answer = none),
       (.noDeposit, ∃ a, answer = some a ∧ a.deposit = 0),
       (.profile, ∃ a r, answer = some a ∧ s.scan.record = some r ∧
          ((∃ w, r.weight = some w ∧ ¬(a.weightMin ≤ w ∧ w ≤ a.weightMax))
            ∨ (∃ n, r.bars = some n ∧ n ≠ a.heightClass) ∨ (∃ m, r.metal = some m ∧ m ≠ a.flags.getLsbD 0))),
       (.sessionFull, ∃ code, c.code = some code ∧ code ∉ s.prospectiveCodes ∧ 24 ≤ s.prospectiveCodes.length),
       (.limit, ∃ a code, answer = some a ∧ c.code = some code ∧
          (500000 < s.session.total + (s.accepted.filterMap Container.value).sum + a.deposit
            ∨ 999 < ((s.session.lines.filter fun l => l.code == code).map TallyLine.count).sum
                + (s.accepted.filterMap Container.code).count code + 1)),
       (.binHeld, ∃ a, answer = some a ∧ a.bin ≠ 0 ∧ s.bins[a.bin].state ≠ .opened),
       (.binUnknown, ∃ a, answer = some a ∧ a.bin ≠ 0 ∧ s.bins[a.bin].used = none),
       (.binFull, ∃ a u, answer = some a ∧ a.bin ≠ 0 ∧ s.bins[a.bin].used = some u ∧
          s.capacityOf a.bin < u + s.claimedCount a.bin
            + ((s.path.hold ++ s.path.transfer.toList).filter fun h =>
                h.bin == some a.bin && !(h.cleat.any fun x => s.entryAt x == .claimed s.station a.bin)).length + 1)]
    (∀ pre r p post, checks = pre ++ (r, p) :: post → (∀ q ∈ pre, ¬q.2) → p →
      s.fullDecision answer = s.reject { c with article := answer } r)
    ∧ ((∀ q ∈ checks, ¬q.2) → ∃ a, answer = some a ∧ s.fullDecision answer = s.accept { c with article := answer } a)
    ∧ (∀ code, code ∈ s.prospectiveCodes ↔
        (∃ l ∈ s.session.lines, l.code = code) ∨ ∃ h ∈ s.accepted, h.code = some code)
    ∧ ((s.session.lines.map TallyLine.code).Nodup → s.prospectiveCodes.Nodup)

/-- What a decision does (06 R107, R109, R110, 10 R165): an accepted record waits for the hold queue with bin and
value fixed, pending one more; a rejected one is returned by ENTRY in reverse; both consume the scan record. That
OFFERED may be reached at once, and that the direction is set at the request whatever the channel's state, CUT among them, are
the model's reading (log 16, log 37). -/
def Obligations.DecisionTakesEffect : Prop :=
  ∀ (s : State) (c : Container) (a : Article) (r : RejectReason), s.path.entry = some c → s.entryRuns →
    (s.path.hold.length < 4 →
      (s.accept c a).path.entry =
        some { c with stage := .waitingHold, article := some a, bin := some a.bin, value := some a.deposit }
      ∧ (s.accept c a).path.entryTimer = some 0 ∧ ((s.accept c a).channel .entry).standing = true
      ∧ ((s.accept c a).channel .entry).direction = .forward)
    ∧ (4 ≤ s.path.hold.length → (s.accept c a).path.entryTimer = none
        ∧ (s.accept c a).channel .entry = s.channel .entry)
    ∧ (s.session.state = .idle → (s.accept c a).session = { s.session with
        state := .opened, lines := [], total := 0, count := 0, pending := 1, idleTimer := some 0
        undecided := false })
    ∧ (s.session.state = .opened ∨ s.session.state = .closing → (s.accept c a).session =
        { s.session with pending := s.session.pending + 1, undecided := false })
    ∧ (s.accept c a).scan.record = none ∧ (s.accept c a).path.hold = s.path.hold
    ∧ (s.accept c a).path.transfer = s.path.transfer ∧ (s.accept c a).notices = s.notices
    ∧ (s.reject c r).path.entry = some { c with
        stage := .returning (if s.scan.filtered = false ∧ s.eyes.aperture = true then .offered else .backing)
        reject := some r }
    ∧ (s.scan.filtered = true ∨ s.eyes.aperture = false → (s.reject c r).path.entryTimer = some 0
        ∧ ((s.reject c r).channel .entry).standing = true ∧ ((s.reject c r).channel .entry).direction = .reverse)
    ∧ (s.reject c r).scan.record = none ∧ (s.reject c r).session.undecided = false
    ∧ (s.reject c r).path.hold = s.path.hold ∧ (s.reject c r).session.pending = s.session.pending

-- The path

/-- The aperture eye (06 R103, R110, 10 R168, R171, 11 R186, R188): a container that may be taken starts a record, one that
may not is left, Deep Rest and Doze end, a BACKING record is OFFERED where the scan eye is clear, and an OFFERED record is
RETURNED when the eye becomes clear. The number in a repeated VOUCHERS EXHAUSTED, and that an event which finds the eye as
it is changes nothing, are the model's reading (log 24, log 3). -/
def Obligations.ApertureEye : Prop :=
  ∀ s : State,
    (s.eyes.aperture = false → ∃ t, exec .apertureBlocked s = .next t
      ∧ t.eyes = { s.eyes with aperture := true } ∧ t.host.rest = .active
      ∧ (s.session.state = .opened → s.host.rest ≠ .deepRest → t.session.idleTimer = some 0)
      ∧ (s.readyToTake → s.host.rest ≠ .deepRest →
          t.path = { s.path with
            entry := some (.entering s.path.tagCounter), tagCounter := s.path.tagCounter + 1, entryTimer := some 0 }
          ∧ t.session.undecided = true ∧ (t.channel .entry).state = .running ∧ (t.channel .entry).standing = true
          ∧ (t.channel .entry).direction = .forward ∧ t.host.dozeTimer = none ∧ t.host.offered = false)
      ∧ (s.host.rest ≠ .deepRest → s.path.entry = none →
          (s.member ≠ .synced ∨ s.session.state = .closing ∨ s.session.state = .closed
            ∨ (s.session.state = .idle ∧ s.session.sequence = Config.lastSequence)
            ∨ ∃ c, s.path.transfer = some c ∧ c.stage = .stuck) → t.path = s.path ∧ t.drives = s.drives)
      ∧ (∀ c, s.host.rest = .active → s.path.entry = some c → c.stage = .returning .backing →
          (s.scan.filtered = false → t.path = { s.path with
              entry := some { c with stage := .returning .offered }, entryTimer := none }
            ∧ (t.channel .entry).standing = false ∧ (t.channel .entry).state.driven = false)
          ∧ (s.scan.filtered = true → t.path = s.path ∧ t.drives = s.drives))
      ∧ (s.session.state = .idle → s.session.sequence = Config.lastSequence → t.noticeOf .vouchersExhausted =
          some (.vouchersExhausted (s.host.cfg.stationNumber * 1048576 + (s.session.sequence - 1))))
      ∧ (s.host.rest = .doze → t.reader.run = if s.member = .offline then .stopped else .settling)
      ∧ (s.host.rest = .deepRest → t.member = .listening .waitingHome ∧ t.scan.program = .watching
          ∧ t.noticeOf .joinState = some (.joinState .listening s.member.state .aperture) ∧ t.path = s.path
          ∧ (s.host.cfg.wakePeers = 1 → s.line.driver ≠ .faulted → t.line.wake = .waiting)
          ∧ (s.host.cfg.wakePeers = 0 → t.line.wake = s.line.wake)))
    ∧ (s.eyes.aperture = true → ∃ t, exec .apertureClear s = .next t
      ∧ t.eyes = { s.eyes with aperture := false }
      ∧ (s.session.state = .opened → t.session.idleTimer = some 0)
      ∧ (∀ c, s.path.entry = some c → c.stage = .returning .offered →
          t.path.entry = none ∧ t.path.hold = s.path.hold ∧ t.path.transfer = s.path.transfer
          ∧ t.noticeOf .containerDone = some (.containerDone c.tag (.returned c.reject c.code)))
      ∧ ((∀ c, s.path.entry = some c → c.stage ≠ .returning .offered) →
          t.path = s.path ∧ t.drives = s.drives ∧ t.notices = s.notices))
    ∧ (s.eyes.aperture = true → exec .apertureBlocked s = .next s)
    ∧ (s.eyes.aperture = false → exec .apertureClear s = .next s)

/-- The scan eye as the filter passes it on (07 R124, R125, 06 R104, R106, R109): a blocking is passed on at once, one within
the gap time is a trigger, a clearing is passed on at the end of the gap time, and an OFFLINE station does not filter. A
blocking passed on takes an ENTERING record to SCANNING, and a clearing passed on pulls back, hands over to the hold queue,
whatever the aperture eye reads, or makes a BACKING record OFFERED where the aperture eye is blocked (06 R110); a pull-back
withdraws the lookup, so that a walk runs to its end withdrawn (08 R150). That OFFERED is reached at once, and that the end of
a gap time that does not run changes nothing, are the model's reading (log 16, log 3). -/
def Obligations.ScanEye : Prop :=
  ∀ (s : State) (n : Nat),
    (s.eyes.scan = false → s.online = true → s.scan.gap = none → s.scan.filtered = false →
      (∀ c, s.path.entry = some c → c.stage ≠ .entering) → exec .scanEyeBlocked s = .next
        { s with eyes := { s.eyes with scan := true }, scan := { s.scan with filtered := true } })
    ∧ (∀ c, s.eyes.scan = false → s.online = true → s.scan.gap = none → s.scan.filtered = false →
      s.path.entry = some c → c.stage = .entering → ∃ t, exec .scanEyeBlocked s = .next t
      ∧ t.path = { s.path with
          entry := some { c with stage := .scanning }, entryTimer := none, window := true, readTimer := some 0 }
      ∧ t.scan.filtered = true ∧ (t.channel .entry).standing = false
      ∧ (s.scan.program = .watching → s.scan.record = none →
          t.scan.program = .scanning ∧ t.scan.overrunPending = false))
    ∧ (s.eyes.scan = false → s.online = true → s.scan.gap = some n → ∃ t, exec .scanEyeBlocked s = .next t
      ∧ t.eyes = { s.eyes with scan := true } ∧ t.path = s.path ∧ t.drives = s.drives
      ∧ (s.scan.program = .scanning → t.scan = { s.scan with gap := none, overrunPending := true })
      ∧ (∀ r, s.scan.program ≠ .scanning → s.scan.record = some r →
          t.scan = { s.scan with gap := none, record := some { r with overrun := true } })
      ∧ (s.scan.program ≠ .scanning → s.scan.record = none → t.scan = { s.scan with gap := none }))
    ∧ (s.eyes.scan = true → s.online = true → s.scan.filtered = true → exec .scanEyeCleared s = .next
        { s with eyes := { s.eyes with scan := false }, scan := { s.scan with gap := some 0 } })
    ∧ (s.member = .offline →
      exec .scanEyeBlocked s = .next { s with eyes := { s.eyes with scan := true } }
      ∧ exec .scanEyeCleared s = .next { s with eyes := { s.eyes with scan := false } })
    ∧ (s.scan.gap = some n → ∃ t, exec .scanGapExpired s = .next t
      ∧ t.eyes = s.eyes ∧ t.scan.filtered = false ∧ t.scan.gap = none
      ∧ (s.path.entry = none → s.eyes.aperture = false →
          t.scan = { s.scan with gap := none, filtered := false } ∧ t.path = s.path ∧ t.drives = s.drives
          ∧ t.article = s.article ∧ t.session = s.session ∧ t.notices = s.notices)
      ∧ (∀ c, s.path.entry = some c → c.stage = .scanning ∨ c.stage = .classifying →
          (∀ w, s.article.lookup = .walking w → t.article.lookup = .walking { w with withdrawn := true })
          ∧ (∀ q u, s.article.lookup = .querying q u → t.article.lookup = .idle)
          ∧ t.article.waiting = none ∧ t.path.window = false ∧ t.scan.record = none ∧ t.path.hold = s.path.hold))
    ∧ (∀ c, s.scan.gap = some n → s.eyes.aperture = false → s.path.entry = some c →
      c.stage = .scanning ∨ c.stage = .classifying →
      ∃ t, exec .scanGapExpired s = .next t ∧ t.path.entry = none)
    ∧ (∀ c, s.scan.gap = some n → s.eyes.aperture = true → s.entryRuns → s.path.entry = some c →
      c.stage = .scanning ∨ c.stage = .classifying → ∃ t, exec .scanGapExpired s = .next t
      ∧ t.path.entry = some { c with stage := .returning .offered, reject := some .doubleEntry })
    ∧ (∀ c, s.scan.gap = some n → s.path.entry = some c → c.stage = .waitingHold →
      s.path.entryTimer.isSome = true → ∃ t, exec .scanGapExpired s = .next t
      ∧ t.path.hold = s.path.hold ++ [{ c with stage := .claiming, link := .none, holdWait := some 0 }]
      ∧ (t.channel .hold).standing = !s.eyes.transfer
      ∧ (s.eyes.aperture = false ∨ s.member ≠ .synced ∨ s.host.rest ≠ .active ∨ s.session.state = .closing
          ∨ s.session.state = .closed → t.path.entry = none ∧ (t.channel .entry).standing = false)
      -- a container at the aperture is taken at once (R103)
      ∧ (s.eyes.aperture = true → s.member = .synced → s.host.rest = .active → s.session.state = .opened →
          (∀ d, s.path.transfer = some d → d.stage ≠ .stuck) → s.entryRuns →
          t.path.entry = some (.entering s.path.tagCounter) ∧ t.path.tagCounter = s.path.tagCounter + 1
          ∧ t.path.entryTimer = some 0))
    ∧ (∀ c, s.scan.gap = some n → s.path.entry = some c → c.stage = .returning .backing →
      ∃ t, exec .scanGapExpired s = .next t
      ∧ (s.eyes.aperture = true → t.path = { s.path with
            entry := some { c with stage := .returning .offered }, entryTimer := none }
          ∧ (t.channel .entry).standing = false ∧ (t.channel .entry).state.driven = false)
      ∧ (s.eyes.aperture = false → t.path = s.path ∧ t.drives = s.drives))
    ∧ (s.scan.gap = none → exec .scanGapExpired s = .next s)

/-- The transfer eye moves HOLD and sets the cleared-since-firing mark (06 R111); EntryTime and ReadTime (R104, R105, R109,
R110) discard, jam, return or close the code window. -/
def Obligations.TransferEyeAndPathTimers : Prop :=
  ∀ s : State,
    (s.eyes.transfer = false → ∃ t, exec .transferEyeBlocked s = .next t
      ∧ t.eyes = { s.eyes with transfer := true } ∧ t.path = s.path ∧ (t.channel .hold).standing = false
      ∧ ∀ d, d ≠ .hold → t.channel d = s.channel d)
    ∧ (s.eyes.transfer = true → ∃ t, exec .transferEyeClear s = .next t
      ∧ t.eyes = { s.eyes with transfer := false } ∧ t.path = { s.path with cleared := true }
      ∧ (t.channel .hold).standing = !s.path.hold.isEmpty ∧ ∀ d, d ≠ .hold → t.channel d = s.channel d)
    ∧ (∀ (c : Container) (n : Nat), s.path.entryTimer = some n → s.path.entry = some c →
      ∃ t, exec .entryTimeExpired s = .next t ∧ t.path.hold = s.path.hold
      ∧ (c.stage = .entering → s.eyes.aperture = false → t.path.entry = none ∧ t.session.undecided = false
          ∧ (t.channel .entry).standing = false ∧ s.sameNoticesBut [.sessionClosed, .vouchersExhausted] t)
      ∧ (c.stage = .entering → s.eyes.aperture = true → t.path.entry = some { c with stage := .stuck }
          ∧ t.noticeOf .jam = some (.jam c.tag .entryZone .entryTimeout .entering none)
          ∧ t.session.undecided = false ∧ (t.channel .entry).standing = false)
      ∧ (c.stage = .waitingHold → t.path.entry = some { c with stage := .stuck }
          ∧ t.noticeOf .jam = some (.jam c.tag .entryZone .handoverTimeout .waitingHold none)
          ∧ (s.session.state = .opened → t.session = { s.session with pending := s.session.pending - 1 }))
      ∧ (c.stage = .returning .backing → s.scan.filtered = true → t.path.entry = some { c with stage := .stuck }
          ∧ t.noticeOf .jam = some (.jam c.tag .entryZone .returnTimeout (.returning .backing) none))
      ∧ (c.stage = .returning .backing → s.scan.filtered = false → s.eyes.aperture = false → t.path.entry = none
          ∧ t.noticeOf .containerDone = some (.containerDone c.tag (.returned c.reject c.code))))
    ∧ (∀ (c : Container) (n : Nat), s.path.readTimer = some n → s.path.entry = some c → c.stage = .scanning →
      (s.scan.record = none → exec .readTimeExpired s = .next
        { s with path := { s.path with window := false, readTimer := none } })
      ∧ (s.scan.record.isSome = true → c.code = none → s.entryRuns →
        ∃ t r, exec .readTimeExpired s = .next t ∧ t.path.entry = some r ∧ r.tag = c.tag
          ∧ r.reject = some .noCode ∧ t.path.window = false ∧ t.scan.record = none))

-- The Scan Unit

/-- A Container Scan completes (07 R119, R121, R122): averages rounded down, the weight four times channel 0's, the shadowed
bars of channels 1 to 4, metal from channel 5. With a code read, the window closes and the article is sought (06 R105): a hit
in the cache is an access of its way and is decided on at once, a miss asks for a walk (08 R137, R139), and a walk that has
been withdrawn is waited for (R150). With the window closed, by a code or by ReadTime before, the first test that fails rejects
the record: NO CODE, MIXED, DOUBLE ENTRY (06 R107). -/
def Obligations.ScanRecordIsBuilt : Prop :=
  ∀ (s : State) (rounds : Vector (Vector Sample 6) 4), s.scan.program = .scanning →
    let avg : Fin 6 → Nat := fun n =>
      (rounds[0][n].toNat + rounds[1][n].toNat + rounds[2][n].toNat + rounds[3][n].toNat) / 4
    let record : ScanRecord :=
      { averages := ((List.finRange 6).filter fun n =>
          decide (s.host.cfg.scanFirst ≤ n.val ∧ n.val ≤ s.host.cfg.scanLast)).map fun n => (n.val, avg n)
        weight := if s.host.cfg.scanFirst = 0 then some (avg 0 * 4) else none
        bars := if s.host.cfg.scanFirst ≤ 1 ∧ 4 ≤ s.host.cfg.scanLast then
            some (([1, 2, 3, 4] : List (Fin 6)).countP fun n => decide (avg n < s.host.cfg.shadowThreshold))
          else none
        metal := if s.host.cfg.scanFirst ≤ 5 ∧ 5 ≤ s.host.cfg.scanLast then
            some (decide (s.host.cfg.metalThreshold ≤ avg 5)) else none
        overrun := s.scan.overrunPending }
    ((∀ c, s.path.entry = some c → c.stage = .scanning → c.code = none ∧ s.path.window = true) →
      exec (.containerScanComplete rounds) s = .next { s with scan :=
        { s.scan with program := .watching, overrunPending := false, record := some record } })
    ∧ (∀ c code, s.path.entry = some c → c.stage = .scanning → c.code = some code → c.secondCode = false →
      s.scan.overrunPending = false → s.article.lookup = .idle →
      (∀ (w : Fin 4) a, (s.article.cache[cacheSetOf code]).ways[w] = some a → a.code ≠ code) →
      ∃ t w, exec (.containerScanComplete rounds) s = .next t
        ∧ t.path = { s.path with
            entry := some { c with stage := .classifying }, window := false, readTimer := none }
        ∧ t.scan.record = some record ∧ t.article.lookup = .walking w ∧ w.code = code ∧ w.tag = c.tag
        ∧ w.revoked = false ∧ w.withdrawn = false
        ∧ (w.phase = if s.article.accessRunning = true then .waitingPort else .primary)
        ∧ t.session = s.session ∧ t.notices = s.notices ∧ t.drives = s.drives)
    ∧ (∀ c, s.path.entry = some c → c.stage = .scanning → c.code ≠ none ∨ s.path.window = false →
      let classifying : Container := { c with stage := .classifying }
      let built : State := { s with
        scan := { s.scan with program := .watching, overrunPending := false, record := some record }
        path := { s.path with entry := some classifying, window := false, readTimer := none } }
      (c.code = none →
        exec (.containerScanComplete rounds) s = .next (built.reject classifying .noCode))
      ∧ (c.code ≠ none → c.secondCode = true →
        exec (.containerScanComplete rounds) s = .next (built.reject classifying .mixed))
      ∧ (c.code ≠ none → c.secondCode = false → s.scan.overrunPending = true →
        exec (.containerScanComplete rounds) s = .next (built.reject classifying .doubleEntry)))
    ∧ (∀ c code, s.path.entry = some c → c.stage = .scanning → c.code = some code → c.secondCode = false →
      s.scan.overrunPending = false →
      let seeking : State := { s with
        scan := { s.scan with program := .watching, overrunPending := false, record := some record }
        path := { s.path with entry := some { c with stage := .classifying }, window := false, readTimer := none } }
      (s.article.lookup = .idle → ∃ t, exec (.containerScanComplete rounds) s = .next t
        ∧ seeking.looksUp code c.tag t)
      ∧ (s.article.lookup ≠ .idle → exec (.containerScanComplete rounds) s = .next { seeking with
          article := { s.article with waiting := some (code, c.tag) } }))

/-- A watch result (07 R126 to R129, 09 R162): the reference is good from 480 to 544, a bad one is judged as a supply below
531, the condition follows the table, SUPPLY is raised with REFERENCE before CUTOFF, and CUTOFF makes the channels CUT; a gate
that this stops has been missed by its cleat (01 R20). A recovery ends the cut unless the heat stage keeps it: a CUT channel
goes on cooling off, runs for its standing request, or is OFF (09 R162). That a result outside WATCHING changes nothing, that
the gates of a station without sort duty are CUT too, and the mark from which a miss is reported (05 R89), are the model's
reading (log 3, log 42, log 54). -/
def Obligations.SupplyIsJudged : Prop :=
  ∀ (s : State) (supply reference : Vector Sample 4),
    let su := (supply[0].toNat + supply[1].toNat + supply[2].toNat + supply[3].toNat) / 4
    let re := (reference[0].toNat + reference[1].toNat + reference[2].toNat + reference[3].toNat) / 4
    let good := 480 ≤ re ∧ re ≤ 544
    (s.scan.program = .watching → ∃ t, exec (.watchResult supply reference) s = .next t
      ∧ t.scan.lastSupply = some su ∧ t.scan.lastReference = some re
      ∧ (good → t.scan.reference = .good) ∧ (¬good → t.scan.reference = .bad)
      ∧ (¬good → t.scan.supply = .cutoff)
      ∧ (good → 656 ≤ su → t.scan.supply = .normal)
      ∧ (good → 625 ≤ su → su < 656 → t.scan.supply = s.scan.supply)
      ∧ (good → 531 ≤ su → su < 625 → t.scan.supply = if s.scan.supply = .cutoff then .cutoff else .low)
      ∧ (good → su < 531 → t.scan.supply = .cutoff)
      ∧ (s.scan.supply = .normal → t.scan.supply = .low →
          t.noticeOf .supply = some (.supply .low .normal .low su re))
      ∧ (s.scan.supply ≠ .cutoff → t.scan.supply = .cutoff →
          t.noticeOf .supply = some (.supply .cutoff s.scan.supply .cutoff su re)
          ∧ (s.scan.reference = .good → ¬good →
              t.notices[NoticeKind.supply.index].count = min 255 (s.notices[NoticeKind.supply.index].count + 2)))
      ∧ (s.scan.supply = .cutoff → t.scan.supply = .normal →
          t.noticeOf .supply = some (.supply .recovered .cutoff .normal su re))
      ∧ (s.scan.reference = .good → ¬good → s.scan.supply = .cutoff →
          t.noticeOf .supply = some (.supply .reference .cutoff .cutoff su re))
      ∧ (s.scan.supply = .low → t.scan.supply = .normal →
          t.notices[NoticeKind.supply.index] = s.notices[NoticeKind.supply.index])
      ∧ (s.cutCondition = false → t.scan.supply = .cutoff → ∀ c,
          (t.channel c).state = (if (s.channel c).state = .faulted then .faulted else .cut)
          ∧ (t.channel c).retry = (s.channel c).retry ∧ (t.channel c).coolOff = (s.channel c).coolOff)
      ∧ (s.cutCondition = false → t.scan.supply = .cutoff → s.gatesMissed t)
      ∧ (s.cutCondition = true → s.heat ≠ .hot → t.scan.supply ≠ .cutoff → ∀ c,
          (t.channel c).state = (if (s.channel c).state ≠ .cut then (s.channel c).state
            else if (s.channel c).coolOff.isSome = true then .coolOff
            else if (s.channel c).standing = true then .running else .off)
          ∧ (t.channel c).retry = (s.channel c).retry ∧ (t.channel c).coolOff = (s.channel c).coolOff)
      ∧ (s.heat = .hot ∨ (s.scan.supply = .cutoff ↔ t.scan.supply = .cutoff) →
          ∀ c, (t.channel c).state = (s.channel c).state)
      ∧ (s.cutCondition = true ∨ t.scan.supply ≠ .cutoff → t.gates = s.gates ∧ t.line = s.line)
      ∧ t.scan.record = s.scan.record ∧ t.belt = s.belt ∧ t.map = s.map ∧ t.bins = s.bins ∧ t.member = s.member)
    ∧ (s.scan.program ≠ .watching → exec (.watchResult supply reference) s = .next s)

/-- The code reader (07 R130 to R132, 06 R105): the receiver runs after the mark level, assembles the digits of a message,
keeps its first error, and hands a good code on while the window is open: the first one after the Container Scan has completed
closes the window, and the record is classified (06 R105, R107). And the bits of a character on its input (R130): the receiver
waits for ten bit periods of mark level, takes the next falling edge as a start bit and each bit in the middle of its bit
period, the least significant data bit first, at 9600 or 38400 baud, and after a framing error waits for the mark level. The
position of an error at the seventeenth character is free (log 6); the grid of samples is the model's choice (log 57). -/
def Obligations.CodesAreRead : Prop :=
  ∀ (s : State) (data : Byte) (parity stop : Bool) (ds : List Byte) (e : ReaderError) (p : Nat),
    (s.reader.run = .settling → exec .readerMarkLevelReached s = .next
      { s with reader := { run := .running, assembly := .idle } })
    ∧ (s.reader.run ≠ .running → exec (.codeReaderCharacter data parity stop) s = .next s)
    ∧ (s.reader.run = .running → goodCharacter data parity stop →
      (data = 0x0A#8 → s.reader.assembly = .idle →
        exec (.codeReaderCharacter data parity stop) s = .next s)
      ∧ (¬(0x30 ≤ data.toNat ∧ data.toNat ≤ 0x39) → data ≠ 0x0A#8 → data ≠ 0x0D#8 →
        s.reader.assembly = .idle → exec (.codeReaderCharacter data parity stop) s = .next
          { s with reader := { s.reader with assembly := .discarding .nonDigit 1 } })
      ∧ (0x30 ≤ data.toNat → data.toNat ≤ 0x39 → s.reader.assembly = .idle →
        exec (.codeReaderCharacter data parity stop) s = .next
          { s with reader := { s.reader with assembly := .collecting [data] } })
      ∧ (0x30 ≤ data.toNat → data.toNat ≤ 0x39 → s.reader.assembly = .collecting ds → ds.length < 16 →
        exec (.codeReaderCharacter data parity stop) s = .next
          { s with reader := { s.reader with assembly := .collecting (ds ++ [data]) } })
      ∧ (0x30 ≤ data.toNat → data.toNat ≤ 0x39 → s.reader.assembly = .collecting ds → ¬ds.length < 16 →
        ∃ q, exec (.codeReaderCharacter data parity stop) s = .next
          { s with reader := { s.reader with assembly := .discarding .overrun q }, draws := s.draws + 1 })
      ∧ (¬(0x30 ≤ data.toNat ∧ data.toNat ≤ 0x39) → data ≠ 0x0D#8 → s.reader.assembly = .collecting ds →
        (ds.length < 16 → exec (.codeReaderCharacter data parity stop) s = .next
          { s with reader := { s.reader with assembly := .discarding .nonDigit (ds.length + 1) } })
        ∧ (¬ds.length < 16 → ∃ q, exec (.codeReaderCharacter data parity stop) s = .next
          { s with reader := { s.reader with assembly := .discarding .nonDigit q }, draws := s.draws + 1 }))
      ∧ (data ≠ 0x0D#8 → s.reader.assembly = .discarding e p →
        exec (.codeReaderCharacter data parity stop) s = .next s))
    ∧ (s.reader.run = .running → ¬goodCharacter data parity stop → s.reader.assembly = .idle →
      exec (.codeReaderCharacter data parity stop) s = .next { s with reader := { s.reader with
        assembly := .discarding (if stop = false then .framing else .parity) 1 } })
    ∧ (s.reader.run = .running → ¬goodCharacter data parity stop → s.reader.assembly = .discarding e p →
      exec (.codeReaderCharacter data parity stop) s = .next s)
    ∧ (s.reader.run = .running → ¬goodCharacter data parity stop → s.reader.assembly = .collecting ds →
      (ds.length < 16 → exec (.codeReaderCharacter data parity stop) s = .next { s with reader := { s.reader with
        assembly := .discarding (if stop = false then .framing else .parity) (ds.length + 1) } })
      ∧ (¬ds.length < 16 → ∃ q, exec (.codeReaderCharacter data parity stop) s = .next { s with
        reader := { s.reader with assembly := .discarding (if stop = false then .framing else .parity) q }
        draws := s.draws + 1 }))
    ∧ (s.reader.run = .running → goodCharacter 0x0D#8 parity stop → s.path.entry = none →
      exec (.codeReaderCharacter 0x0D#8 parity stop) s = .next
        { s with reader := { s.reader with assembly := .idle } })
    ∧ (∀ c, s.reader.run = .running → goodCharacter 0x0D#8 parity stop → s.path.entry = some c →
      let ended : State := { s with reader := { s.reader with assembly := .idle } }
      let value := ds.foldl (fun n d => 10 * n + (d.toNat - 0x30)) 0
      (s.path.window = false → exec (.codeReaderCharacter 0x0D#8 parity stop) s = .next ended)
      ∧ (s.path.window = true →
        (s.reader.assembly = .idle → exec (.codeReaderCharacter 0x0D#8 parity stop) s = .next
          (ended.raise (.readerFault .length 0 c.tag)))
        ∧ (s.reader.assembly = .discarding e p → exec (.codeReaderCharacter 0x0D#8 parity stop) s = .next
          (ended.raise (.readerFault e p c.tag)))
        ∧ (s.reader.assembly = .collecting ds → ds.length < 8 ∨ 14 < ds.length →
          exec (.codeReaderCharacter 0x0D#8 parity stop) s = .next
            (ended.raise (.readerFault .length ds.length c.tag)))
        ∧ (s.reader.assembly = .collecting ds → 8 ≤ ds.length → ds.length ≤ 14 → value = 0 →
          exec (.codeReaderCharacter 0x0D#8 parity stop) s = .next
            (ended.raise (.readerFault .zeroCode ds.length c.tag)))
        ∧ (s.reader.assembly = .collecting ds → 8 ≤ ds.length → ds.length ≤ 14 → value ≠ 0 →
          (∀ r, c.code = none → c.stage = .scanning → s.scan.record = some r →
            let code : Code := BitVec.ofNat 48 value
            let seeking : State := { ended with path := { s.path with
              entry := some { c with code := some code, stage := .classifying }, window := false, readTimer := none } }
            (c.secondCode = false → r.overrun = false →
              (s.article.lookup = .idle → ∃ t, exec (.codeReaderCharacter 0x0D#8 parity stop) s = .next t
                ∧ seeking.looksUp code c.tag t)
              ∧ (s.article.lookup ≠ .idle → exec (.codeReaderCharacter 0x0D#8 parity stop) s = .next { seeking with
                  article := { s.article with waiting := some (code, c.tag) } }))
            ∧ (c.secondCode = false → r.overrun = true → exec (.codeReaderCharacter 0x0D#8 parity stop) s = .next
                (seeking.reject { c with code := some code, stage := .classifying } .doubleEntry)))
          ∧ (c.code = none → s.scan.record = none → exec (.codeReaderCharacter 0x0D#8 parity stop) s = .next
            { ended with path := { s.path with entry := some { c with code := some (BitVec.ofNat 48 value) } } })
          ∧ (c.code = some (BitVec.ofNat 48 value) →
            exec (.codeReaderCharacter 0x0D#8 parity stop) s = .next ended)
          ∧ (∀ first, c.code = some first → first ≠ BitVec.ofNat 48 value →
            exec (.codeReaderCharacter 0x0D#8 parity stop) s = .next
              { ended with path := { s.path with entry := some { c with secondCode := true } } }))))
    ∧ (∀ (period n : Nat) (rest : List Bool), 1 ≤ period →
      let sent := false :: (List.range 8).map data.getLsbD ++ [parity, stop]
      readerCommandsFrom period (.waiting true)
          (List.replicate n true ++ sent.flatMap (List.replicate period) ++ rest) =
        .codeReaderCharacter data parity stop
          :: readerCommandsFrom period (.waiting stop) (List.replicate (period - period / 2 - 1) stop ++ rest)
      ∧ readerCommandsFrom period (.waiting false) (List.replicate n false ++ true :: rest) =
        readerCommandsFrom period (.waiting true) rest
      ∧ readerCommandsFrom period (.settling 0) (List.replicate (10 * period) true ++ rest) =
        .readerMarkLevelReached :: readerCommandsFrom period (.waiting true) rest
      ∧ (n < 10 * period → readerCommandsFrom period (.settling 0) (List.replicate n true ++ false :: rest) =
        readerCommandsFrom period (.settling 0) rest))
    ∧ (∀ (hz : Nat) (input : List Bool), readerCommands s.host.cfg hz input =
      readerCommandsFrom (hz / if s.host.cfg.readerRate = 0 then 9600 else 38400) (.settling 0) input)

-- The Article Unit

/-- A group burst (08 R134, R138, R140, R141, R147, R149, R150): the first entry of the code in burst order decides; without
one, a primary group with no empty entry leads to the secondary, and otherwise the code is absent, or the host is asked. A
revoked walk that ends in either phase is made anew; a withdrawn one hands nothing on, fills the cache with what it found
unless it was revoked, asks no host, and the lookup that waited for it is made. The burst reads from the start entry to entry
7 and then from entry 0, and stops after the entry of the code (R140). That a group read for a walk that waits changes nothing,
and that a host access which waits goes before the new walk, are the model's reading (log 3, log 20). -/
def Obligations.WalkDecides : Prop :=
  ∀ (s : State) (w : Walk) (group : GroupBytes), s.article.lookup = .walking w →
    let at_ : Nat → Fin 8 := fun i => Fin.ofNat 8 (w.code.toNat + i)
    let ended : ArticleUnit → ArticleUnit := fun u => { u with lookup := .idle }.arbitrate
    (w.phase = .waitingPort → exec (.walkGroupRead group) s = .next s)
    ∧ (w.phase ≠ .waitingPort → w.revoked = false → w.withdrawn = false →
      (∀ i, i < 8 → entryCode group[at_ i] = w.code → (∀ j, j < i → entryCode group[at_ j] ≠ w.code) →
        (∀ a, readEntry group[at_ i] = .ok a → exec (.walkGroupRead group) s = .next
          ({ s with article := ended (s.article.fill a) }.fullDecision (some a)))
        ∧ (∀ f, readEntry group[at_ i] = .error f → s.host.cfg.hostQueries = 0 →
          let g := if w.phase = .secondary then secondaryGroup s.host.cfg.groups w.code
            else primaryGroup s.host.cfg.groups w.code
          exec (.walkGroupRead group) s = .next
            ({ s.raise (.storeFault (.malformed g (at_ i).val (g * 128 + (at_ i).val * 16) w.code f)) with
              article := ended s.article }.fullDecision none))
        ∧ (∀ f, readEntry group[at_ i] = .error f → s.host.cfg.hostQueries = 1 →
          let g := if w.phase = .secondary then secondaryGroup s.host.cfg.groups w.code
            else primaryGroup s.host.cfg.groups w.code
          ∃ t, exec (.walkGroupRead group) s = .next t ∧ t.article.lookup = .querying w.code w.tag
            ∧ t.article.queryTimer = some 0 ∧ t.noticeOf .articleQuery = some (.articleQuery w.code w.tag)
            ∧ t.noticeOf .storeFault =
                some (.storeFault (.malformed g (at_ i).val (g * 128 + (at_ i).val * 16) w.code f))
            ∧ s.sameNoticesBut [.storeFault, .articleQuery] t ∧ t.path = s.path
            ∧ t.article.cache = s.article.cache))
      ∧ ((∀ i, i < 8 → entryCode group[at_ i] ≠ w.code) →
        (w.phase = .primary → (∀ k : Fin 8, entryCode group[k] ≠ 0) → exec (.walkGroupRead group) s = .next
          { s with article := { s.article with lookup := .walking { w with phase := .secondary } } })
        ∧ (w.phase = .secondary ∨ (∃ k : Fin 8, entryCode group[k] = 0) → s.host.cfg.hostQueries = 0 →
          exec (.walkGroupRead group) s = .next ({ s with article := ended s.article }.fullDecision none))
        ∧ (w.phase = .secondary ∨ (∃ k : Fin 8, entryCode group[k] = 0) → s.host.cfg.hostQueries = 1 →
          ∃ t, exec (.walkGroupRead group) s = .next t ∧ t.article.lookup = .querying w.code w.tag
            ∧ t.article.queryTimer = some 0 ∧ t.noticeOf .articleQuery = some (.articleQuery w.code w.tag)
            ∧ s.sameNoticesBut [.articleQuery] t ∧ t.path = s.path ∧ t.article.cache = s.article.cache)))
    ∧ (w.phase = .secondary ∨ (w.phase = .primary ∧ ((∃ k : Fin 8, entryCode group[k] = 0)
          ∨ ∃ i, i < 8 ∧ entryCode group[at_ i] = w.code)) →
      (w.revoked = true → w.withdrawn = false →
        ∃ t v, exec (.walkGroupRead group) s = .next t ∧ t.article.lookup = .walking v ∧ v.code = w.code
          ∧ v.tag = w.tag ∧ v.revoked = false ∧ v.withdrawn = false
          ∧ v.phase = (if s.article.access.isSome = true then .waitingPort else .primary)
          ∧ t.article.cache = s.article.cache ∧ t.path = s.path ∧ t.notices = s.notices)
      ∧ (w.revoked = true → w.withdrawn = true → ∃ t, exec (.walkGroupRead group) s = .next t
          ∧ ({ s with article := ended s.article } : State).resumesTo t))
    ∧ (w.phase = .primary → (∀ k : Fin 8, entryCode group[k] ≠ 0) → (∀ i, i < 8 → entryCode group[at_ i] ≠ w.code) →
      exec (.walkGroupRead group) s = .next
        { s with article := { s.article with lookup := .walking { w with phase := .secondary } } })
    ∧ (w.phase ≠ .waitingPort → w.revoked = false → w.withdrawn = true →
      (∀ i, i < 8 → entryCode group[at_ i] = w.code → (∀ j, j < i → entryCode group[at_ j] ≠ w.code) →
        (∀ a, readEntry group[at_ i] = .ok a → ∃ t, exec (.walkGroupRead group) s = .next t
          ∧ ({ s with article := ended (s.article.fill a) } : State).resumesTo t)
        ∧ (∀ f, readEntry group[at_ i] = .error f →
          let g := if w.phase = .secondary then secondaryGroup s.host.cfg.groups w.code
            else primaryGroup s.host.cfg.groups w.code
          ∃ t, exec (.walkGroupRead group) s = .next t
          ∧ ({ s.raise (.storeFault (.malformed g (at_ i).val (g * 128 + (at_ i).val * 16) w.code f)) with
              article := ended s.article } : State).resumesTo t))
      ∧ ((∀ i, i < 8 → entryCode group[at_ i] ≠ w.code) →
          w.phase = .secondary ∨ (∃ k : Fin 8, entryCode group[k] = 0) →
          ∃ t, exec (.walkGroupRead group) s = .next t ∧ ({ s with article := ended s.article } : State).resumesTo t))
    ∧ (∀ n, w.phase ≠ .waitingPort → 1 ≤ n → n ≤ 8 → (∀ j, j + 1 < n → entryCode group[at_ j] ≠ w.code) →
      n = 8 ∨ entryCode group[at_ (n - 1)] = w.code →
      let g := if w.phase = .secondary then secondaryGroup s.host.cfg.groups w.code
        else primaryGroup s.host.cfg.groups w.code
      let start := w.code.toNat % 8
      s.portTransactions group = .read (g * 128 + start * 16) (min n (8 - start) * 16)
        :: if 8 - start < n then [.read (g * 128) ((n - (8 - start)) * 16)] else [])

/-- The places of a code (08 R136): h1 is the exclusive or of its three 16-bit parts, the secondary group is the primary one
with its low bits inverted and always differs from it. -/
def Obligations.PlacesOfACode : Prop :=
  ∀ (code : Code) (cfg : Configuration),
    let a := code.toNat / 2 ^ 32
    let b := code.toNat / 2 ^ 16 % 2 ^ 16
    let e := code.toNat % 2 ^ 16
    let h1 := (a ^^^ b) ^^^ e
    let G := cfg.groups
    h1 < 65536 ∧ primaryGroup G code = h1 % G ∧ secondaryGroup G code = (h1 ^^^ 0xFFFF) % G
      ∧ startEntry code = e % 8 ∧ (cacheSetOf code).val = h1 % 64
      ∧ (G = 256 ∨ G = 1024 ∨ G = 4096 ∨ G = 16384)
      ∧ secondaryGroup G code = G - 1 - primaryGroup G code ∧ secondaryGroup G code ≠ primaryGroup G code

/-- The cache (08 R139): a fill takes the way of the code, else the lowest invalid way, else the victim of the tree bits,
and keeps at most one way for a code; REVOKE ARTICLE (R149) clears the way of a code and marks a walk for it. -/
def Obligations.CacheFillsAndRevokes : Prop :=
  (∀ (c : CacheSet) (a : Article),
    c.victim = (if c.t0 = false then (if c.t1 = false then 0 else 1) else (if c.t2 = false then 2 else 3))
    ∧ c.access 0 = { c with t0 := true, t1 := true } ∧ c.access 1 = { c with t0 := true, t1 := false }
    ∧ c.access 2 = { c with t0 := false, t2 := true } ∧ c.access 3 = { c with t0 := false, t2 := false }
    ∧ (∃ w : Fin 4, c.fill a = { c with ways := c.ways.set w.val (some a) w.isLt }.access w
        ∧ ((∃ (v : Fin 4) (b : Article), c.ways[v] = some b ∧ b.code = a.code) →
            ∃ b, c.ways[w] = some b ∧ b.code = a.code)
        ∧ ((∀ (v : Fin 4) (b : Article), c.ways[v] = some b → b.code ≠ a.code) →
            ((∃ v : Fin 4, c.ways[v] = none) → c.ways[w] = none ∧ ∀ v : Fin 4, v < w → c.ways[v] ≠ none)
            ∧ ((∀ v : Fin 4, c.ways[v] ≠ none) → w = c.victim)))
    ∧ (c.oneWayPerCode → (c.fill a).oneWayPerCode))
  ∧ (∀ (s : State) (n : Nat), s.host.started = true → s.awake →
    (n = 0 ∨ 2 ^ 48 ≤ n → exec (.revokeArticle n) s = .next (s.answered (.refused .range)))
    ∧ (1 ≤ n → n < 2 ^ 48 → (s.article.setFor (BitVec.ofNat 48 n)).oneWayPerCode →
      ∃ t found, exec (.revokeArticle n) s = .next t
      ∧ t = { s.answered (.done (.revoked found)) with article := t.article }
      ∧ (found = true ↔ ∃ (v : Fin 4) (b : Article),
          (s.article.setFor (BitVec.ofNat 48 n)).ways[v] = some b ∧ b.code = BitVec.ofNat 48 n)
      ∧ (∀ v : Fin 4, (t.article.setFor (BitVec.ofNat 48 n)).ways[v] =
          ((s.article.setFor (BitVec.ofNat 48 n)).ways[v]).filter fun b => b.code != BitVec.ofNat 48 n)
      ∧ (t.article.setFor (BitVec.ofNat 48 n)).t0 = (s.article.setFor (BitVec.ofNat 48 n)).t0
      ∧ (t.article.setFor (BitVec.ofNat 48 n)).t1 = (s.article.setFor (BitVec.ofNat 48 n)).t1
      ∧ (t.article.setFor (BitVec.ofNat 48 n)).t2 = (s.article.setFor (BitVec.ofNat 48 n)).t2
      ∧ (∀ k : Fin 64, k ≠ cacheSetOf (BitVec.ofNat 48 n) → t.article.cache[k] = s.article.cache[k])
      ∧ (∀ w, s.article.lookup = .walking w → w.code = BitVec.ofNat 48 n →
          t.article.lookup = .walking { w with revoked := true })
      ∧ ((∀ w, s.article.lookup = .walking w → w.code ≠ BitVec.ofNat 48 n) →
          t.article.lookup = s.article.lookup)))

/-- Host store accesses (08 R143 to R146): the range test, the access at the arbiter, the read's end with its bytes,
the write's polling of the memory's status, and FAILED with STORE FAULT where it stays busy; and the transactions on the port
(R142): which an access makes, the bytes each sends, with StoreLatency dummy bytes in a read, and how long it lasts. That the
answer is placed at the end of the access, and that the values of the dummy bytes are left open, are the model's reading (log
34, log 51). -/
def Obligations.StoreIsAccessed : Prop :=
  ∀ (s : State) (address length : Nat) (data : List Byte) (status : Byte),
    let stage : AccessStage := if s.article.walkRunning = true then .waiting else .running
    (s.awake → 1 ≤ length → length ≤ 128 → address < 2 ^ 24 → address / 128 = (address + length - 1) / 128 →
      exec (.storeRead address length) s = .next { s.answered .empty with
        article := { s.article with access := some { request := .read address length, stage := stage } } }
      ∧ (data.length = length → exec (.storeWrite address data) s = .next { s.answered .empty with
        article := { s.article with access := some { request := .write address data, stage := stage } } }))
    ∧ (s.awake → length = 0 ∨ 128 < length ∨ address / 128 ≠ (address + length - 1) / 128 →
      exec (.storeRead address length) s = .next (s.answered (.refused .range))
      ∧ (data.length = length → exec (.storeWrite address data) s = .next (s.answered (.refused .range))))
    ∧ (s.article.access = some { request := .read address length, stage := .running } → data.length = length →
      ∃ t, exec (.storeReadEnd data) s = .next t ∧ t.host.answer = .done (.bytes data)
        ∧ t = { s with host := { s.host with answer := t.host.answer }, article := t.article }
        ∧ t.article.access = none ∧ t.article.cache = s.article.cache
        ∧ (∀ w, s.article.lookup = .walking w → w.phase = .waitingPort →
            t.article.lookup = .walking { w with phase := .primary }))
    ∧ (s.article.access = some { request := .write address data, stage := .running } →
      exec .writeTransactionEnd s = .next { s with article := { s.article with
        access := some { request := .write address data, stage := .polling }, busyTimer := some 0 } })
    ∧ (s.article.access = some { request := .write address data, stage := .polling } →
      (status.getLsbD 0 = true → exec (.statusRead status) s = .next s)
      ∧ (status.getLsbD 0 = false → s.host.restartPending = false → ∃ t, exec (.statusRead status) s = .next t
        ∧ t.host.answer = .done .none ∧ t.article.access = none ∧ t.article.busyTimer = none
        ∧ t = { s with host := { s.host with answer := t.host.answer }, article := t.article }
        ∧ t.article.cache = s.article.cache)
      ∧ (s.article.busyTimer.isSome = true → s.host.restartPending = false →
        ∃ t, exec .storeBusyTimeExpired s = .next t ∧ t.host.answer = .failed ∧ t.article.access = none
        ∧ t.article.busyTimer = none ∧ t.article.cache = s.article.cache
        ∧ t.noticeOf .storeFault = some (.storeFault (.busyTimeout address data.length))
        ∧ s.sameNoticesBut [.storeFault] t ∧ t.path = s.path))
    ∧ (∀ group, s.article.walkRunning = false →
      (s.article.access = some { request := .read address length, stage := .running } →
        s.portTransactions group = [.read address length])
      ∧ (s.article.access = some { request := .write address data, stage := .running } →
        s.portTransactions group = [.writeEnable, .write address data])
      ∧ (s.article.access = some { request := .write address data, stage := .polling } →
        s.portTransactions group = [.statusRead]))
    ∧ (∀ group, s.portBytes group =
        (s.portTransactions group).map fun q => q.bytesSent s.host.cfg.storeLatency)
    ∧ (∀ latency : Nat,
      let place : List (Option Byte) := [some (BitVec.ofNat 8 (address / 65536)), some (BitVec.ofNat 8 (address / 256)),
        some (BitVec.ofNat 8 address)]
      (StoreTransaction.read address length).bytesSent latency =
          some 0x0B#8 :: place ++ List.replicate latency none
        ∧ StoreTransaction.writeEnable.bytesSent latency = [some 0x06#8]
        ∧ (StoreTransaction.write address data).bytesSent latency = some 0x02#8 :: place ++ data.map some
        ∧ StoreTransaction.statusRead.bytesSent latency = [some 0x05#8]
        ∧ (StoreTransaction.read address length).byteTimes latency = 4 + latency + length
        ∧ StoreTransaction.writeEnable.byteTimes latency = 1
        ∧ (StoreTransaction.write address data).byteTimes latency = 4 + data.length
        ∧ StoreTransaction.statusRead.byteTimes latency = 2)

-- The bins

/-- The host's bin requests (04 R81, R82), the first case that applies deciding: the membership state, the range, a full
queue, a frame being sent, a waiting frame that takes the new payload, a new frame; and the opposing frame withdrawn, or, while
it is being sent, gone behind: the mark that keeps a BIN HOLD behind the BIN OPEN of its bin is the model's (log 48). -/
def Obligations.BinRequestsAreQueued : Prop :=
  ∀ (s : State) (n used : Nat) (b : BinNo), s.host.started = true → s.awake →
    (s.member ≠ .synced →
      exec (.binSet n used) s = .next (s.answered (.refused .state))
      ∧ exec (.binHold n) s = .next (s.answered (.refused .state))
      ∧ exec (.binOpen n) s = .next (s.answered (.refused .state)))
    ∧ (s.member = .synced → (n = 0 ∨ 8 < n) →
      exec (.binSet n used) s = .next (s.answered (.refused .range))
      ∧ exec (.binHold n) s = .next (s.answered (.refused .range))
      ∧ exec (.binOpen n) s = .next (s.answered (.refused .range)))
    ∧ (s.member = .synced → 65534 < used → exec (.binSet n used) s = .next (s.answered (.refused .range)))
    ∧ (s.member = .synced → b ≠ 0 → used ≤ 65534 → ∀ request ∈
        [(Instr.binSet b.val used, FrameKind.binSet), (.binHold b.val, .binHold), (.binOpen b.val, .binOpen)],
      (6 ≤ s.line.queue.length → exec request.1 s = .next (s.answered (.refused .full)))
      ∧ (s.line.queue.length < 6 →
        (s.queues request.2 (.bin b) → (∀ g ∈ s.line.queue, g.frame.kind = request.2 → g.frame.subject = .bin b →
            g.phase ≠ .waiting) → exec request.1 s = .next (s.answered (.refused .busy)))
        ∧ ((∀ g ∈ s.line.queue, g.frame.kind = request.2 → g.frame.subject = .bin b → g.phase = .waiting) →
          ∃ t, exec request.1 s = .next t ∧ t.queues request.2 (.bin b)
            ∧ t = { s.answered (.done .none) with line := { s.line with queue := t.line.queue } }
            ∧ (request.2 = .binSet → ∃ g ∈ t.line.queue, g.frame = .binSet b (BitVec.ofNat 16 used))
            ∧ (request.2 = .binHold → (∃ g ∈ t.line.queue, g.frame = .binHold b .staff)
                ∧ (∀ g ∈ t.line.queue, g.frame = .binOpen b → g.phase ≠ .waiting)
                ∧ ((∃ g ∈ s.line.queue, g.frame = .binOpen b ∧ g.phase ≠ .waiting) →
                    ∃ g ∈ t.line.queue, g.frame = .binHold b .staff ∧ g.behind = true))
            ∧ (request.2 = .binOpen → ∀ g ∈ t.line.queue, g.frame.kind = .binHold → g.frame.subject = .bin b →
                g.phase ≠ .waiting))))

-- Rest levels and RESTART

/-- Doze and Deep Rest (11 R185 to R188): DOZE OFFER when the timer expires, GRANT DOZE, DEEP REST and WAKE in each
rest level, and the return from Doze by any other request but READ STATUS and READ NOTICES. That a container at the
aperture is taken before the request, the cut at Deep Rest entry, that the tree bits of a cache not kept become 0, and that the
retry count of a clean drive period is kept, are the model's reading (log 25, log 26, log 55, log 60). -/
def Obligations.RestLevels : Prop :=
  ∀ s : State,
    (s.host.dozeTimer.isSome = true → exec .dozeTimerExpired s = .next
      (({ s with host := { s.host with dozeTimer := none, offered := true } } : State).raise
        (.dozeOffer s.host.cfg.dozeDelay)))
    ∧ (s.host.started = true → s.awake →
      (s.host.offered = true → ∃ t, exec .grantDoze s = .next t ∧ t.host.answer = .done .none
        ∧ t.host.rest = .doze ∧ t.host.offered = false ∧ t.host.dozeTimer = none ∧ t.reader.run = .stopped
        ∧ t.article.lookup = .idle ∧ t.article.cache = s.article.cache ∧ t.path = s.path ∧ t.belt = s.belt
        ∧ t.line = s.line ∧ t.drives = s.drives ∧ t.session = s.session ∧ t.notices = s.notices)
      ∧ (s.host.offered = false → exec .grantDoze s = .next (s.answered (.refused .state))))
    ∧ (∀ i, endsDoze i = true → s.host.rest = .doze → s.storeBusy = false →
      exec i s = exec i s.returnActive ∧ s.returnActive.host.rest = .active)
    ∧ (s.host.started = true → s.awake →
      (s.host.rest = .active → s.member ≠ .conflict → s.path.entry = none → s.path.hold = [] →
        s.path.transfer = none → s.session.state = .idle ∨ s.session.state = .closed →
        ∃ t, exec .deepRest s = .next t ∧ t.host.answer = .done .none ∧ t.host.rest = .deepRest
        ∧ t.host.dozeTimer = none ∧ t.host.offered = false ∧ t.host.cfg = s.host.cfg ∧ t.member = .offline
        ∧ t.dutyReports = false ∧ t.belt = { current := none, pitchCount := 0, homeSeen := false }
        ∧ (∀ x, t.entryAt x = .free)
        ∧ (∀ b : BinNo, t.bins[b] = { used := none, state := .opened, reportedFull := false })
        ∧ t.path = Path.emptied s.path.tagCounter ∧ t.line.condition = .quiet ∧ t.line.queue = []
        ∧ t.line.driver = (if s.line.driver = .faulted then .faulted else .off) ∧ t.line.aloneCount = 0
        ∧ t.line.wake = .none ∧ t.line.overloadCount = s.line.overloadCount
        ∧ t.scan.program = .halted ∧ t.scan.record = none ∧ t.scan.supply = s.scan.supply
        ∧ t.reader.run = .stopped ∧ t.article.lookup = .idle
        ∧ (∀ k : Fin 64, t.article.cache[k] =
            if s.host.cfg.keepCache = 1 then s.article.cache[k] else CacheSet.initial)
        ∧ (∀ c, (t.channel c).state =
            (if (s.channel c).state = .faulted then .faulted else if s.cutCondition = true then .cut else .off)
          ∧ (t.channel c).standing = false ∧ (t.channel c).coolOff = none
          ∧ (t.channel c).retry = (s.channel c).retry)
        ∧ t.session.state = s.session.state ∧ t.session.number = s.session.number
        ∧ t.session.total = s.session.total ∧ t.session.sequence = s.session.sequence
        ∧ t.session.history = s.session.history ∧ t.notices = s.notices ∧ t.heat = s.heat)
      ∧ (s.host.rest = .deepRest ∨ s.member = .conflict ∨ s.path.entry.isSome = true ∨ s.path.hold ≠ []
          ∨ s.path.transfer.isSome = true ∨ s.session.state = .opened ∨ s.session.state = .closing →
        exec .deepRest s = .next (s.answered (.refused .state))))
    ∧ (s.host.started = true → s.storeBusy = false →
      (s.host.rest = .active → exec .wake s = .next (s.answered (.refused .state)))
      ∧ (s.host.rest = .doze → ∃ t, exec .wake s = .next t ∧ t.host.answer = .done .none
        ∧ t.host.rest = .active ∧ t.reader.run = (if s.member = .offline then .stopped else .settling))
      ∧ (s.host.rest = .deepRest → ∃ t, exec .wake s = .next t ∧ t.host.answer = .done .none
        ∧ t.host.rest = .active ∧ t.member = .listening .waitingHome ∧ t.scan.program = .watching
        ∧ t.reader.run = .settling ∧ t.line.driver = (if s.line.driver = .faulted then .faulted else .ready)
        ∧ (s.host.cfg.wakePeers = 1 → s.line.driver ≠ .faulted → t.line.wake = .waiting)
        ∧ t.noticeOf .joinState = some (.joinState .listening s.member.state .wakeRequest)
        ∧ s.sameNoticesBut [.joinState] t ∧ t.session = s.session ∧ t.host.cfg = s.host.cfg))

/-- RESTART (11 R189, 10 R174, 08 R146): every block at its RESTART values, the session closed, and the station listening; a
running STORE WRITE is waited for, and RESTART proceeds when the memory is no longer busy or StoreBusyTime has expired. The
notices are cleared but for JOIN STATE, and, where this close numbers a voucher, its SESSION CLOSED, with VOUCHERS EXHAUSTED
exactly where the number is the last (10 R171). What the transaction shifts out during an access, the cut at once, and that
the tree bits become 0, are the model's reading (log 9, log 25, log 55). -/
def Obligations.RestartEmptiesTheStation : Prop :=
  ∀ (s : State) (address : Nat) (data : List Byte), s.host.started = true →
    (s.awake → ∃ t, exec .restart s = .next t ∧ t.host.answer = .done .none ∧ t.host.shifted = s.host.answer
      ∧ s.restartedTo t)
    ∧ (s.storeBusy = true → s.article.writeRunning = false → ∃ t, exec .restart s = .next t
      ∧ t.host.answer = .done .none ∧ t.host.shifted = .refused .busy ∧ s.restartedTo t)
    ∧ (s.article.writeRunning = true → exec .restart s = .next { s with host := { s.host with
        shifted := .refused .busy, restartPending := true } })
    ∧ (s.article.access = some { request := .write address data, stage := .polling } →
      s.host.restartPending = true → (∃ t, exec (.statusRead 0) s = .next t ∧ t.host.answer = .done .none
        ∧ t.host.shifted = s.host.shifted ∧ s.restartedTo t)
      ∧ (s.article.busyTimer.isSome = true → ∃ t, exec .storeBusyTimeExpired s = .next t
        ∧ t.host.answer = .done .none ∧ t.host.shifted = s.host.shifted ∧ s.restartedTo t))

/-- CLEAR DRIVE (09 R163, 02 R30) for the line driver, a FAULTED channel with or without the cut condition, and a name
outside the list; and CLEAR JAM (06 R115), which removes every STUCK record without credit, frame or notice. -/
def Obligations.FaultsAndJamsAreCleared : Prop :=
  ∀ (s : State) (n : Nat) (c : Channel), s.awake →
    (11 < n → exec (.clearDrive n) s = .next (s.answered (.refused .range)))
    ∧ (s.line.driver = .faulted → exec (.clearDrive 0) s = .next { s.answered (.done .none) with line :=
        { s.line with overloadCount := 0, overloadTimer := 0
                      driver := if s.member = .offline then .off else .ready } })
    ∧ (s.line.driver ≠ .faulted → exec (.clearDrive 0) s = .next (s.answered (.refused .state)))
    ∧ ((s.channel c).state = .faulted → ∃ t, exec (.clearDrive (1 + (channelIndex c).val)) s = .next t
      ∧ t = { s.answered (.done .none) with drives := t.drives }
      ∧ (t.channel c).cause = none ∧ (t.channel c).retry = 0 ∧ (t.channel c).standing = (s.channel c).standing
      ∧ (t.channel c).state = (if s.cutCondition = true then .cut
          else if (s.channel c).standing = true then .running else .off)
      ∧ ∀ d, d ≠ c → t.channel d = s.channel d)
    ∧ ((s.channel c).state ≠ .faulted →
      exec (.clearDrive (1 + (channelIndex c).val)) s = .next (s.answered (.refused .state)))
    ∧ (s.host.started = true → s.hasStuck = false →
      exec .clearJam s = .next (s.answered (.refused .none)))
    ∧ (s.host.started = true → s.hasStuck = true → s.eyes.aperture = false →
      ∃ t records, exec .clearJam s = .next t ∧ t.host.answer = .done (.removed records)
      ∧ (∀ tag place, (tag, place) ∈ records ↔
          (∃ r, s.path.entry = some r ∧ r.stage = .stuck ∧ r.tag = tag ∧ place = .entryZone)
          ∨ (∃ r, s.path.transfer = some r ∧ r.stage = .stuck ∧ r.tag = tag ∧ place = .transferSlot))
      ∧ t.path = { s.path with
          entry := s.path.entry.filter fun r => r.stage != .stuck
          transfer := s.path.transfer.filter fun r => r.stage != .stuck }
      ∧ t.session = s.session ∧ t.line = s.line ∧ t.notices = s.notices ∧ t.drives = s.drives)

-- The Drive Unit

/-- A channel at its load and its times (09 R154 to R159): LIMITING and back, the fault at the grace time by the fault
response, the end of the cool-off, the clean running time, and the end of a FLAP pulse. A gate's
miss is reported from the pitch mark on that follows the one at which the station became SYNCED (01 R20, 05 R89); the mark that
says so is the model's own (log 54). -/
def Obligations.ChannelsFollowTheirLoad : Prop :=
  ∀ (s : State) (c : Channel),
    ((s.channel c).state = .running → ∃ t, exec (.driveLimitReached c) s = .next t
      ∧ t = { s with drives := t.drives } ∧ (∀ d, d ≠ c → t.channel d = s.channel d)
      ∧ t.channel c = { s.channel c with state := .limiting, grace := some 0, clean := false, cleanRun := none })
    ∧ ((s.channel c).state = .limiting → ∃ t, exec (.driveLimitLeft c) s = .next t
      ∧ t = { s with drives := t.drives } ∧ (∀ d, d ≠ c → t.channel d = s.channel d)
      ∧ t.channel c = { s.channel c with state := .running, grace := none })
    ∧ ((s.channel c).state = .limiting → (s.channel c).grace.isSome = true →
      ∃ t, exec (.graceTimeExpired c) s = .next t ∧ t.map = s.map ∧ t.bins = s.bins ∧ t.belt = s.belt
      ∧ (t.channel c).retry = min 3 ((s.channel c).retry + 1) ∧ (t.channel c).grace = none
      ∧ (c = .flap → (t.channel c).standing = false)
      ∧ ((s.driveSetting c).faultResponse = 0 → (t.channel c).state = .faulted ∧ (t.channel c).cause = some .stop
          ∧ t.noticeOf .driveFault = some (.driveFault c .stop (min 3 ((s.channel c).retry + 1))
              (s.driveSetting c).limitMilliamps (s.driveSetting c).graceMs
              (if c = .entry then some (s.channel c).direction else none)
              ((s.channel c).standing && !(c == .flap))))
      ∧ ((s.driveSetting c).faultResponse = 1 → (s.channel c).retry < 2 → (t.channel c).state = .coolOff
          ∧ (t.channel c).coolOff = some 0
          ∧ t.notices[NoticeKind.driveFault.index] = s.notices[NoticeKind.driveFault.index])
      ∧ ((s.driveSetting c).faultResponse = 1 → 2 ≤ (s.channel c).retry → (t.channel c).state = .faulted
          ∧ (t.channel c).cause = some .retries)
      ∧ (∀ r, c = .entry → s.path.entry = some r → r.stage = .entering →
          t.path.entry = some { r with stage := .stuck }
          ∧ t.noticeOf .jam = some (.jam r.tag .entryZone .drive .entering (some .entry)))
      ∧ (s.member ≠ .synced ∨ s.dutyReports = false → t.line = s.line)
      ∧ (∀ g i, c = .gate g → s.gates[g] = some i → i.missed = false → s.member = .synced → s.dutyReports = true →
          s.line.queue.length < 5 → t.queues .misroute (.cleat i.cleat)
          ∧ ((t.channel c).state = .faulted → s.bins[g.succ].state = .opened → t.queues .binHold (.bin g.succ))))
    ∧ ((s.channel c).state = .coolOff → (s.channel c).coolOff.isSome = true →
      ∃ t, exec (.coolOffExpired c) s = .next t ∧ t = { s with drives := t.drives }
      ∧ (∀ d, d ≠ c → t.channel d = s.channel d) ∧ (t.channel c).coolOff = none
      ∧ (t.channel c).retry = (s.channel c).retry
      ∧ ((s.channel c).standing = true → (t.channel c).state = .running ∧ (t.channel c).clean = true
          ∧ (t.channel c).cleanRun = some 0)
      ∧ ((s.channel c).standing = false → (t.channel c).state = .off))
    ∧ ((s.channel c).state = .running → (s.channel c).clean = true → (s.channel c).cleanRun.isSome = true →
      ∃ t, exec (.cleanRunExpired c) s = .next t ∧ t = { s with drives := t.drives }
      ∧ (∀ d, d ≠ c → t.channel d = s.channel d)
      ∧ t.channel c = { s.channel c with retry := 0, cleanRun := none })
    ∧ (s.drives.flapTimer.isSome = true → (s.channel .flap).state.driven = true →
      ∃ t, exec .flapTimeExpired s = .next t ∧ t = { s with drives := t.drives }
      ∧ (∀ d, d ≠ .flap → t.channel d = s.channel d) ∧ t.drives.flapTimer = none
      ∧ (t.channel .flap).state = .off ∧ (t.channel .flap).standing = false
      ∧ (t.channel .flap).retry = if (s.channel .flap).clean = true then 0 else (s.channel .flap).retry)

/-- The heat stage (09 R161, R162): each crossing of a threshold, its THERMAL with the states of the channels at the
change, and the cut that begins with HOT and ends with it unless the supply keeps it; a gate that the cut stops has been missed
by its cleat (01 R20). That THERMAL shows the channel states before the cut, that the gates of a station without sort duty are
CUT too, that a crossing which the stage does not answer changes nothing, and the mark from which a miss is reported (05 R89),
are the model's reading (log 3, log 8, log 42, log 54). -/
def Obligations.HeatCutsTheDrives : Prop :=
  ∀ s : State,
    (s.heat = .normal → ∃ t, exec (.heatStageChange .above130) s = .next t ∧ t.heat = .warm
      ∧ t.noticeOf .thermal = some (.thermal .warm .normal .warm s.drives.states)
      ∧ (∀ c, (t.channel c).state = (s.channel c).state))
    ∧ (s.heat ≠ .hot → ∃ t, exec (.heatStageChange .above160) s = .next t ∧ t.heat = .hot
      ∧ t.noticeOf .thermal = some (.thermal .hot s.heat .hot s.drives.states)
      ∧ (s.scan.supply ≠ .cutoff → ∀ c,
          (t.channel c).state = (if (s.channel c).state = .faulted then .faulted else .cut)
          ∧ (t.channel c).grace = (if (s.channel c).state.driven = true ∨ (s.channel c).state = .off then none
              else (s.channel c).grace)
          ∧ (t.channel c).retry = (s.channel c).retry ∧ (t.channel c).coolOff = (s.channel c).coolOff)
      ∧ (s.scan.supply ≠ .cutoff → s.gatesMissed t)
      ∧ (s.scan.supply = .cutoff → t.gates = s.gates ∧ t.line = s.line))
    ∧ (s.heat = .hot → ∃ t, exec (.heatStageChange .below140) s = .next t ∧ t.heat = .warm
      ∧ t.noticeOf .thermal = some (.thermal .cooled .hot .warm s.drives.states)
      ∧ (s.scan.supply ≠ .cutoff → ∀ c, (s.channel c).state = .cut →
          (t.channel c).state = (if (s.channel c).coolOff.isSome = true then .coolOff
            else if (s.channel c).standing = true then .running else .off))
      ∧ (s.scan.supply = .cutoff → ∀ c, (t.channel c).state = (s.channel c).state))
    ∧ (s.heat = .warm → ∃ t, exec (.heatStageChange .below120) s = .next t ∧ t.heat = .normal
      ∧ t.notices[NoticeKind.thermal.index] = s.notices[NoticeKind.thermal.index])
    ∧ (s.heat ≠ .normal → exec (.heatStageChange .above130) s = .next s)
    ∧ (s.heat = .hot → exec (.heatStageChange .above160) s = .next s)
    ∧ (s.heat ≠ .hot → exec (.heatStageChange .below140) s = .next s)
    ∧ (s.heat ≠ .warm → exec (.heatStageChange .below120) s = .next s)
end

