-- ==== Sys2Proof/Laws/State.lean ====
section
/-! SUPPORT. One lemma for each field of State that an update leaves as it stands: the update names the one block it
changes. -/
namespace Sys2Proof
namespace Machine

-- raise changes notices alone
@[simp] theorem State.raise_host (s : State) (d : NoticeDetail) : (s.raise d).host = s.host := rfl
@[simp] theorem State.raise_belt (s : State) (d : NoticeDetail) : (s.raise d).belt = s.belt := rfl
@[simp] theorem State.raise_map (s : State) (d : NoticeDetail) : (s.raise d).map = s.map := rfl
@[simp] theorem State.raise_bins (s : State) (d : NoticeDetail) : (s.raise d).bins = s.bins := rfl
@[simp] theorem State.raise_member (s : State) (d : NoticeDetail) : (s.raise d).member = s.member := rfl
@[simp] theorem State.raise_ownDigest (s : State) (d : NoticeDetail) : (s.raise d).ownDigest = s.ownDigest := rfl
@[simp] theorem State.raise_gates (s : State) (d : NoticeDetail) : (s.raise d).gates = s.gates := rfl
@[simp] theorem State.raise_dutyReports (s : State) (d : NoticeDetail) : (s.raise d).dutyReports = s.dutyReports := rfl
@[simp] theorem State.raise_line (s : State) (d : NoticeDetail) : (s.raise d).line = s.line := rfl
@[simp] theorem State.raise_path (s : State) (d : NoticeDetail) : (s.raise d).path = s.path := rfl
@[simp] theorem State.raise_eyes (s : State) (d : NoticeDetail) : (s.raise d).eyes = s.eyes := rfl
@[simp] theorem State.raise_scan (s : State) (d : NoticeDetail) : (s.raise d).scan = s.scan := rfl
@[simp] theorem State.raise_reader (s : State) (d : NoticeDetail) : (s.raise d).reader = s.reader := rfl
@[simp] theorem State.raise_article (s : State) (d : NoticeDetail) : (s.raise d).article = s.article := rfl
@[simp] theorem State.raise_drives (s : State) (d : NoticeDetail) : (s.raise d).drives = s.drives := rfl
@[simp] theorem State.raise_heat (s : State) (d : NoticeDetail) : (s.raise d).heat = s.heat := rfl
@[simp] theorem State.raise_session (s : State) (d : NoticeDetail) : (s.raise d).session = s.session := rfl
@[simp] theorem State.raise_pending (s : State) (d : NoticeDetail) : (s.raise d).pending = s.pending := rfl
@[simp] theorem State.raise_draws (s : State) (d : NoticeDetail) : (s.raise d).draws = s.draws := rfl

-- raiseLineFault changes notices alone
@[simp] theorem State.raiseLineFault_host (s : State) (f : LineFault) : (s.raiseLineFault f).host = s.host := rfl
@[simp] theorem State.raiseLineFault_belt (s : State) (f : LineFault) : (s.raiseLineFault f).belt = s.belt := rfl
@[simp] theorem State.raiseLineFault_map (s : State) (f : LineFault) : (s.raiseLineFault f).map = s.map := rfl
@[simp] theorem State.raiseLineFault_bins (s : State) (f : LineFault) : (s.raiseLineFault f).bins = s.bins := rfl
@[simp] theorem State.raiseLineFault_member (s : State) (f : LineFault) : (s.raiseLineFault f).member = s.member := rfl
@[simp] theorem State.raiseLineFault_ownDigest (s : State) (f : LineFault) : (s.raiseLineFault f).ownDigest = s.ownDigest := rfl
@[simp] theorem State.raiseLineFault_gates (s : State) (f : LineFault) : (s.raiseLineFault f).gates = s.gates := rfl
@[simp] theorem State.raiseLineFault_dutyReports (s : State) (f : LineFault) : (s.raiseLineFault f).dutyReports = s.dutyReports := rfl
@[simp] theorem State.raiseLineFault_line (s : State) (f : LineFault) : (s.raiseLineFault f).line = s.line := rfl
@[simp] theorem State.raiseLineFault_path (s : State) (f : LineFault) : (s.raiseLineFault f).path = s.path := rfl
@[simp] theorem State.raiseLineFault_eyes (s : State) (f : LineFault) : (s.raiseLineFault f).eyes = s.eyes := rfl
@[simp] theorem State.raiseLineFault_scan (s : State) (f : LineFault) : (s.raiseLineFault f).scan = s.scan := rfl
@[simp] theorem State.raiseLineFault_reader (s : State) (f : LineFault) : (s.raiseLineFault f).reader = s.reader := rfl
@[simp] theorem State.raiseLineFault_article (s : State) (f : LineFault) : (s.raiseLineFault f).article = s.article := rfl
@[simp] theorem State.raiseLineFault_drives (s : State) (f : LineFault) : (s.raiseLineFault f).drives = s.drives := rfl
@[simp] theorem State.raiseLineFault_heat (s : State) (f : LineFault) : (s.raiseLineFault f).heat = s.heat := rfl
@[simp] theorem State.raiseLineFault_session (s : State) (f : LineFault) : (s.raiseLineFault f).session = s.session := rfl
@[simp] theorem State.raiseLineFault_pending (s : State) (f : LineFault) : (s.raiseLineFault f).pending = s.pending := rfl
@[simp] theorem State.raiseLineFault_draws (s : State) (f : LineFault) : (s.raiseLineFault f).draws = s.draws := rfl

-- clearRead changes notices alone
@[simp] theorem State.clearRead_host (s : State) : (s.clearRead).host = s.host := rfl
@[simp] theorem State.clearRead_belt (s : State) : (s.clearRead).belt = s.belt := rfl
@[simp] theorem State.clearRead_map (s : State) : (s.clearRead).map = s.map := rfl
@[simp] theorem State.clearRead_bins (s : State) : (s.clearRead).bins = s.bins := rfl
@[simp] theorem State.clearRead_member (s : State) : (s.clearRead).member = s.member := rfl
@[simp] theorem State.clearRead_ownDigest (s : State) : (s.clearRead).ownDigest = s.ownDigest := rfl
@[simp] theorem State.clearRead_gates (s : State) : (s.clearRead).gates = s.gates := rfl
@[simp] theorem State.clearRead_dutyReports (s : State) : (s.clearRead).dutyReports = s.dutyReports := rfl
@[simp] theorem State.clearRead_line (s : State) : (s.clearRead).line = s.line := rfl
@[simp] theorem State.clearRead_path (s : State) : (s.clearRead).path = s.path := rfl
@[simp] theorem State.clearRead_eyes (s : State) : (s.clearRead).eyes = s.eyes := rfl
@[simp] theorem State.clearRead_scan (s : State) : (s.clearRead).scan = s.scan := rfl
@[simp] theorem State.clearRead_reader (s : State) : (s.clearRead).reader = s.reader := rfl
@[simp] theorem State.clearRead_article (s : State) : (s.clearRead).article = s.article := rfl
@[simp] theorem State.clearRead_drives (s : State) : (s.clearRead).drives = s.drives := rfl
@[simp] theorem State.clearRead_heat (s : State) : (s.clearRead).heat = s.heat := rfl
@[simp] theorem State.clearRead_session (s : State) : (s.clearRead).session = s.session := rfl
@[simp] theorem State.clearRead_pending (s : State) : (s.clearRead).pending = s.pending := rfl
@[simp] theorem State.clearRead_draws (s : State) : (s.clearRead).draws = s.draws := rfl

-- setEntry changes map alone
@[simp] theorem State.setEntry_host (s : State) (x : Cleat) (e : Entry) : (s.setEntry x e).host = s.host := rfl
@[simp] theorem State.setEntry_notices (s : State) (x : Cleat) (e : Entry) : (s.setEntry x e).notices = s.notices := rfl
@[simp] theorem State.setEntry_belt (s : State) (x : Cleat) (e : Entry) : (s.setEntry x e).belt = s.belt := rfl
@[simp] theorem State.setEntry_bins (s : State) (x : Cleat) (e : Entry) : (s.setEntry x e).bins = s.bins := rfl
@[simp] theorem State.setEntry_member (s : State) (x : Cleat) (e : Entry) : (s.setEntry x e).member = s.member := rfl
@[simp] theorem State.setEntry_ownDigest (s : State) (x : Cleat) (e : Entry) : (s.setEntry x e).ownDigest = s.ownDigest := rfl
@[simp] theorem State.setEntry_gates (s : State) (x : Cleat) (e : Entry) : (s.setEntry x e).gates = s.gates := rfl
@[simp] theorem State.setEntry_dutyReports (s : State) (x : Cleat) (e : Entry) : (s.setEntry x e).dutyReports = s.dutyReports := rfl
@[simp] theorem State.setEntry_line (s : State) (x : Cleat) (e : Entry) : (s.setEntry x e).line = s.line := rfl
@[simp] theorem State.setEntry_path (s : State) (x : Cleat) (e : Entry) : (s.setEntry x e).path = s.path := rfl
@[simp] theorem State.setEntry_eyes (s : State) (x : Cleat) (e : Entry) : (s.setEntry x e).eyes = s.eyes := rfl
@[simp] theorem State.setEntry_scan (s : State) (x : Cleat) (e : Entry) : (s.setEntry x e).scan = s.scan := rfl
@[simp] theorem State.setEntry_reader (s : State) (x : Cleat) (e : Entry) : (s.setEntry x e).reader = s.reader := rfl
@[simp] theorem State.setEntry_article (s : State) (x : Cleat) (e : Entry) : (s.setEntry x e).article = s.article := rfl
@[simp] theorem State.setEntry_drives (s : State) (x : Cleat) (e : Entry) : (s.setEntry x e).drives = s.drives := rfl
@[simp] theorem State.setEntry_heat (s : State) (x : Cleat) (e : Entry) : (s.setEntry x e).heat = s.heat := rfl
@[simp] theorem State.setEntry_session (s : State) (x : Cleat) (e : Entry) : (s.setEntry x e).session = s.session := rfl
@[simp] theorem State.setEntry_pending (s : State) (x : Cleat) (e : Entry) : (s.setEntry x e).pending = s.pending := rfl
@[simp] theorem State.setEntry_draws (s : State) (x : Cleat) (e : Entry) : (s.setEntry x e).draws = s.draws := rfl

-- pruneClaims changes path alone
@[simp] theorem State.pruneClaims_host (s : State) : (s.pruneClaims).host = s.host := rfl
@[simp] theorem State.pruneClaims_notices (s : State) : (s.pruneClaims).notices = s.notices := rfl
@[simp] theorem State.pruneClaims_belt (s : State) : (s.pruneClaims).belt = s.belt := rfl
@[simp] theorem State.pruneClaims_map (s : State) : (s.pruneClaims).map = s.map := rfl
@[simp] theorem State.pruneClaims_bins (s : State) : (s.pruneClaims).bins = s.bins := rfl
@[simp] theorem State.pruneClaims_member (s : State) : (s.pruneClaims).member = s.member := rfl
@[simp] theorem State.pruneClaims_ownDigest (s : State) : (s.pruneClaims).ownDigest = s.ownDigest := rfl
@[simp] theorem State.pruneClaims_gates (s : State) : (s.pruneClaims).gates = s.gates := rfl
@[simp] theorem State.pruneClaims_dutyReports (s : State) : (s.pruneClaims).dutyReports = s.dutyReports := rfl
@[simp] theorem State.pruneClaims_line (s : State) : (s.pruneClaims).line = s.line := rfl
@[simp] theorem State.pruneClaims_eyes (s : State) : (s.pruneClaims).eyes = s.eyes := rfl
@[simp] theorem State.pruneClaims_scan (s : State) : (s.pruneClaims).scan = s.scan := rfl
@[simp] theorem State.pruneClaims_reader (s : State) : (s.pruneClaims).reader = s.reader := rfl
@[simp] theorem State.pruneClaims_article (s : State) : (s.pruneClaims).article = s.article := rfl
@[simp] theorem State.pruneClaims_drives (s : State) : (s.pruneClaims).drives = s.drives := rfl
@[simp] theorem State.pruneClaims_heat (s : State) : (s.pruneClaims).heat = s.heat := rfl
@[simp] theorem State.pruneClaims_session (s : State) : (s.pruneClaims).session = s.session := rfl
@[simp] theorem State.pruneClaims_pending (s : State) : (s.pruneClaims).pending = s.pending := rfl
@[simp] theorem State.pruneClaims_draws (s : State) : (s.pruneClaims).draws = s.draws := rfl

-- mapPath changes path alone
@[simp] theorem State.mapPath_host (s : State) (f : Path → Path) : (s.mapPath f).host = s.host := rfl
@[simp] theorem State.mapPath_notices (s : State) (f : Path → Path) : (s.mapPath f).notices = s.notices := rfl
@[simp] theorem State.mapPath_belt (s : State) (f : Path → Path) : (s.mapPath f).belt = s.belt := rfl
@[simp] theorem State.mapPath_map (s : State) (f : Path → Path) : (s.mapPath f).map = s.map := rfl
@[simp] theorem State.mapPath_bins (s : State) (f : Path → Path) : (s.mapPath f).bins = s.bins := rfl
@[simp] theorem State.mapPath_member (s : State) (f : Path → Path) : (s.mapPath f).member = s.member := rfl
@[simp] theorem State.mapPath_ownDigest (s : State) (f : Path → Path) : (s.mapPath f).ownDigest = s.ownDigest := rfl
@[simp] theorem State.mapPath_gates (s : State) (f : Path → Path) : (s.mapPath f).gates = s.gates := rfl
@[simp] theorem State.mapPath_dutyReports (s : State) (f : Path → Path) : (s.mapPath f).dutyReports = s.dutyReports := rfl
@[simp] theorem State.mapPath_line (s : State) (f : Path → Path) : (s.mapPath f).line = s.line := rfl
@[simp] theorem State.mapPath_eyes (s : State) (f : Path → Path) : (s.mapPath f).eyes = s.eyes := rfl
@[simp] theorem State.mapPath_scan (s : State) (f : Path → Path) : (s.mapPath f).scan = s.scan := rfl
@[simp] theorem State.mapPath_reader (s : State) (f : Path → Path) : (s.mapPath f).reader = s.reader := rfl
@[simp] theorem State.mapPath_article (s : State) (f : Path → Path) : (s.mapPath f).article = s.article := rfl
@[simp] theorem State.mapPath_drives (s : State) (f : Path → Path) : (s.mapPath f).drives = s.drives := rfl
@[simp] theorem State.mapPath_heat (s : State) (f : Path → Path) : (s.mapPath f).heat = s.heat := rfl
@[simp] theorem State.mapPath_session (s : State) (f : Path → Path) : (s.mapPath f).session = s.session := rfl
@[simp] theorem State.mapPath_pending (s : State) (f : Path → Path) : (s.mapPath f).pending = s.pending := rfl
@[simp] theorem State.mapPath_draws (s : State) (f : Path → Path) : (s.mapPath f).draws = s.draws := rfl

-- setEntryRecord changes path alone
@[simp] theorem State.setEntryRecord_host (s : State) (c : Container) : (s.setEntryRecord c).host = s.host := rfl
@[simp] theorem State.setEntryRecord_notices (s : State) (c : Container) : (s.setEntryRecord c).notices = s.notices := rfl
@[simp] theorem State.setEntryRecord_belt (s : State) (c : Container) : (s.setEntryRecord c).belt = s.belt := rfl
@[simp] theorem State.setEntryRecord_map (s : State) (c : Container) : (s.setEntryRecord c).map = s.map := rfl
@[simp] theorem State.setEntryRecord_bins (s : State) (c : Container) : (s.setEntryRecord c).bins = s.bins := rfl
@[simp] theorem State.setEntryRecord_member (s : State) (c : Container) : (s.setEntryRecord c).member = s.member := rfl
@[simp] theorem State.setEntryRecord_ownDigest (s : State) (c : Container) : (s.setEntryRecord c).ownDigest = s.ownDigest := rfl
@[simp] theorem State.setEntryRecord_gates (s : State) (c : Container) : (s.setEntryRecord c).gates = s.gates := rfl
@[simp] theorem State.setEntryRecord_dutyReports (s : State) (c : Container) : (s.setEntryRecord c).dutyReports = s.dutyReports := rfl
@[simp] theorem State.setEntryRecord_line (s : State) (c : Container) : (s.setEntryRecord c).line = s.line := rfl
@[simp] theorem State.setEntryRecord_eyes (s : State) (c : Container) : (s.setEntryRecord c).eyes = s.eyes := rfl
@[simp] theorem State.setEntryRecord_scan (s : State) (c : Container) : (s.setEntryRecord c).scan = s.scan := rfl
@[simp] theorem State.setEntryRecord_reader (s : State) (c : Container) : (s.setEntryRecord c).reader = s.reader := rfl
@[simp] theorem State.setEntryRecord_article (s : State) (c : Container) : (s.setEntryRecord c).article = s.article := rfl
@[simp] theorem State.setEntryRecord_drives (s : State) (c : Container) : (s.setEntryRecord c).drives = s.drives := rfl
@[simp] theorem State.setEntryRecord_heat (s : State) (c : Container) : (s.setEntryRecord c).heat = s.heat := rfl
@[simp] theorem State.setEntryRecord_session (s : State) (c : Container) : (s.setEntryRecord c).session = s.session := rfl
@[simp] theorem State.setEntryRecord_pending (s : State) (c : Container) : (s.setEntryRecord c).pending = s.pending := rfl
@[simp] theorem State.setEntryRecord_draws (s : State) (c : Container) : (s.setEntryRecord c).draws = s.draws := rfl

-- emptyEntry changes path alone
@[simp] theorem State.emptyEntry_host (s : State) : (s.emptyEntry).host = s.host := rfl
@[simp] theorem State.emptyEntry_notices (s : State) : (s.emptyEntry).notices = s.notices := rfl
@[simp] theorem State.emptyEntry_belt (s : State) : (s.emptyEntry).belt = s.belt := rfl
@[simp] theorem State.emptyEntry_map (s : State) : (s.emptyEntry).map = s.map := rfl
@[simp] theorem State.emptyEntry_bins (s : State) : (s.emptyEntry).bins = s.bins := rfl
@[simp] theorem State.emptyEntry_member (s : State) : (s.emptyEntry).member = s.member := rfl
@[simp] theorem State.emptyEntry_ownDigest (s : State) : (s.emptyEntry).ownDigest = s.ownDigest := rfl
@[simp] theorem State.emptyEntry_gates (s : State) : (s.emptyEntry).gates = s.gates := rfl
@[simp] theorem State.emptyEntry_dutyReports (s : State) : (s.emptyEntry).dutyReports = s.dutyReports := rfl
@[simp] theorem State.emptyEntry_line (s : State) : (s.emptyEntry).line = s.line := rfl
@[simp] theorem State.emptyEntry_eyes (s : State) : (s.emptyEntry).eyes = s.eyes := rfl
@[simp] theorem State.emptyEntry_scan (s : State) : (s.emptyEntry).scan = s.scan := rfl
@[simp] theorem State.emptyEntry_reader (s : State) : (s.emptyEntry).reader = s.reader := rfl
@[simp] theorem State.emptyEntry_article (s : State) : (s.emptyEntry).article = s.article := rfl
@[simp] theorem State.emptyEntry_drives (s : State) : (s.emptyEntry).drives = s.drives := rfl
@[simp] theorem State.emptyEntry_heat (s : State) : (s.emptyEntry).heat = s.heat := rfl
@[simp] theorem State.emptyEntry_session (s : State) : (s.emptyEntry).session = s.session := rfl
@[simp] theorem State.emptyEntry_pending (s : State) : (s.emptyEntry).pending = s.pending := rfl
@[simp] theorem State.emptyEntry_draws (s : State) : (s.emptyEntry).draws = s.draws := rfl

-- closeWindow changes path alone
@[simp] theorem State.closeWindow_host (s : State) : (s.closeWindow).host = s.host := rfl
@[simp] theorem State.closeWindow_notices (s : State) : (s.closeWindow).notices = s.notices := rfl
@[simp] theorem State.closeWindow_belt (s : State) : (s.closeWindow).belt = s.belt := rfl
@[simp] theorem State.closeWindow_map (s : State) : (s.closeWindow).map = s.map := rfl
@[simp] theorem State.closeWindow_bins (s : State) : (s.closeWindow).bins = s.bins := rfl
@[simp] theorem State.closeWindow_member (s : State) : (s.closeWindow).member = s.member := rfl
@[simp] theorem State.closeWindow_ownDigest (s : State) : (s.closeWindow).ownDigest = s.ownDigest := rfl
@[simp] theorem State.closeWindow_gates (s : State) : (s.closeWindow).gates = s.gates := rfl
@[simp] theorem State.closeWindow_dutyReports (s : State) : (s.closeWindow).dutyReports = s.dutyReports := rfl
@[simp] theorem State.closeWindow_line (s : State) : (s.closeWindow).line = s.line := rfl
@[simp] theorem State.closeWindow_eyes (s : State) : (s.closeWindow).eyes = s.eyes := rfl
@[simp] theorem State.closeWindow_scan (s : State) : (s.closeWindow).scan = s.scan := rfl
@[simp] theorem State.closeWindow_reader (s : State) : (s.closeWindow).reader = s.reader := rfl
@[simp] theorem State.closeWindow_article (s : State) : (s.closeWindow).article = s.article := rfl
@[simp] theorem State.closeWindow_drives (s : State) : (s.closeWindow).drives = s.drives := rfl
@[simp] theorem State.closeWindow_heat (s : State) : (s.closeWindow).heat = s.heat := rfl
@[simp] theorem State.closeWindow_session (s : State) : (s.closeWindow).session = s.session := rfl
@[simp] theorem State.closeWindow_pending (s : State) : (s.closeWindow).pending = s.pending := rfl
@[simp] theorem State.closeWindow_draws (s : State) : (s.closeWindow).draws = s.draws := rfl

-- loseTrust changes path alone
@[simp] theorem State.loseTrust_host (s : State) : (s.loseTrust).host = s.host := rfl
@[simp] theorem State.loseTrust_notices (s : State) : (s.loseTrust).notices = s.notices := rfl
@[simp] theorem State.loseTrust_belt (s : State) : (s.loseTrust).belt = s.belt := rfl
@[simp] theorem State.loseTrust_map (s : State) : (s.loseTrust).map = s.map := rfl
@[simp] theorem State.loseTrust_bins (s : State) : (s.loseTrust).bins = s.bins := rfl
@[simp] theorem State.loseTrust_member (s : State) : (s.loseTrust).member = s.member := rfl
@[simp] theorem State.loseTrust_ownDigest (s : State) : (s.loseTrust).ownDigest = s.ownDigest := rfl
@[simp] theorem State.loseTrust_gates (s : State) : (s.loseTrust).gates = s.gates := rfl
@[simp] theorem State.loseTrust_dutyReports (s : State) : (s.loseTrust).dutyReports = s.dutyReports := rfl
@[simp] theorem State.loseTrust_line (s : State) : (s.loseTrust).line = s.line := rfl
@[simp] theorem State.loseTrust_eyes (s : State) : (s.loseTrust).eyes = s.eyes := rfl
@[simp] theorem State.loseTrust_scan (s : State) : (s.loseTrust).scan = s.scan := rfl
@[simp] theorem State.loseTrust_reader (s : State) : (s.loseTrust).reader = s.reader := rfl
@[simp] theorem State.loseTrust_article (s : State) : (s.loseTrust).article = s.article := rfl
@[simp] theorem State.loseTrust_drives (s : State) : (s.loseTrust).drives = s.drives := rfl
@[simp] theorem State.loseTrust_heat (s : State) : (s.loseTrust).heat = s.heat := rfl
@[simp] theorem State.loseTrust_session (s : State) : (s.loseTrust).session = s.session := rfl
@[simp] theorem State.loseTrust_pending (s : State) : (s.loseTrust).pending = s.pending := rfl
@[simp] theorem State.loseTrust_draws (s : State) : (s.loseTrust).draws = s.draws := rfl

-- removeStuck changes path alone
@[simp] theorem State.removeStuck_host (s : State) : (s.removeStuck).host = s.host := rfl
@[simp] theorem State.removeStuck_notices (s : State) : (s.removeStuck).notices = s.notices := rfl
@[simp] theorem State.removeStuck_belt (s : State) : (s.removeStuck).belt = s.belt := rfl
@[simp] theorem State.removeStuck_map (s : State) : (s.removeStuck).map = s.map := rfl
@[simp] theorem State.removeStuck_bins (s : State) : (s.removeStuck).bins = s.bins := rfl
@[simp] theorem State.removeStuck_member (s : State) : (s.removeStuck).member = s.member := rfl
@[simp] theorem State.removeStuck_ownDigest (s : State) : (s.removeStuck).ownDigest = s.ownDigest := rfl
@[simp] theorem State.removeStuck_gates (s : State) : (s.removeStuck).gates = s.gates := rfl
@[simp] theorem State.removeStuck_dutyReports (s : State) : (s.removeStuck).dutyReports = s.dutyReports := rfl
@[simp] theorem State.removeStuck_line (s : State) : (s.removeStuck).line = s.line := rfl
@[simp] theorem State.removeStuck_eyes (s : State) : (s.removeStuck).eyes = s.eyes := rfl
@[simp] theorem State.removeStuck_scan (s : State) : (s.removeStuck).scan = s.scan := rfl
@[simp] theorem State.removeStuck_reader (s : State) : (s.removeStuck).reader = s.reader := rfl
@[simp] theorem State.removeStuck_article (s : State) : (s.removeStuck).article = s.article := rfl
@[simp] theorem State.removeStuck_drives (s : State) : (s.removeStuck).drives = s.drives := rfl
@[simp] theorem State.removeStuck_heat (s : State) : (s.removeStuck).heat = s.heat := rfl
@[simp] theorem State.removeStuck_session (s : State) : (s.removeStuck).session = s.session := rfl
@[simp] theorem State.removeStuck_pending (s : State) : (s.removeStuck).pending = s.pending := rfl
@[simp] theorem State.removeStuck_draws (s : State) : (s.removeStuck).draws = s.draws := rfl

-- mapSession changes session alone
@[simp] theorem State.mapSession_host (s : State) (f : Session → Session) : (s.mapSession f).host = s.host := rfl
@[simp] theorem State.mapSession_notices (s : State) (f : Session → Session) : (s.mapSession f).notices = s.notices := rfl
@[simp] theorem State.mapSession_belt (s : State) (f : Session → Session) : (s.mapSession f).belt = s.belt := rfl
@[simp] theorem State.mapSession_map (s : State) (f : Session → Session) : (s.mapSession f).map = s.map := rfl
@[simp] theorem State.mapSession_bins (s : State) (f : Session → Session) : (s.mapSession f).bins = s.bins := rfl
@[simp] theorem State.mapSession_member (s : State) (f : Session → Session) : (s.mapSession f).member = s.member := rfl
@[simp] theorem State.mapSession_ownDigest (s : State) (f : Session → Session) : (s.mapSession f).ownDigest = s.ownDigest := rfl
@[simp] theorem State.mapSession_gates (s : State) (f : Session → Session) : (s.mapSession f).gates = s.gates := rfl
@[simp] theorem State.mapSession_dutyReports (s : State) (f : Session → Session) : (s.mapSession f).dutyReports = s.dutyReports := rfl
@[simp] theorem State.mapSession_line (s : State) (f : Session → Session) : (s.mapSession f).line = s.line := rfl
@[simp] theorem State.mapSession_path (s : State) (f : Session → Session) : (s.mapSession f).path = s.path := rfl
@[simp] theorem State.mapSession_eyes (s : State) (f : Session → Session) : (s.mapSession f).eyes = s.eyes := rfl
@[simp] theorem State.mapSession_scan (s : State) (f : Session → Session) : (s.mapSession f).scan = s.scan := rfl
@[simp] theorem State.mapSession_reader (s : State) (f : Session → Session) : (s.mapSession f).reader = s.reader := rfl
@[simp] theorem State.mapSession_article (s : State) (f : Session → Session) : (s.mapSession f).article = s.article := rfl
@[simp] theorem State.mapSession_drives (s : State) (f : Session → Session) : (s.mapSession f).drives = s.drives := rfl
@[simp] theorem State.mapSession_heat (s : State) (f : Session → Session) : (s.mapSession f).heat = s.heat := rfl
@[simp] theorem State.mapSession_pending (s : State) (f : Session → Session) : (s.mapSession f).pending = s.pending := rfl
@[simp] theorem State.mapSession_draws (s : State) (f : Session → Session) : (s.mapSession f).draws = s.draws := rfl

-- setUndecided changes session alone
@[simp] theorem State.setUndecided_host (s : State) : (s.setUndecided).host = s.host := rfl
@[simp] theorem State.setUndecided_notices (s : State) : (s.setUndecided).notices = s.notices := rfl
@[simp] theorem State.setUndecided_belt (s : State) : (s.setUndecided).belt = s.belt := rfl
@[simp] theorem State.setUndecided_map (s : State) : (s.setUndecided).map = s.map := rfl
@[simp] theorem State.setUndecided_bins (s : State) : (s.setUndecided).bins = s.bins := rfl
@[simp] theorem State.setUndecided_member (s : State) : (s.setUndecided).member = s.member := rfl
@[simp] theorem State.setUndecided_ownDigest (s : State) : (s.setUndecided).ownDigest = s.ownDigest := rfl
@[simp] theorem State.setUndecided_gates (s : State) : (s.setUndecided).gates = s.gates := rfl
@[simp] theorem State.setUndecided_dutyReports (s : State) : (s.setUndecided).dutyReports = s.dutyReports := rfl
@[simp] theorem State.setUndecided_line (s : State) : (s.setUndecided).line = s.line := rfl
@[simp] theorem State.setUndecided_path (s : State) : (s.setUndecided).path = s.path := rfl
@[simp] theorem State.setUndecided_eyes (s : State) : (s.setUndecided).eyes = s.eyes := rfl
@[simp] theorem State.setUndecided_scan (s : State) : (s.setUndecided).scan = s.scan := rfl
@[simp] theorem State.setUndecided_reader (s : State) : (s.setUndecided).reader = s.reader := rfl
@[simp] theorem State.setUndecided_article (s : State) : (s.setUndecided).article = s.article := rfl
@[simp] theorem State.setUndecided_drives (s : State) : (s.setUndecided).drives = s.drives := rfl
@[simp] theorem State.setUndecided_heat (s : State) : (s.setUndecided).heat = s.heat := rfl
@[simp] theorem State.setUndecided_pending (s : State) : (s.setUndecided).pending = s.pending := rfl
@[simp] theorem State.setUndecided_draws (s : State) : (s.setUndecided).draws = s.draws := rfl

-- apertureEvent changes session alone
@[simp] theorem State.apertureEvent_host (s : State) : (s.apertureEvent).host = s.host := rfl
@[simp] theorem State.apertureEvent_notices (s : State) : (s.apertureEvent).notices = s.notices := rfl
@[simp] theorem State.apertureEvent_belt (s : State) : (s.apertureEvent).belt = s.belt := rfl
@[simp] theorem State.apertureEvent_map (s : State) : (s.apertureEvent).map = s.map := rfl
@[simp] theorem State.apertureEvent_bins (s : State) : (s.apertureEvent).bins = s.bins := rfl
@[simp] theorem State.apertureEvent_member (s : State) : (s.apertureEvent).member = s.member := rfl
@[simp] theorem State.apertureEvent_ownDigest (s : State) : (s.apertureEvent).ownDigest = s.ownDigest := rfl
@[simp] theorem State.apertureEvent_gates (s : State) : (s.apertureEvent).gates = s.gates := rfl
@[simp] theorem State.apertureEvent_dutyReports (s : State) : (s.apertureEvent).dutyReports = s.dutyReports := rfl
@[simp] theorem State.apertureEvent_line (s : State) : (s.apertureEvent).line = s.line := rfl
@[simp] theorem State.apertureEvent_path (s : State) : (s.apertureEvent).path = s.path := rfl
@[simp] theorem State.apertureEvent_eyes (s : State) : (s.apertureEvent).eyes = s.eyes := rfl
@[simp] theorem State.apertureEvent_scan (s : State) : (s.apertureEvent).scan = s.scan := rfl
@[simp] theorem State.apertureEvent_reader (s : State) : (s.apertureEvent).reader = s.reader := rfl
@[simp] theorem State.apertureEvent_article (s : State) : (s.apertureEvent).article = s.article := rfl
@[simp] theorem State.apertureEvent_drives (s : State) : (s.apertureEvent).drives = s.drives := rfl
@[simp] theorem State.apertureEvent_heat (s : State) : (s.apertureEvent).heat = s.heat := rfl
@[simp] theorem State.apertureEvent_pending (s : State) : (s.apertureEvent).pending = s.pending := rfl
@[simp] theorem State.apertureEvent_draws (s : State) : (s.apertureEvent).draws = s.draws := rfl

-- mapArticle changes article alone
@[simp] theorem State.mapArticle_host (s : State) (f : ArticleUnit → ArticleUnit) : (s.mapArticle f).host = s.host := rfl
@[simp] theorem State.mapArticle_notices (s : State) (f : ArticleUnit → ArticleUnit) : (s.mapArticle f).notices = s.notices := rfl
@[simp] theorem State.mapArticle_belt (s : State) (f : ArticleUnit → ArticleUnit) : (s.mapArticle f).belt = s.belt := rfl
@[simp] theorem State.mapArticle_map (s : State) (f : ArticleUnit → ArticleUnit) : (s.mapArticle f).map = s.map := rfl
@[simp] theorem State.mapArticle_bins (s : State) (f : ArticleUnit → ArticleUnit) : (s.mapArticle f).bins = s.bins := rfl
@[simp] theorem State.mapArticle_member (s : State) (f : ArticleUnit → ArticleUnit) : (s.mapArticle f).member = s.member := rfl
@[simp] theorem State.mapArticle_ownDigest (s : State) (f : ArticleUnit → ArticleUnit) : (s.mapArticle f).ownDigest = s.ownDigest := rfl
@[simp] theorem State.mapArticle_gates (s : State) (f : ArticleUnit → ArticleUnit) : (s.mapArticle f).gates = s.gates := rfl
@[simp] theorem State.mapArticle_dutyReports (s : State) (f : ArticleUnit → ArticleUnit) : (s.mapArticle f).dutyReports = s.dutyReports := rfl
@[simp] theorem State.mapArticle_line (s : State) (f : ArticleUnit → ArticleUnit) : (s.mapArticle f).line = s.line := rfl
@[simp] theorem State.mapArticle_path (s : State) (f : ArticleUnit → ArticleUnit) : (s.mapArticle f).path = s.path := rfl
@[simp] theorem State.mapArticle_eyes (s : State) (f : ArticleUnit → ArticleUnit) : (s.mapArticle f).eyes = s.eyes := rfl
@[simp] theorem State.mapArticle_scan (s : State) (f : ArticleUnit → ArticleUnit) : (s.mapArticle f).scan = s.scan := rfl
@[simp] theorem State.mapArticle_reader (s : State) (f : ArticleUnit → ArticleUnit) : (s.mapArticle f).reader = s.reader := rfl
@[simp] theorem State.mapArticle_drives (s : State) (f : ArticleUnit → ArticleUnit) : (s.mapArticle f).drives = s.drives := rfl
@[simp] theorem State.mapArticle_heat (s : State) (f : ArticleUnit → ArticleUnit) : (s.mapArticle f).heat = s.heat := rfl
@[simp] theorem State.mapArticle_session (s : State) (f : ArticleUnit → ArticleUnit) : (s.mapArticle f).session = s.session := rfl
@[simp] theorem State.mapArticle_pending (s : State) (f : ArticleUnit → ArticleUnit) : (s.mapArticle f).pending = s.pending := rfl
@[simp] theorem State.mapArticle_draws (s : State) (f : ArticleUnit → ArticleUnit) : (s.mapArticle f).draws = s.draws := rfl

-- withdrawLookup changes article alone
@[simp] theorem State.withdrawLookup_host (s : State) : (s.withdrawLookup).host = s.host := rfl
@[simp] theorem State.withdrawLookup_notices (s : State) : (s.withdrawLookup).notices = s.notices := rfl
@[simp] theorem State.withdrawLookup_belt (s : State) : (s.withdrawLookup).belt = s.belt := rfl
@[simp] theorem State.withdrawLookup_map (s : State) : (s.withdrawLookup).map = s.map := rfl
@[simp] theorem State.withdrawLookup_bins (s : State) : (s.withdrawLookup).bins = s.bins := rfl
@[simp] theorem State.withdrawLookup_member (s : State) : (s.withdrawLookup).member = s.member := rfl
@[simp] theorem State.withdrawLookup_ownDigest (s : State) : (s.withdrawLookup).ownDigest = s.ownDigest := rfl
@[simp] theorem State.withdrawLookup_gates (s : State) : (s.withdrawLookup).gates = s.gates := rfl
@[simp] theorem State.withdrawLookup_dutyReports (s : State) : (s.withdrawLookup).dutyReports = s.dutyReports := rfl
@[simp] theorem State.withdrawLookup_line (s : State) : (s.withdrawLookup).line = s.line := rfl
@[simp] theorem State.withdrawLookup_path (s : State) : (s.withdrawLookup).path = s.path := rfl
@[simp] theorem State.withdrawLookup_eyes (s : State) : (s.withdrawLookup).eyes = s.eyes := rfl
@[simp] theorem State.withdrawLookup_scan (s : State) : (s.withdrawLookup).scan = s.scan := rfl
@[simp] theorem State.withdrawLookup_reader (s : State) : (s.withdrawLookup).reader = s.reader := rfl
@[simp] theorem State.withdrawLookup_drives (s : State) : (s.withdrawLookup).drives = s.drives := rfl
@[simp] theorem State.withdrawLookup_heat (s : State) : (s.withdrawLookup).heat = s.heat := rfl
@[simp] theorem State.withdrawLookup_session (s : State) : (s.withdrawLookup).session = s.session := rfl
@[simp] theorem State.withdrawLookup_pending (s : State) : (s.withdrawLookup).pending = s.pending := rfl
@[simp] theorem State.withdrawLookup_draws (s : State) : (s.withdrawLookup).draws = s.draws := rfl

-- freePort changes article alone
@[simp] theorem State.freePort_host (s : State) (l : Lookup) : (s.freePort l).host = s.host := rfl
@[simp] theorem State.freePort_notices (s : State) (l : Lookup) : (s.freePort l).notices = s.notices := rfl
@[simp] theorem State.freePort_belt (s : State) (l : Lookup) : (s.freePort l).belt = s.belt := rfl
@[simp] theorem State.freePort_map (s : State) (l : Lookup) : (s.freePort l).map = s.map := rfl
@[simp] theorem State.freePort_bins (s : State) (l : Lookup) : (s.freePort l).bins = s.bins := rfl
@[simp] theorem State.freePort_member (s : State) (l : Lookup) : (s.freePort l).member = s.member := rfl
@[simp] theorem State.freePort_ownDigest (s : State) (l : Lookup) : (s.freePort l).ownDigest = s.ownDigest := rfl
@[simp] theorem State.freePort_gates (s : State) (l : Lookup) : (s.freePort l).gates = s.gates := rfl
@[simp] theorem State.freePort_dutyReports (s : State) (l : Lookup) : (s.freePort l).dutyReports = s.dutyReports := rfl
@[simp] theorem State.freePort_line (s : State) (l : Lookup) : (s.freePort l).line = s.line := rfl
@[simp] theorem State.freePort_path (s : State) (l : Lookup) : (s.freePort l).path = s.path := rfl
@[simp] theorem State.freePort_eyes (s : State) (l : Lookup) : (s.freePort l).eyes = s.eyes := rfl
@[simp] theorem State.freePort_scan (s : State) (l : Lookup) : (s.freePort l).scan = s.scan := rfl
@[simp] theorem State.freePort_reader (s : State) (l : Lookup) : (s.freePort l).reader = s.reader := rfl
@[simp] theorem State.freePort_drives (s : State) (l : Lookup) : (s.freePort l).drives = s.drives := rfl
@[simp] theorem State.freePort_heat (s : State) (l : Lookup) : (s.freePort l).heat = s.heat := rfl
@[simp] theorem State.freePort_session (s : State) (l : Lookup) : (s.freePort l).session = s.session := rfl
@[simp] theorem State.freePort_pending (s : State) (l : Lookup) : (s.freePort l).pending = s.pending := rfl
@[simp] theorem State.freePort_draws (s : State) (l : Lookup) : (s.freePort l).draws = s.draws := rfl

-- mapScan changes scan alone
@[simp] theorem State.mapScan_host (s : State) (f : ScanUnit → ScanUnit) : (s.mapScan f).host = s.host := rfl
@[simp] theorem State.mapScan_notices (s : State) (f : ScanUnit → ScanUnit) : (s.mapScan f).notices = s.notices := rfl
@[simp] theorem State.mapScan_belt (s : State) (f : ScanUnit → ScanUnit) : (s.mapScan f).belt = s.belt := rfl
@[simp] theorem State.mapScan_map (s : State) (f : ScanUnit → ScanUnit) : (s.mapScan f).map = s.map := rfl
@[simp] theorem State.mapScan_bins (s : State) (f : ScanUnit → ScanUnit) : (s.mapScan f).bins = s.bins := rfl
@[simp] theorem State.mapScan_member (s : State) (f : ScanUnit → ScanUnit) : (s.mapScan f).member = s.member := rfl
@[simp] theorem State.mapScan_ownDigest (s : State) (f : ScanUnit → ScanUnit) : (s.mapScan f).ownDigest = s.ownDigest := rfl
@[simp] theorem State.mapScan_gates (s : State) (f : ScanUnit → ScanUnit) : (s.mapScan f).gates = s.gates := rfl
@[simp] theorem State.mapScan_dutyReports (s : State) (f : ScanUnit → ScanUnit) : (s.mapScan f).dutyReports = s.dutyReports := rfl
@[simp] theorem State.mapScan_line (s : State) (f : ScanUnit → ScanUnit) : (s.mapScan f).line = s.line := rfl
@[simp] theorem State.mapScan_path (s : State) (f : ScanUnit → ScanUnit) : (s.mapScan f).path = s.path := rfl
@[simp] theorem State.mapScan_eyes (s : State) (f : ScanUnit → ScanUnit) : (s.mapScan f).eyes = s.eyes := rfl
@[simp] theorem State.mapScan_reader (s : State) (f : ScanUnit → ScanUnit) : (s.mapScan f).reader = s.reader := rfl
@[simp] theorem State.mapScan_article (s : State) (f : ScanUnit → ScanUnit) : (s.mapScan f).article = s.article := rfl
@[simp] theorem State.mapScan_drives (s : State) (f : ScanUnit → ScanUnit) : (s.mapScan f).drives = s.drives := rfl
@[simp] theorem State.mapScan_heat (s : State) (f : ScanUnit → ScanUnit) : (s.mapScan f).heat = s.heat := rfl
@[simp] theorem State.mapScan_session (s : State) (f : ScanUnit → ScanUnit) : (s.mapScan f).session = s.session := rfl
@[simp] theorem State.mapScan_pending (s : State) (f : ScanUnit → ScanUnit) : (s.mapScan f).pending = s.pending := rfl
@[simp] theorem State.mapScan_draws (s : State) (f : ScanUnit → ScanUnit) : (s.mapScan f).draws = s.draws := rfl

-- dropScan changes scan alone
@[simp] theorem State.dropScan_host (s : State) : (s.dropScan).host = s.host := rfl
@[simp] theorem State.dropScan_notices (s : State) : (s.dropScan).notices = s.notices := rfl
@[simp] theorem State.dropScan_belt (s : State) : (s.dropScan).belt = s.belt := rfl
@[simp] theorem State.dropScan_map (s : State) : (s.dropScan).map = s.map := rfl
@[simp] theorem State.dropScan_bins (s : State) : (s.dropScan).bins = s.bins := rfl
@[simp] theorem State.dropScan_member (s : State) : (s.dropScan).member = s.member := rfl
@[simp] theorem State.dropScan_ownDigest (s : State) : (s.dropScan).ownDigest = s.ownDigest := rfl
@[simp] theorem State.dropScan_gates (s : State) : (s.dropScan).gates = s.gates := rfl
@[simp] theorem State.dropScan_dutyReports (s : State) : (s.dropScan).dutyReports = s.dutyReports := rfl
@[simp] theorem State.dropScan_line (s : State) : (s.dropScan).line = s.line := rfl
@[simp] theorem State.dropScan_path (s : State) : (s.dropScan).path = s.path := rfl
@[simp] theorem State.dropScan_eyes (s : State) : (s.dropScan).eyes = s.eyes := rfl
@[simp] theorem State.dropScan_reader (s : State) : (s.dropScan).reader = s.reader := rfl
@[simp] theorem State.dropScan_article (s : State) : (s.dropScan).article = s.article := rfl
@[simp] theorem State.dropScan_drives (s : State) : (s.dropScan).drives = s.drives := rfl
@[simp] theorem State.dropScan_heat (s : State) : (s.dropScan).heat = s.heat := rfl
@[simp] theorem State.dropScan_session (s : State) : (s.dropScan).session = s.session := rfl
@[simp] theorem State.dropScan_pending (s : State) : (s.dropScan).pending = s.pending := rfl
@[simp] theorem State.dropScan_draws (s : State) : (s.dropScan).draws = s.draws := rfl

-- abandonScan changes scan alone
@[simp] theorem State.abandonScan_host (s : State) : (s.abandonScan).host = s.host := rfl
@[simp] theorem State.abandonScan_notices (s : State) : (s.abandonScan).notices = s.notices := rfl
@[simp] theorem State.abandonScan_belt (s : State) : (s.abandonScan).belt = s.belt := rfl
@[simp] theorem State.abandonScan_map (s : State) : (s.abandonScan).map = s.map := rfl
@[simp] theorem State.abandonScan_bins (s : State) : (s.abandonScan).bins = s.bins := rfl
@[simp] theorem State.abandonScan_member (s : State) : (s.abandonScan).member = s.member := rfl
@[simp] theorem State.abandonScan_ownDigest (s : State) : (s.abandonScan).ownDigest = s.ownDigest := rfl
@[simp] theorem State.abandonScan_gates (s : State) : (s.abandonScan).gates = s.gates := rfl
@[simp] theorem State.abandonScan_dutyReports (s : State) : (s.abandonScan).dutyReports = s.dutyReports := rfl
@[simp] theorem State.abandonScan_line (s : State) : (s.abandonScan).line = s.line := rfl
@[simp] theorem State.abandonScan_path (s : State) : (s.abandonScan).path = s.path := rfl
@[simp] theorem State.abandonScan_eyes (s : State) : (s.abandonScan).eyes = s.eyes := rfl
@[simp] theorem State.abandonScan_reader (s : State) : (s.abandonScan).reader = s.reader := rfl
@[simp] theorem State.abandonScan_article (s : State) : (s.abandonScan).article = s.article := rfl
@[simp] theorem State.abandonScan_drives (s : State) : (s.abandonScan).drives = s.drives := rfl
@[simp] theorem State.abandonScan_heat (s : State) : (s.abandonScan).heat = s.heat := rfl
@[simp] theorem State.abandonScan_session (s : State) : (s.abandonScan).session = s.session := rfl
@[simp] theorem State.abandonScan_pending (s : State) : (s.abandonScan).pending = s.pending := rfl
@[simp] theorem State.abandonScan_draws (s : State) : (s.abandonScan).draws = s.draws := rfl

-- mapChannel changes drives alone
@[simp] theorem State.mapChannel_host (s : State) (c : Channel) (f : ChannelRecord → ChannelRecord) : (s.mapChannel c f).host = s.host := rfl
@[simp] theorem State.mapChannel_notices (s : State) (c : Channel) (f : ChannelRecord → ChannelRecord) : (s.mapChannel c f).notices = s.notices := rfl
@[simp] theorem State.mapChannel_belt (s : State) (c : Channel) (f : ChannelRecord → ChannelRecord) : (s.mapChannel c f).belt = s.belt := rfl
@[simp] theorem State.mapChannel_map (s : State) (c : Channel) (f : ChannelRecord → ChannelRecord) : (s.mapChannel c f).map = s.map := rfl
@[simp] theorem State.mapChannel_bins (s : State) (c : Channel) (f : ChannelRecord → ChannelRecord) : (s.mapChannel c f).bins = s.bins := rfl
@[simp] theorem State.mapChannel_member (s : State) (c : Channel) (f : ChannelRecord → ChannelRecord) : (s.mapChannel c f).member = s.member := rfl
@[simp] theorem State.mapChannel_ownDigest (s : State) (c : Channel) (f : ChannelRecord → ChannelRecord) : (s.mapChannel c f).ownDigest = s.ownDigest := rfl
@[simp] theorem State.mapChannel_gates (s : State) (c : Channel) (f : ChannelRecord → ChannelRecord) : (s.mapChannel c f).gates = s.gates := rfl
@[simp] theorem State.mapChannel_dutyReports (s : State) (c : Channel) (f : ChannelRecord → ChannelRecord) : (s.mapChannel c f).dutyReports = s.dutyReports := rfl
@[simp] theorem State.mapChannel_line (s : State) (c : Channel) (f : ChannelRecord → ChannelRecord) : (s.mapChannel c f).line = s.line := rfl
@[simp] theorem State.mapChannel_path (s : State) (c : Channel) (f : ChannelRecord → ChannelRecord) : (s.mapChannel c f).path = s.path := rfl
@[simp] theorem State.mapChannel_eyes (s : State) (c : Channel) (f : ChannelRecord → ChannelRecord) : (s.mapChannel c f).eyes = s.eyes := rfl
@[simp] theorem State.mapChannel_scan (s : State) (c : Channel) (f : ChannelRecord → ChannelRecord) : (s.mapChannel c f).scan = s.scan := rfl
@[simp] theorem State.mapChannel_reader (s : State) (c : Channel) (f : ChannelRecord → ChannelRecord) : (s.mapChannel c f).reader = s.reader := rfl
@[simp] theorem State.mapChannel_article (s : State) (c : Channel) (f : ChannelRecord → ChannelRecord) : (s.mapChannel c f).article = s.article := rfl
@[simp] theorem State.mapChannel_heat (s : State) (c : Channel) (f : ChannelRecord → ChannelRecord) : (s.mapChannel c f).heat = s.heat := rfl
@[simp] theorem State.mapChannel_session (s : State) (c : Channel) (f : ChannelRecord → ChannelRecord) : (s.mapChannel c f).session = s.session := rfl
@[simp] theorem State.mapChannel_pending (s : State) (c : Channel) (f : ChannelRecord → ChannelRecord) : (s.mapChannel c f).pending = s.pending := rfl
@[simp] theorem State.mapChannel_draws (s : State) (c : Channel) (f : ChannelRecord → ChannelRecord) : (s.mapChannel c f).draws = s.draws := rfl

-- requestEntry changes drives alone
@[simp] theorem State.requestEntry_host (s : State) (d : Direction) : (s.requestEntry d).host = s.host := rfl
@[simp] theorem State.requestEntry_notices (s : State) (d : Direction) : (s.requestEntry d).notices = s.notices := rfl
@[simp] theorem State.requestEntry_belt (s : State) (d : Direction) : (s.requestEntry d).belt = s.belt := rfl
@[simp] theorem State.requestEntry_map (s : State) (d : Direction) : (s.requestEntry d).map = s.map := rfl
@[simp] theorem State.requestEntry_bins (s : State) (d : Direction) : (s.requestEntry d).bins = s.bins := rfl
@[simp] theorem State.requestEntry_member (s : State) (d : Direction) : (s.requestEntry d).member = s.member := rfl
@[simp] theorem State.requestEntry_ownDigest (s : State) (d : Direction) : (s.requestEntry d).ownDigest = s.ownDigest := rfl
@[simp] theorem State.requestEntry_gates (s : State) (d : Direction) : (s.requestEntry d).gates = s.gates := rfl
@[simp] theorem State.requestEntry_dutyReports (s : State) (d : Direction) : (s.requestEntry d).dutyReports = s.dutyReports := rfl
@[simp] theorem State.requestEntry_line (s : State) (d : Direction) : (s.requestEntry d).line = s.line := rfl
@[simp] theorem State.requestEntry_path (s : State) (d : Direction) : (s.requestEntry d).path = s.path := rfl
@[simp] theorem State.requestEntry_eyes (s : State) (d : Direction) : (s.requestEntry d).eyes = s.eyes := rfl
@[simp] theorem State.requestEntry_scan (s : State) (d : Direction) : (s.requestEntry d).scan = s.scan := rfl
@[simp] theorem State.requestEntry_reader (s : State) (d : Direction) : (s.requestEntry d).reader = s.reader := rfl
@[simp] theorem State.requestEntry_article (s : State) (d : Direction) : (s.requestEntry d).article = s.article := rfl
@[simp] theorem State.requestEntry_heat (s : State) (d : Direction) : (s.requestEntry d).heat = s.heat := rfl
@[simp] theorem State.requestEntry_session (s : State) (d : Direction) : (s.requestEntry d).session = s.session := rfl
@[simp] theorem State.requestEntry_pending (s : State) (d : Direction) : (s.requestEntry d).pending = s.pending := rfl
@[simp] theorem State.requestEntry_draws (s : State) (d : Direction) : (s.requestEntry d).draws = s.draws := rfl

-- stopEntry changes drives alone
@[simp] theorem State.stopEntry_host (s : State) : (s.stopEntry).host = s.host := rfl
@[simp] theorem State.stopEntry_notices (s : State) : (s.stopEntry).notices = s.notices := rfl
@[simp] theorem State.stopEntry_belt (s : State) : (s.stopEntry).belt = s.belt := rfl
@[simp] theorem State.stopEntry_map (s : State) : (s.stopEntry).map = s.map := rfl
@[simp] theorem State.stopEntry_bins (s : State) : (s.stopEntry).bins = s.bins := rfl
@[simp] theorem State.stopEntry_member (s : State) : (s.stopEntry).member = s.member := rfl
@[simp] theorem State.stopEntry_ownDigest (s : State) : (s.stopEntry).ownDigest = s.ownDigest := rfl
@[simp] theorem State.stopEntry_gates (s : State) : (s.stopEntry).gates = s.gates := rfl
@[simp] theorem State.stopEntry_dutyReports (s : State) : (s.stopEntry).dutyReports = s.dutyReports := rfl
@[simp] theorem State.stopEntry_line (s : State) : (s.stopEntry).line = s.line := rfl
@[simp] theorem State.stopEntry_path (s : State) : (s.stopEntry).path = s.path := rfl
@[simp] theorem State.stopEntry_eyes (s : State) : (s.stopEntry).eyes = s.eyes := rfl
@[simp] theorem State.stopEntry_scan (s : State) : (s.stopEntry).scan = s.scan := rfl
@[simp] theorem State.stopEntry_reader (s : State) : (s.stopEntry).reader = s.reader := rfl
@[simp] theorem State.stopEntry_article (s : State) : (s.stopEntry).article = s.article := rfl
@[simp] theorem State.stopEntry_heat (s : State) : (s.stopEntry).heat = s.heat := rfl
@[simp] theorem State.stopEntry_session (s : State) : (s.stopEntry).session = s.session := rfl
@[simp] theorem State.stopEntry_pending (s : State) : (s.stopEntry).pending = s.pending := rfl
@[simp] theorem State.stopEntry_draws (s : State) : (s.stopEntry).draws = s.draws := rfl

-- settleHold changes drives alone
@[simp] theorem State.settleHold_host (s : State) : (s.settleHold).host = s.host := rfl
@[simp] theorem State.settleHold_notices (s : State) : (s.settleHold).notices = s.notices := rfl
@[simp] theorem State.settleHold_belt (s : State) : (s.settleHold).belt = s.belt := rfl
@[simp] theorem State.settleHold_map (s : State) : (s.settleHold).map = s.map := rfl
@[simp] theorem State.settleHold_bins (s : State) : (s.settleHold).bins = s.bins := rfl
@[simp] theorem State.settleHold_member (s : State) : (s.settleHold).member = s.member := rfl
@[simp] theorem State.settleHold_ownDigest (s : State) : (s.settleHold).ownDigest = s.ownDigest := rfl
@[simp] theorem State.settleHold_gates (s : State) : (s.settleHold).gates = s.gates := rfl
@[simp] theorem State.settleHold_dutyReports (s : State) : (s.settleHold).dutyReports = s.dutyReports := rfl
@[simp] theorem State.settleHold_line (s : State) : (s.settleHold).line = s.line := rfl
@[simp] theorem State.settleHold_path (s : State) : (s.settleHold).path = s.path := rfl
@[simp] theorem State.settleHold_eyes (s : State) : (s.settleHold).eyes = s.eyes := rfl
@[simp] theorem State.settleHold_scan (s : State) : (s.settleHold).scan = s.scan := rfl
@[simp] theorem State.settleHold_reader (s : State) : (s.settleHold).reader = s.reader := rfl
@[simp] theorem State.settleHold_article (s : State) : (s.settleHold).article = s.article := rfl
@[simp] theorem State.settleHold_heat (s : State) : (s.settleHold).heat = s.heat := rfl
@[simp] theorem State.settleHold_session (s : State) : (s.settleHold).session = s.session := rfl
@[simp] theorem State.settleHold_pending (s : State) : (s.settleHold).pending = s.pending := rfl
@[simp] theorem State.settleHold_draws (s : State) : (s.settleHold).draws = s.draws := rfl

-- resetDrives changes drives alone
@[simp] theorem State.resetDrives_host (s : State) (d : Drives) : (s.resetDrives d).host = s.host := rfl
@[simp] theorem State.resetDrives_notices (s : State) (d : Drives) : (s.resetDrives d).notices = s.notices := rfl
@[simp] theorem State.resetDrives_belt (s : State) (d : Drives) : (s.resetDrives d).belt = s.belt := rfl
@[simp] theorem State.resetDrives_map (s : State) (d : Drives) : (s.resetDrives d).map = s.map := rfl
@[simp] theorem State.resetDrives_bins (s : State) (d : Drives) : (s.resetDrives d).bins = s.bins := rfl
@[simp] theorem State.resetDrives_member (s : State) (d : Drives) : (s.resetDrives d).member = s.member := rfl
@[simp] theorem State.resetDrives_ownDigest (s : State) (d : Drives) : (s.resetDrives d).ownDigest = s.ownDigest := rfl
@[simp] theorem State.resetDrives_gates (s : State) (d : Drives) : (s.resetDrives d).gates = s.gates := rfl
@[simp] theorem State.resetDrives_dutyReports (s : State) (d : Drives) : (s.resetDrives d).dutyReports = s.dutyReports := rfl
@[simp] theorem State.resetDrives_line (s : State) (d : Drives) : (s.resetDrives d).line = s.line := rfl
@[simp] theorem State.resetDrives_path (s : State) (d : Drives) : (s.resetDrives d).path = s.path := rfl
@[simp] theorem State.resetDrives_eyes (s : State) (d : Drives) : (s.resetDrives d).eyes = s.eyes := rfl
@[simp] theorem State.resetDrives_scan (s : State) (d : Drives) : (s.resetDrives d).scan = s.scan := rfl
@[simp] theorem State.resetDrives_reader (s : State) (d : Drives) : (s.resetDrives d).reader = s.reader := rfl
@[simp] theorem State.resetDrives_article (s : State) (d : Drives) : (s.resetDrives d).article = s.article := rfl
@[simp] theorem State.resetDrives_heat (s : State) (d : Drives) : (s.resetDrives d).heat = s.heat := rfl
@[simp] theorem State.resetDrives_session (s : State) (d : Drives) : (s.resetDrives d).session = s.session := rfl
@[simp] theorem State.resetDrives_pending (s : State) (d : Drives) : (s.resetDrives d).pending = s.pending := rfl
@[simp] theorem State.resetDrives_draws (s : State) (d : Drives) : (s.resetDrives d).draws = s.draws := rfl

-- mapLine changes line alone
@[simp] theorem State.mapLine_host (s : State) (f : Line → Line) : (s.mapLine f).host = s.host := rfl
@[simp] theorem State.mapLine_notices (s : State) (f : Line → Line) : (s.mapLine f).notices = s.notices := rfl
@[simp] theorem State.mapLine_belt (s : State) (f : Line → Line) : (s.mapLine f).belt = s.belt := rfl
@[simp] theorem State.mapLine_map (s : State) (f : Line → Line) : (s.mapLine f).map = s.map := rfl
@[simp] theorem State.mapLine_bins (s : State) (f : Line → Line) : (s.mapLine f).bins = s.bins := rfl
@[simp] theorem State.mapLine_member (s : State) (f : Line → Line) : (s.mapLine f).member = s.member := rfl
@[simp] theorem State.mapLine_ownDigest (s : State) (f : Line → Line) : (s.mapLine f).ownDigest = s.ownDigest := rfl
@[simp] theorem State.mapLine_gates (s : State) (f : Line → Line) : (s.mapLine f).gates = s.gates := rfl
@[simp] theorem State.mapLine_dutyReports (s : State) (f : Line → Line) : (s.mapLine f).dutyReports = s.dutyReports := rfl
@[simp] theorem State.mapLine_path (s : State) (f : Line → Line) : (s.mapLine f).path = s.path := rfl
@[simp] theorem State.mapLine_eyes (s : State) (f : Line → Line) : (s.mapLine f).eyes = s.eyes := rfl
@[simp] theorem State.mapLine_scan (s : State) (f : Line → Line) : (s.mapLine f).scan = s.scan := rfl
@[simp] theorem State.mapLine_reader (s : State) (f : Line → Line) : (s.mapLine f).reader = s.reader := rfl
@[simp] theorem State.mapLine_article (s : State) (f : Line → Line) : (s.mapLine f).article = s.article := rfl
@[simp] theorem State.mapLine_drives (s : State) (f : Line → Line) : (s.mapLine f).drives = s.drives := rfl
@[simp] theorem State.mapLine_heat (s : State) (f : Line → Line) : (s.mapLine f).heat = s.heat := rfl
@[simp] theorem State.mapLine_session (s : State) (f : Line → Line) : (s.mapLine f).session = s.session := rfl
@[simp] theorem State.mapLine_pending (s : State) (f : Line → Line) : (s.mapLine f).pending = s.pending := rfl
@[simp] theorem State.mapLine_draws (s : State) (f : Line → Line) : (s.mapLine f).draws = s.draws := rfl

-- setQueue changes line alone
@[simp] theorem State.setQueue_host (s : State) (q : List QueuedFrame) : (s.setQueue q).host = s.host := rfl
@[simp] theorem State.setQueue_notices (s : State) (q : List QueuedFrame) : (s.setQueue q).notices = s.notices := rfl
@[simp] theorem State.setQueue_belt (s : State) (q : List QueuedFrame) : (s.setQueue q).belt = s.belt := rfl
@[simp] theorem State.setQueue_map (s : State) (q : List QueuedFrame) : (s.setQueue q).map = s.map := rfl
@[simp] theorem State.setQueue_bins (s : State) (q : List QueuedFrame) : (s.setQueue q).bins = s.bins := rfl
@[simp] theorem State.setQueue_member (s : State) (q : List QueuedFrame) : (s.setQueue q).member = s.member := rfl
@[simp] theorem State.setQueue_ownDigest (s : State) (q : List QueuedFrame) : (s.setQueue q).ownDigest = s.ownDigest := rfl
@[simp] theorem State.setQueue_gates (s : State) (q : List QueuedFrame) : (s.setQueue q).gates = s.gates := rfl
@[simp] theorem State.setQueue_dutyReports (s : State) (q : List QueuedFrame) : (s.setQueue q).dutyReports = s.dutyReports := rfl
@[simp] theorem State.setQueue_path (s : State) (q : List QueuedFrame) : (s.setQueue q).path = s.path := rfl
@[simp] theorem State.setQueue_eyes (s : State) (q : List QueuedFrame) : (s.setQueue q).eyes = s.eyes := rfl
@[simp] theorem State.setQueue_scan (s : State) (q : List QueuedFrame) : (s.setQueue q).scan = s.scan := rfl
@[simp] theorem State.setQueue_reader (s : State) (q : List QueuedFrame) : (s.setQueue q).reader = s.reader := rfl
@[simp] theorem State.setQueue_article (s : State) (q : List QueuedFrame) : (s.setQueue q).article = s.article := rfl
@[simp] theorem State.setQueue_drives (s : State) (q : List QueuedFrame) : (s.setQueue q).drives = s.drives := rfl
@[simp] theorem State.setQueue_heat (s : State) (q : List QueuedFrame) : (s.setQueue q).heat = s.heat := rfl
@[simp] theorem State.setQueue_session (s : State) (q : List QueuedFrame) : (s.setQueue q).session = s.session := rfl
@[simp] theorem State.setQueue_pending (s : State) (q : List QueuedFrame) : (s.setQueue q).pending = s.pending := rfl
@[simp] theorem State.setQueue_draws (s : State) (q : List QueuedFrame) : (s.setQueue q).draws = s.draws := rfl

-- replacePayload changes line alone
@[simp] theorem State.replacePayload_host (s : State) (f : Frame) : (s.replacePayload f).host = s.host := rfl
@[simp] theorem State.replacePayload_notices (s : State) (f : Frame) : (s.replacePayload f).notices = s.notices := rfl
@[simp] theorem State.replacePayload_belt (s : State) (f : Frame) : (s.replacePayload f).belt = s.belt := rfl
@[simp] theorem State.replacePayload_map (s : State) (f : Frame) : (s.replacePayload f).map = s.map := rfl
@[simp] theorem State.replacePayload_bins (s : State) (f : Frame) : (s.replacePayload f).bins = s.bins := rfl
@[simp] theorem State.replacePayload_member (s : State) (f : Frame) : (s.replacePayload f).member = s.member := rfl
@[simp] theorem State.replacePayload_ownDigest (s : State) (f : Frame) : (s.replacePayload f).ownDigest = s.ownDigest := rfl
@[simp] theorem State.replacePayload_gates (s : State) (f : Frame) : (s.replacePayload f).gates = s.gates := rfl
@[simp] theorem State.replacePayload_dutyReports (s : State) (f : Frame) : (s.replacePayload f).dutyReports = s.dutyReports := rfl
@[simp] theorem State.replacePayload_path (s : State) (f : Frame) : (s.replacePayload f).path = s.path := rfl
@[simp] theorem State.replacePayload_eyes (s : State) (f : Frame) : (s.replacePayload f).eyes = s.eyes := rfl
@[simp] theorem State.replacePayload_scan (s : State) (f : Frame) : (s.replacePayload f).scan = s.scan := rfl
@[simp] theorem State.replacePayload_reader (s : State) (f : Frame) : (s.replacePayload f).reader = s.reader := rfl
@[simp] theorem State.replacePayload_article (s : State) (f : Frame) : (s.replacePayload f).article = s.article := rfl
@[simp] theorem State.replacePayload_drives (s : State) (f : Frame) : (s.replacePayload f).drives = s.drives := rfl
@[simp] theorem State.replacePayload_heat (s : State) (f : Frame) : (s.replacePayload f).heat = s.heat := rfl
@[simp] theorem State.replacePayload_session (s : State) (f : Frame) : (s.replacePayload f).session = s.session := rfl
@[simp] theorem State.replacePayload_pending (s : State) (f : Frame) : (s.replacePayload f).pending = s.pending := rfl
@[simp] theorem State.replacePayload_draws (s : State) (f : Frame) : (s.replacePayload f).draws = s.draws := rfl

-- withdraw changes line alone
@[simp] theorem State.withdraw_host (s : State) (p : Frame → Bool) : (s.withdraw p).host = s.host := rfl
@[simp] theorem State.withdraw_notices (s : State) (p : Frame → Bool) : (s.withdraw p).notices = s.notices := rfl
@[simp] theorem State.withdraw_belt (s : State) (p : Frame → Bool) : (s.withdraw p).belt = s.belt := rfl
@[simp] theorem State.withdraw_map (s : State) (p : Frame → Bool) : (s.withdraw p).map = s.map := rfl
@[simp] theorem State.withdraw_bins (s : State) (p : Frame → Bool) : (s.withdraw p).bins = s.bins := rfl
@[simp] theorem State.withdraw_member (s : State) (p : Frame → Bool) : (s.withdraw p).member = s.member := rfl
@[simp] theorem State.withdraw_ownDigest (s : State) (p : Frame → Bool) : (s.withdraw p).ownDigest = s.ownDigest := rfl
@[simp] theorem State.withdraw_gates (s : State) (p : Frame → Bool) : (s.withdraw p).gates = s.gates := rfl
@[simp] theorem State.withdraw_dutyReports (s : State) (p : Frame → Bool) : (s.withdraw p).dutyReports = s.dutyReports := rfl
@[simp] theorem State.withdraw_path (s : State) (p : Frame → Bool) : (s.withdraw p).path = s.path := rfl
@[simp] theorem State.withdraw_eyes (s : State) (p : Frame → Bool) : (s.withdraw p).eyes = s.eyes := rfl
@[simp] theorem State.withdraw_scan (s : State) (p : Frame → Bool) : (s.withdraw p).scan = s.scan := rfl
@[simp] theorem State.withdraw_reader (s : State) (p : Frame → Bool) : (s.withdraw p).reader = s.reader := rfl
@[simp] theorem State.withdraw_article (s : State) (p : Frame → Bool) : (s.withdraw p).article = s.article := rfl
@[simp] theorem State.withdraw_drives (s : State) (p : Frame → Bool) : (s.withdraw p).drives = s.drives := rfl
@[simp] theorem State.withdraw_heat (s : State) (p : Frame → Bool) : (s.withdraw p).heat = s.heat := rfl
@[simp] theorem State.withdraw_session (s : State) (p : Frame → Bool) : (s.withdraw p).session = s.session := rfl
@[simp] theorem State.withdraw_pending (s : State) (p : Frame → Bool) : (s.withdraw p).pending = s.pending := rfl
@[simp] theorem State.withdraw_draws (s : State) (p : Frame → Bool) : (s.withdraw p).draws = s.draws := rfl

-- markNoRetry changes line alone
@[simp] theorem State.markNoRetry_host (s : State) (p : Frame → Bool) : (s.markNoRetry p).host = s.host := rfl
@[simp] theorem State.markNoRetry_notices (s : State) (p : Frame → Bool) : (s.markNoRetry p).notices = s.notices := rfl
@[simp] theorem State.markNoRetry_belt (s : State) (p : Frame → Bool) : (s.markNoRetry p).belt = s.belt := rfl
@[simp] theorem State.markNoRetry_map (s : State) (p : Frame → Bool) : (s.markNoRetry p).map = s.map := rfl
@[simp] theorem State.markNoRetry_bins (s : State) (p : Frame → Bool) : (s.markNoRetry p).bins = s.bins := rfl
@[simp] theorem State.markNoRetry_member (s : State) (p : Frame → Bool) : (s.markNoRetry p).member = s.member := rfl
@[simp] theorem State.markNoRetry_ownDigest (s : State) (p : Frame → Bool) : (s.markNoRetry p).ownDigest = s.ownDigest := rfl
@[simp] theorem State.markNoRetry_gates (s : State) (p : Frame → Bool) : (s.markNoRetry p).gates = s.gates := rfl
@[simp] theorem State.markNoRetry_dutyReports (s : State) (p : Frame → Bool) : (s.markNoRetry p).dutyReports = s.dutyReports := rfl
@[simp] theorem State.markNoRetry_path (s : State) (p : Frame → Bool) : (s.markNoRetry p).path = s.path := rfl
@[simp] theorem State.markNoRetry_eyes (s : State) (p : Frame → Bool) : (s.markNoRetry p).eyes = s.eyes := rfl
@[simp] theorem State.markNoRetry_scan (s : State) (p : Frame → Bool) : (s.markNoRetry p).scan = s.scan := rfl
@[simp] theorem State.markNoRetry_reader (s : State) (p : Frame → Bool) : (s.markNoRetry p).reader = s.reader := rfl
@[simp] theorem State.markNoRetry_article (s : State) (p : Frame → Bool) : (s.markNoRetry p).article = s.article := rfl
@[simp] theorem State.markNoRetry_drives (s : State) (p : Frame → Bool) : (s.markNoRetry p).drives = s.drives := rfl
@[simp] theorem State.markNoRetry_heat (s : State) (p : Frame → Bool) : (s.markNoRetry p).heat = s.heat := rfl
@[simp] theorem State.markNoRetry_session (s : State) (p : Frame → Bool) : (s.markNoRetry p).session = s.session := rfl
@[simp] theorem State.markNoRetry_pending (s : State) (p : Frame → Bool) : (s.markNoRetry p).pending = s.pending := rfl
@[simp] theorem State.markNoRetry_draws (s : State) (p : Frame → Bool) : (s.markNoRetry p).draws = s.draws := rfl

-- removeInFlight changes line alone
@[simp] theorem State.removeInFlight_host (s : State) : (s.removeInFlight).host = s.host := rfl
@[simp] theorem State.removeInFlight_notices (s : State) : (s.removeInFlight).notices = s.notices := rfl
@[simp] theorem State.removeInFlight_belt (s : State) : (s.removeInFlight).belt = s.belt := rfl
@[simp] theorem State.removeInFlight_map (s : State) : (s.removeInFlight).map = s.map := rfl
@[simp] theorem State.removeInFlight_bins (s : State) : (s.removeInFlight).bins = s.bins := rfl
@[simp] theorem State.removeInFlight_member (s : State) : (s.removeInFlight).member = s.member := rfl
@[simp] theorem State.removeInFlight_ownDigest (s : State) : (s.removeInFlight).ownDigest = s.ownDigest := rfl
@[simp] theorem State.removeInFlight_gates (s : State) : (s.removeInFlight).gates = s.gates := rfl
@[simp] theorem State.removeInFlight_dutyReports (s : State) : (s.removeInFlight).dutyReports = s.dutyReports := rfl
@[simp] theorem State.removeInFlight_path (s : State) : (s.removeInFlight).path = s.path := rfl
@[simp] theorem State.removeInFlight_eyes (s : State) : (s.removeInFlight).eyes = s.eyes := rfl
@[simp] theorem State.removeInFlight_scan (s : State) : (s.removeInFlight).scan = s.scan := rfl
@[simp] theorem State.removeInFlight_reader (s : State) : (s.removeInFlight).reader = s.reader := rfl
@[simp] theorem State.removeInFlight_article (s : State) : (s.removeInFlight).article = s.article := rfl
@[simp] theorem State.removeInFlight_drives (s : State) : (s.removeInFlight).drives = s.drives := rfl
@[simp] theorem State.removeInFlight_heat (s : State) : (s.removeInFlight).heat = s.heat := rfl
@[simp] theorem State.removeInFlight_session (s : State) : (s.removeInFlight).session = s.session := rfl
@[simp] theorem State.removeInFlight_pending (s : State) : (s.removeInFlight).pending = s.pending := rfl
@[simp] theorem State.removeInFlight_draws (s : State) : (s.removeInFlight).draws = s.draws := rfl

-- mapInFlight changes line alone
@[simp] theorem State.mapInFlight_host (s : State) (f : QueuedFrame → QueuedFrame) : (s.mapInFlight f).host = s.host := rfl
@[simp] theorem State.mapInFlight_notices (s : State) (f : QueuedFrame → QueuedFrame) : (s.mapInFlight f).notices = s.notices := rfl
@[simp] theorem State.mapInFlight_belt (s : State) (f : QueuedFrame → QueuedFrame) : (s.mapInFlight f).belt = s.belt := rfl
@[simp] theorem State.mapInFlight_map (s : State) (f : QueuedFrame → QueuedFrame) : (s.mapInFlight f).map = s.map := rfl
@[simp] theorem State.mapInFlight_bins (s : State) (f : QueuedFrame → QueuedFrame) : (s.mapInFlight f).bins = s.bins := rfl
@[simp] theorem State.mapInFlight_member (s : State) (f : QueuedFrame → QueuedFrame) : (s.mapInFlight f).member = s.member := rfl
@[simp] theorem State.mapInFlight_ownDigest (s : State) (f : QueuedFrame → QueuedFrame) : (s.mapInFlight f).ownDigest = s.ownDigest := rfl
@[simp] theorem State.mapInFlight_gates (s : State) (f : QueuedFrame → QueuedFrame) : (s.mapInFlight f).gates = s.gates := rfl
@[simp] theorem State.mapInFlight_dutyReports (s : State) (f : QueuedFrame → QueuedFrame) : (s.mapInFlight f).dutyReports = s.dutyReports := rfl
@[simp] theorem State.mapInFlight_path (s : State) (f : QueuedFrame → QueuedFrame) : (s.mapInFlight f).path = s.path := rfl
@[simp] theorem State.mapInFlight_eyes (s : State) (f : QueuedFrame → QueuedFrame) : (s.mapInFlight f).eyes = s.eyes := rfl
@[simp] theorem State.mapInFlight_scan (s : State) (f : QueuedFrame → QueuedFrame) : (s.mapInFlight f).scan = s.scan := rfl
@[simp] theorem State.mapInFlight_reader (s : State) (f : QueuedFrame → QueuedFrame) : (s.mapInFlight f).reader = s.reader := rfl
@[simp] theorem State.mapInFlight_article (s : State) (f : QueuedFrame → QueuedFrame) : (s.mapInFlight f).article = s.article := rfl
@[simp] theorem State.mapInFlight_drives (s : State) (f : QueuedFrame → QueuedFrame) : (s.mapInFlight f).drives = s.drives := rfl
@[simp] theorem State.mapInFlight_heat (s : State) (f : QueuedFrame → QueuedFrame) : (s.mapInFlight f).heat = s.heat := rfl
@[simp] theorem State.mapInFlight_session (s : State) (f : QueuedFrame → QueuedFrame) : (s.mapInFlight f).session = s.session := rfl
@[simp] theorem State.mapInFlight_pending (s : State) (f : QueuedFrame → QueuedFrame) : (s.mapInFlight f).pending = s.pending := rfl
@[simp] theorem State.mapInFlight_draws (s : State) (f : QueuedFrame → QueuedFrame) : (s.mapInFlight f).draws = s.draws := rfl

-- measureCurrent changes line alone
@[simp] theorem State.measureCurrent_host (s : State) (c : LineCurrent) : (s.measureCurrent c).host = s.host := rfl
@[simp] theorem State.measureCurrent_notices (s : State) (c : LineCurrent) : (s.measureCurrent c).notices = s.notices := rfl
@[simp] theorem State.measureCurrent_belt (s : State) (c : LineCurrent) : (s.measureCurrent c).belt = s.belt := rfl
@[simp] theorem State.measureCurrent_map (s : State) (c : LineCurrent) : (s.measureCurrent c).map = s.map := rfl
@[simp] theorem State.measureCurrent_bins (s : State) (c : LineCurrent) : (s.measureCurrent c).bins = s.bins := rfl
@[simp] theorem State.measureCurrent_member (s : State) (c : LineCurrent) : (s.measureCurrent c).member = s.member := rfl
@[simp] theorem State.measureCurrent_ownDigest (s : State) (c : LineCurrent) : (s.measureCurrent c).ownDigest = s.ownDigest := rfl
@[simp] theorem State.measureCurrent_gates (s : State) (c : LineCurrent) : (s.measureCurrent c).gates = s.gates := rfl
@[simp] theorem State.measureCurrent_dutyReports (s : State) (c : LineCurrent) : (s.measureCurrent c).dutyReports = s.dutyReports := rfl
@[simp] theorem State.measureCurrent_path (s : State) (c : LineCurrent) : (s.measureCurrent c).path = s.path := rfl
@[simp] theorem State.measureCurrent_eyes (s : State) (c : LineCurrent) : (s.measureCurrent c).eyes = s.eyes := rfl
@[simp] theorem State.measureCurrent_scan (s : State) (c : LineCurrent) : (s.measureCurrent c).scan = s.scan := rfl
@[simp] theorem State.measureCurrent_reader (s : State) (c : LineCurrent) : (s.measureCurrent c).reader = s.reader := rfl
@[simp] theorem State.measureCurrent_article (s : State) (c : LineCurrent) : (s.measureCurrent c).article = s.article := rfl
@[simp] theorem State.measureCurrent_drives (s : State) (c : LineCurrent) : (s.measureCurrent c).drives = s.drives := rfl
@[simp] theorem State.measureCurrent_heat (s : State) (c : LineCurrent) : (s.measureCurrent c).heat = s.heat := rfl
@[simp] theorem State.measureCurrent_session (s : State) (c : LineCurrent) : (s.measureCurrent c).session = s.session := rfl
@[simp] theorem State.measureCurrent_pending (s : State) (c : LineCurrent) : (s.measureCurrent c).pending = s.pending := rfl
@[simp] theorem State.measureCurrent_draws (s : State) (c : LineCurrent) : (s.measureCurrent c).draws = s.draws := rfl

-- measurePulse changes line and draws alone
@[simp] theorem State.measurePulse_host (s : State) : s.measurePulse.host = s.host := rfl
@[simp] theorem State.measurePulse_notices (s : State) : s.measurePulse.notices = s.notices := rfl
@[simp] theorem State.measurePulse_belt (s : State) : s.measurePulse.belt = s.belt := rfl
@[simp] theorem State.measurePulse_map (s : State) : s.measurePulse.map = s.map := rfl
@[simp] theorem State.measurePulse_bins (s : State) : s.measurePulse.bins = s.bins := rfl
@[simp] theorem State.measurePulse_member (s : State) : s.measurePulse.member = s.member := rfl
@[simp] theorem State.measurePulse_ownDigest (s : State) : s.measurePulse.ownDigest = s.ownDigest := rfl
@[simp] theorem State.measurePulse_gates (s : State) : s.measurePulse.gates = s.gates := rfl
@[simp] theorem State.measurePulse_dutyReports (s : State) : s.measurePulse.dutyReports = s.dutyReports := rfl
@[simp] theorem State.measurePulse_path (s : State) : s.measurePulse.path = s.path := rfl
@[simp] theorem State.measurePulse_eyes (s : State) : s.measurePulse.eyes = s.eyes := rfl
@[simp] theorem State.measurePulse_scan (s : State) : s.measurePulse.scan = s.scan := rfl
@[simp] theorem State.measurePulse_reader (s : State) : s.measurePulse.reader = s.reader := rfl
@[simp] theorem State.measurePulse_article (s : State) : s.measurePulse.article = s.article := rfl
@[simp] theorem State.measurePulse_drives (s : State) : s.measurePulse.drives = s.drives := rfl
@[simp] theorem State.measurePulse_heat (s : State) : s.measurePulse.heat = s.heat := rfl
@[simp] theorem State.measurePulse_session (s : State) : s.measurePulse.session = s.session := rfl
@[simp] theorem State.measurePulse_pending (s : State) : s.measurePulse.pending = s.pending := rfl
@[simp] theorem State.measurePulse_draws (s : State) : s.measurePulse.draws = s.draws + 1 := rfl

-- driveSlot changes line alone
@[simp] theorem State.driveSlot_host (s : State) (d : SlotDrive) : (s.driveSlot d).host = s.host := rfl
@[simp] theorem State.driveSlot_notices (s : State) (d : SlotDrive) : (s.driveSlot d).notices = s.notices := rfl
@[simp] theorem State.driveSlot_belt (s : State) (d : SlotDrive) : (s.driveSlot d).belt = s.belt := rfl
@[simp] theorem State.driveSlot_map (s : State) (d : SlotDrive) : (s.driveSlot d).map = s.map := rfl
@[simp] theorem State.driveSlot_bins (s : State) (d : SlotDrive) : (s.driveSlot d).bins = s.bins := rfl
@[simp] theorem State.driveSlot_member (s : State) (d : SlotDrive) : (s.driveSlot d).member = s.member := rfl
@[simp] theorem State.driveSlot_ownDigest (s : State) (d : SlotDrive) : (s.driveSlot d).ownDigest = s.ownDigest := rfl
@[simp] theorem State.driveSlot_gates (s : State) (d : SlotDrive) : (s.driveSlot d).gates = s.gates := rfl
@[simp] theorem State.driveSlot_dutyReports (s : State) (d : SlotDrive) : (s.driveSlot d).dutyReports = s.dutyReports := rfl
@[simp] theorem State.driveSlot_path (s : State) (d : SlotDrive) : (s.driveSlot d).path = s.path := rfl
@[simp] theorem State.driveSlot_eyes (s : State) (d : SlotDrive) : (s.driveSlot d).eyes = s.eyes := rfl
@[simp] theorem State.driveSlot_scan (s : State) (d : SlotDrive) : (s.driveSlot d).scan = s.scan := rfl
@[simp] theorem State.driveSlot_reader (s : State) (d : SlotDrive) : (s.driveSlot d).reader = s.reader := rfl
@[simp] theorem State.driveSlot_article (s : State) (d : SlotDrive) : (s.driveSlot d).article = s.article := rfl
@[simp] theorem State.driveSlot_drives (s : State) (d : SlotDrive) : (s.driveSlot d).drives = s.drives := rfl
@[simp] theorem State.driveSlot_heat (s : State) (d : SlotDrive) : (s.driveSlot d).heat = s.heat := rfl
@[simp] theorem State.driveSlot_session (s : State) (d : SlotDrive) : (s.driveSlot d).session = s.session := rfl
@[simp] theorem State.driveSlot_pending (s : State) (d : SlotDrive) : (s.driveSlot d).pending = s.pending := rfl
@[simp] theorem State.driveSlot_draws (s : State) (d : SlotDrive) : (s.driveSlot d).draws = s.draws := rfl

-- countEcho changes line alone
@[simp] theorem State.countEcho_host (s : State) (e : Bool) : (s.countEcho e).host = s.host := rfl
@[simp] theorem State.countEcho_notices (s : State) (e : Bool) : (s.countEcho e).notices = s.notices := rfl
@[simp] theorem State.countEcho_belt (s : State) (e : Bool) : (s.countEcho e).belt = s.belt := rfl
@[simp] theorem State.countEcho_map (s : State) (e : Bool) : (s.countEcho e).map = s.map := rfl
@[simp] theorem State.countEcho_bins (s : State) (e : Bool) : (s.countEcho e).bins = s.bins := rfl
@[simp] theorem State.countEcho_member (s : State) (e : Bool) : (s.countEcho e).member = s.member := rfl
@[simp] theorem State.countEcho_ownDigest (s : State) (e : Bool) : (s.countEcho e).ownDigest = s.ownDigest := rfl
@[simp] theorem State.countEcho_gates (s : State) (e : Bool) : (s.countEcho e).gates = s.gates := rfl
@[simp] theorem State.countEcho_dutyReports (s : State) (e : Bool) : (s.countEcho e).dutyReports = s.dutyReports := rfl
@[simp] theorem State.countEcho_path (s : State) (e : Bool) : (s.countEcho e).path = s.path := rfl
@[simp] theorem State.countEcho_eyes (s : State) (e : Bool) : (s.countEcho e).eyes = s.eyes := rfl
@[simp] theorem State.countEcho_scan (s : State) (e : Bool) : (s.countEcho e).scan = s.scan := rfl
@[simp] theorem State.countEcho_reader (s : State) (e : Bool) : (s.countEcho e).reader = s.reader := rfl
@[simp] theorem State.countEcho_article (s : State) (e : Bool) : (s.countEcho e).article = s.article := rfl
@[simp] theorem State.countEcho_drives (s : State) (e : Bool) : (s.countEcho e).drives = s.drives := rfl
@[simp] theorem State.countEcho_heat (s : State) (e : Bool) : (s.countEcho e).heat = s.heat := rfl
@[simp] theorem State.countEcho_session (s : State) (e : Bool) : (s.countEcho e).session = s.session := rfl
@[simp] theorem State.countEcho_pending (s : State) (e : Bool) : (s.countEcho e).pending = s.pending := rfl
@[simp] theorem State.countEcho_draws (s : State) (e : Bool) : (s.countEcho e).draws = s.draws := rfl

-- endAlone changes line alone
@[simp] theorem State.endAlone_host (s : State) : (s.endAlone).host = s.host := rfl
@[simp] theorem State.endAlone_notices (s : State) : (s.endAlone).notices = s.notices := rfl
@[simp] theorem State.endAlone_belt (s : State) : (s.endAlone).belt = s.belt := rfl
@[simp] theorem State.endAlone_map (s : State) : (s.endAlone).map = s.map := rfl
@[simp] theorem State.endAlone_bins (s : State) : (s.endAlone).bins = s.bins := rfl
@[simp] theorem State.endAlone_member (s : State) : (s.endAlone).member = s.member := rfl
@[simp] theorem State.endAlone_ownDigest (s : State) : (s.endAlone).ownDigest = s.ownDigest := rfl
@[simp] theorem State.endAlone_gates (s : State) : (s.endAlone).gates = s.gates := rfl
@[simp] theorem State.endAlone_dutyReports (s : State) : (s.endAlone).dutyReports = s.dutyReports := rfl
@[simp] theorem State.endAlone_path (s : State) : (s.endAlone).path = s.path := rfl
@[simp] theorem State.endAlone_eyes (s : State) : (s.endAlone).eyes = s.eyes := rfl
@[simp] theorem State.endAlone_scan (s : State) : (s.endAlone).scan = s.scan := rfl
@[simp] theorem State.endAlone_reader (s : State) : (s.endAlone).reader = s.reader := rfl
@[simp] theorem State.endAlone_article (s : State) : (s.endAlone).article = s.article := rfl
@[simp] theorem State.endAlone_drives (s : State) : (s.endAlone).drives = s.drives := rfl
@[simp] theorem State.endAlone_heat (s : State) : (s.endAlone).heat = s.heat := rfl
@[simp] theorem State.endAlone_session (s : State) : (s.endAlone).session = s.session := rfl
@[simp] theorem State.endAlone_pending (s : State) : (s.endAlone).pending = s.pending := rfl
@[simp] theorem State.endAlone_draws (s : State) : (s.endAlone).draws = s.draws := rfl

-- missRest changes line alone
@[simp] theorem State.missRest_host (s : State) : (s.missRest).host = s.host := rfl
@[simp] theorem State.missRest_notices (s : State) : (s.missRest).notices = s.notices := rfl
@[simp] theorem State.missRest_belt (s : State) : (s.missRest).belt = s.belt := rfl
@[simp] theorem State.missRest_map (s : State) : (s.missRest).map = s.map := rfl
@[simp] theorem State.missRest_bins (s : State) : (s.missRest).bins = s.bins := rfl
@[simp] theorem State.missRest_member (s : State) : (s.missRest).member = s.member := rfl
@[simp] theorem State.missRest_ownDigest (s : State) : (s.missRest).ownDigest = s.ownDigest := rfl
@[simp] theorem State.missRest_gates (s : State) : (s.missRest).gates = s.gates := rfl
@[simp] theorem State.missRest_dutyReports (s : State) : (s.missRest).dutyReports = s.dutyReports := rfl
@[simp] theorem State.missRest_path (s : State) : (s.missRest).path = s.path := rfl
@[simp] theorem State.missRest_eyes (s : State) : (s.missRest).eyes = s.eyes := rfl
@[simp] theorem State.missRest_scan (s : State) : (s.missRest).scan = s.scan := rfl
@[simp] theorem State.missRest_reader (s : State) : (s.missRest).reader = s.reader := rfl
@[simp] theorem State.missRest_article (s : State) : (s.missRest).article = s.article := rfl
@[simp] theorem State.missRest_drives (s : State) : (s.missRest).drives = s.drives := rfl
@[simp] theorem State.missRest_heat (s : State) : (s.missRest).heat = s.heat := rfl
@[simp] theorem State.missRest_session (s : State) : (s.missRest).session = s.session := rfl
@[simp] theorem State.missRest_pending (s : State) : (s.missRest).pending = s.pending := rfl
@[simp] theorem State.missRest_draws (s : State) : (s.missRest).draws = s.draws := rfl

-- object changes line alone
@[simp] theorem State.object_host (s : State) (e : FrameFault) : (s.object e).host = s.host := rfl
@[simp] theorem State.object_notices (s : State) (e : FrameFault) : (s.object e).notices = s.notices := rfl
@[simp] theorem State.object_belt (s : State) (e : FrameFault) : (s.object e).belt = s.belt := rfl
@[simp] theorem State.object_map (s : State) (e : FrameFault) : (s.object e).map = s.map := rfl
@[simp] theorem State.object_bins (s : State) (e : FrameFault) : (s.object e).bins = s.bins := rfl
@[simp] theorem State.object_member (s : State) (e : FrameFault) : (s.object e).member = s.member := rfl
@[simp] theorem State.object_ownDigest (s : State) (e : FrameFault) : (s.object e).ownDigest = s.ownDigest := rfl
@[simp] theorem State.object_gates (s : State) (e : FrameFault) : (s.object e).gates = s.gates := rfl
@[simp] theorem State.object_dutyReports (s : State) (e : FrameFault) : (s.object e).dutyReports = s.dutyReports := rfl
@[simp] theorem State.object_path (s : State) (e : FrameFault) : (s.object e).path = s.path := rfl
@[simp] theorem State.object_eyes (s : State) (e : FrameFault) : (s.object e).eyes = s.eyes := rfl
@[simp] theorem State.object_scan (s : State) (e : FrameFault) : (s.object e).scan = s.scan := rfl
@[simp] theorem State.object_reader (s : State) (e : FrameFault) : (s.object e).reader = s.reader := rfl
@[simp] theorem State.object_article (s : State) (e : FrameFault) : (s.object e).article = s.article := rfl
@[simp] theorem State.object_drives (s : State) (e : FrameFault) : (s.object e).drives = s.drives := rfl
@[simp] theorem State.object_heat (s : State) (e : FrameFault) : (s.object e).heat = s.heat := rfl
@[simp] theorem State.object_session (s : State) (e : FrameFault) : (s.object e).session = s.session := rfl
@[simp] theorem State.object_pending (s : State) (e : FrameFault) : (s.object e).pending = s.pending := rfl
@[simp] theorem State.object_draws (s : State) (e : FrameFault) : (s.object e).draws = s.draws := rfl

-- setAnswer changes host alone
@[simp] theorem State.setAnswer_notices (s : State) (a : Answer) : (s.setAnswer a).notices = s.notices := rfl
@[simp] theorem State.setAnswer_belt (s : State) (a : Answer) : (s.setAnswer a).belt = s.belt := rfl
@[simp] theorem State.setAnswer_map (s : State) (a : Answer) : (s.setAnswer a).map = s.map := rfl
@[simp] theorem State.setAnswer_bins (s : State) (a : Answer) : (s.setAnswer a).bins = s.bins := rfl
@[simp] theorem State.setAnswer_member (s : State) (a : Answer) : (s.setAnswer a).member = s.member := rfl
@[simp] theorem State.setAnswer_ownDigest (s : State) (a : Answer) : (s.setAnswer a).ownDigest = s.ownDigest := rfl
@[simp] theorem State.setAnswer_gates (s : State) (a : Answer) : (s.setAnswer a).gates = s.gates := rfl
@[simp] theorem State.setAnswer_dutyReports (s : State) (a : Answer) : (s.setAnswer a).dutyReports = s.dutyReports := rfl
@[simp] theorem State.setAnswer_line (s : State) (a : Answer) : (s.setAnswer a).line = s.line := rfl
@[simp] theorem State.setAnswer_path (s : State) (a : Answer) : (s.setAnswer a).path = s.path := rfl
@[simp] theorem State.setAnswer_eyes (s : State) (a : Answer) : (s.setAnswer a).eyes = s.eyes := rfl
@[simp] theorem State.setAnswer_scan (s : State) (a : Answer) : (s.setAnswer a).scan = s.scan := rfl
@[simp] theorem State.setAnswer_reader (s : State) (a : Answer) : (s.setAnswer a).reader = s.reader := rfl
@[simp] theorem State.setAnswer_article (s : State) (a : Answer) : (s.setAnswer a).article = s.article := rfl
@[simp] theorem State.setAnswer_drives (s : State) (a : Answer) : (s.setAnswer a).drives = s.drives := rfl
@[simp] theorem State.setAnswer_heat (s : State) (a : Answer) : (s.setAnswer a).heat = s.heat := rfl
@[simp] theorem State.setAnswer_session (s : State) (a : Answer) : (s.setAnswer a).session = s.session := rfl
@[simp] theorem State.setAnswer_pending (s : State) (a : Answer) : (s.setAnswer a).pending = s.pending := rfl
@[simp] theorem State.setAnswer_draws (s : State) (a : Answer) : (s.setAnswer a).draws = s.draws := rfl

-- shiftOut changes host alone
@[simp] theorem State.shiftOut_notices (s : State) : (s.shiftOut).notices = s.notices := rfl
@[simp] theorem State.shiftOut_belt (s : State) : (s.shiftOut).belt = s.belt := rfl
@[simp] theorem State.shiftOut_map (s : State) : (s.shiftOut).map = s.map := rfl
@[simp] theorem State.shiftOut_bins (s : State) : (s.shiftOut).bins = s.bins := rfl
@[simp] theorem State.shiftOut_member (s : State) : (s.shiftOut).member = s.member := rfl
@[simp] theorem State.shiftOut_ownDigest (s : State) : (s.shiftOut).ownDigest = s.ownDigest := rfl
@[simp] theorem State.shiftOut_gates (s : State) : (s.shiftOut).gates = s.gates := rfl
@[simp] theorem State.shiftOut_dutyReports (s : State) : (s.shiftOut).dutyReports = s.dutyReports := rfl
@[simp] theorem State.shiftOut_line (s : State) : (s.shiftOut).line = s.line := rfl
@[simp] theorem State.shiftOut_path (s : State) : (s.shiftOut).path = s.path := rfl
@[simp] theorem State.shiftOut_eyes (s : State) : (s.shiftOut).eyes = s.eyes := rfl
@[simp] theorem State.shiftOut_scan (s : State) : (s.shiftOut).scan = s.scan := rfl
@[simp] theorem State.shiftOut_reader (s : State) : (s.shiftOut).reader = s.reader := rfl
@[simp] theorem State.shiftOut_article (s : State) : (s.shiftOut).article = s.article := rfl
@[simp] theorem State.shiftOut_drives (s : State) : (s.shiftOut).drives = s.drives := rfl
@[simp] theorem State.shiftOut_heat (s : State) : (s.shiftOut).heat = s.heat := rfl
@[simp] theorem State.shiftOut_session (s : State) : (s.shiftOut).session = s.session := rfl
@[simp] theorem State.shiftOut_pending (s : State) : (s.shiftOut).pending = s.pending := rfl
@[simp] theorem State.shiftOut_draws (s : State) : (s.shiftOut).draws = s.draws := rfl

-- shiftBusy changes host alone
@[simp] theorem State.shiftBusy_notices (s : State) : (s.shiftBusy).notices = s.notices := rfl
@[simp] theorem State.shiftBusy_belt (s : State) : (s.shiftBusy).belt = s.belt := rfl
@[simp] theorem State.shiftBusy_map (s : State) : (s.shiftBusy).map = s.map := rfl
@[simp] theorem State.shiftBusy_bins (s : State) : (s.shiftBusy).bins = s.bins := rfl
@[simp] theorem State.shiftBusy_member (s : State) : (s.shiftBusy).member = s.member := rfl
@[simp] theorem State.shiftBusy_ownDigest (s : State) : (s.shiftBusy).ownDigest = s.ownDigest := rfl
@[simp] theorem State.shiftBusy_gates (s : State) : (s.shiftBusy).gates = s.gates := rfl
@[simp] theorem State.shiftBusy_dutyReports (s : State) : (s.shiftBusy).dutyReports = s.dutyReports := rfl
@[simp] theorem State.shiftBusy_line (s : State) : (s.shiftBusy).line = s.line := rfl
@[simp] theorem State.shiftBusy_path (s : State) : (s.shiftBusy).path = s.path := rfl
@[simp] theorem State.shiftBusy_eyes (s : State) : (s.shiftBusy).eyes = s.eyes := rfl
@[simp] theorem State.shiftBusy_scan (s : State) : (s.shiftBusy).scan = s.scan := rfl
@[simp] theorem State.shiftBusy_reader (s : State) : (s.shiftBusy).reader = s.reader := rfl
@[simp] theorem State.shiftBusy_article (s : State) : (s.shiftBusy).article = s.article := rfl
@[simp] theorem State.shiftBusy_drives (s : State) : (s.shiftBusy).drives = s.drives := rfl
@[simp] theorem State.shiftBusy_heat (s : State) : (s.shiftBusy).heat = s.heat := rfl
@[simp] theorem State.shiftBusy_session (s : State) : (s.shiftBusy).session = s.session := rfl
@[simp] theorem State.shiftBusy_pending (s : State) : (s.shiftBusy).pending = s.pending := rfl
@[simp] theorem State.shiftBusy_draws (s : State) : (s.shiftBusy).draws = s.draws := rfl

-- setAperture changes eyes alone
@[simp] theorem State.setAperture_host (s : State) (b : Bool) : (s.setAperture b).host = s.host := rfl
@[simp] theorem State.setAperture_notices (s : State) (b : Bool) : (s.setAperture b).notices = s.notices := rfl
@[simp] theorem State.setAperture_belt (s : State) (b : Bool) : (s.setAperture b).belt = s.belt := rfl
@[simp] theorem State.setAperture_map (s : State) (b : Bool) : (s.setAperture b).map = s.map := rfl
@[simp] theorem State.setAperture_bins (s : State) (b : Bool) : (s.setAperture b).bins = s.bins := rfl
@[simp] theorem State.setAperture_member (s : State) (b : Bool) : (s.setAperture b).member = s.member := rfl
@[simp] theorem State.setAperture_ownDigest (s : State) (b : Bool) : (s.setAperture b).ownDigest = s.ownDigest := rfl
@[simp] theorem State.setAperture_gates (s : State) (b : Bool) : (s.setAperture b).gates = s.gates := rfl
@[simp] theorem State.setAperture_dutyReports (s : State) (b : Bool) : (s.setAperture b).dutyReports = s.dutyReports := rfl
@[simp] theorem State.setAperture_line (s : State) (b : Bool) : (s.setAperture b).line = s.line := rfl
@[simp] theorem State.setAperture_path (s : State) (b : Bool) : (s.setAperture b).path = s.path := rfl
@[simp] theorem State.setAperture_scan (s : State) (b : Bool) : (s.setAperture b).scan = s.scan := rfl
@[simp] theorem State.setAperture_reader (s : State) (b : Bool) : (s.setAperture b).reader = s.reader := rfl
@[simp] theorem State.setAperture_article (s : State) (b : Bool) : (s.setAperture b).article = s.article := rfl
@[simp] theorem State.setAperture_drives (s : State) (b : Bool) : (s.setAperture b).drives = s.drives := rfl
@[simp] theorem State.setAperture_heat (s : State) (b : Bool) : (s.setAperture b).heat = s.heat := rfl
@[simp] theorem State.setAperture_session (s : State) (b : Bool) : (s.setAperture b).session = s.session := rfl
@[simp] theorem State.setAperture_pending (s : State) (b : Bool) : (s.setAperture b).pending = s.pending := rfl
@[simp] theorem State.setAperture_draws (s : State) (b : Bool) : (s.setAperture b).draws = s.draws := rfl

-- setScanEye changes eyes alone
@[simp] theorem State.setScanEye_host (s : State) (b : Bool) : (s.setScanEye b).host = s.host := rfl
@[simp] theorem State.setScanEye_notices (s : State) (b : Bool) : (s.setScanEye b).notices = s.notices := rfl
@[simp] theorem State.setScanEye_belt (s : State) (b : Bool) : (s.setScanEye b).belt = s.belt := rfl
@[simp] theorem State.setScanEye_map (s : State) (b : Bool) : (s.setScanEye b).map = s.map := rfl
@[simp] theorem State.setScanEye_bins (s : State) (b : Bool) : (s.setScanEye b).bins = s.bins := rfl
@[simp] theorem State.setScanEye_member (s : State) (b : Bool) : (s.setScanEye b).member = s.member := rfl
@[simp] theorem State.setScanEye_ownDigest (s : State) (b : Bool) : (s.setScanEye b).ownDigest = s.ownDigest := rfl
@[simp] theorem State.setScanEye_gates (s : State) (b : Bool) : (s.setScanEye b).gates = s.gates := rfl
@[simp] theorem State.setScanEye_dutyReports (s : State) (b : Bool) : (s.setScanEye b).dutyReports = s.dutyReports := rfl
@[simp] theorem State.setScanEye_line (s : State) (b : Bool) : (s.setScanEye b).line = s.line := rfl
@[simp] theorem State.setScanEye_path (s : State) (b : Bool) : (s.setScanEye b).path = s.path := rfl
@[simp] theorem State.setScanEye_scan (s : State) (b : Bool) : (s.setScanEye b).scan = s.scan := rfl
@[simp] theorem State.setScanEye_reader (s : State) (b : Bool) : (s.setScanEye b).reader = s.reader := rfl
@[simp] theorem State.setScanEye_article (s : State) (b : Bool) : (s.setScanEye b).article = s.article := rfl
@[simp] theorem State.setScanEye_drives (s : State) (b : Bool) : (s.setScanEye b).drives = s.drives := rfl
@[simp] theorem State.setScanEye_heat (s : State) (b : Bool) : (s.setScanEye b).heat = s.heat := rfl
@[simp] theorem State.setScanEye_session (s : State) (b : Bool) : (s.setScanEye b).session = s.session := rfl
@[simp] theorem State.setScanEye_pending (s : State) (b : Bool) : (s.setScanEye b).pending = s.pending := rfl
@[simp] theorem State.setScanEye_draws (s : State) (b : Bool) : (s.setScanEye b).draws = s.draws := rfl

-- readBeltEyes changes eyes alone
@[simp] theorem State.readBeltEyes_host (s : State) (l h : Bool) : (s.readBeltEyes l h).host = s.host := rfl
@[simp] theorem State.readBeltEyes_notices (s : State) (l h : Bool) : (s.readBeltEyes l h).notices = s.notices := rfl
@[simp] theorem State.readBeltEyes_belt (s : State) (l h : Bool) : (s.readBeltEyes l h).belt = s.belt := rfl
@[simp] theorem State.readBeltEyes_map (s : State) (l h : Bool) : (s.readBeltEyes l h).map = s.map := rfl
@[simp] theorem State.readBeltEyes_bins (s : State) (l h : Bool) : (s.readBeltEyes l h).bins = s.bins := rfl
@[simp] theorem State.readBeltEyes_member (s : State) (l h : Bool) : (s.readBeltEyes l h).member = s.member := rfl
@[simp] theorem State.readBeltEyes_ownDigest (s : State) (l h : Bool) : (s.readBeltEyes l h).ownDigest = s.ownDigest := rfl
@[simp] theorem State.readBeltEyes_gates (s : State) (l h : Bool) : (s.readBeltEyes l h).gates = s.gates := rfl
@[simp] theorem State.readBeltEyes_dutyReports (s : State) (l h : Bool) : (s.readBeltEyes l h).dutyReports = s.dutyReports := rfl
@[simp] theorem State.readBeltEyes_line (s : State) (l h : Bool) : (s.readBeltEyes l h).line = s.line := rfl
@[simp] theorem State.readBeltEyes_path (s : State) (l h : Bool) : (s.readBeltEyes l h).path = s.path := rfl
@[simp] theorem State.readBeltEyes_scan (s : State) (l h : Bool) : (s.readBeltEyes l h).scan = s.scan := rfl
@[simp] theorem State.readBeltEyes_reader (s : State) (l h : Bool) : (s.readBeltEyes l h).reader = s.reader := rfl
@[simp] theorem State.readBeltEyes_article (s : State) (l h : Bool) : (s.readBeltEyes l h).article = s.article := rfl
@[simp] theorem State.readBeltEyes_drives (s : State) (l h : Bool) : (s.readBeltEyes l h).drives = s.drives := rfl
@[simp] theorem State.readBeltEyes_heat (s : State) (l h : Bool) : (s.readBeltEyes l h).heat = s.heat := rfl
@[simp] theorem State.readBeltEyes_session (s : State) (l h : Bool) : (s.readBeltEyes l h).session = s.session := rfl
@[simp] theorem State.readBeltEyes_pending (s : State) (l h : Bool) : (s.readBeltEyes l h).pending = s.pending := rfl
@[simp] theorem State.readBeltEyes_draws (s : State) (l h : Bool) : (s.readBeltEyes l h).draws = s.draws := rfl

-- noteDuty changes dutyReports alone
@[simp] theorem State.noteDuty_host (s : State) : s.noteDuty.host = s.host := rfl
@[simp] theorem State.noteDuty_notices (s : State) : s.noteDuty.notices = s.notices := rfl
@[simp] theorem State.noteDuty_belt (s : State) : s.noteDuty.belt = s.belt := rfl
@[simp] theorem State.noteDuty_map (s : State) : s.noteDuty.map = s.map := rfl
@[simp] theorem State.noteDuty_bins (s : State) : s.noteDuty.bins = s.bins := rfl
@[simp] theorem State.noteDuty_member (s : State) : s.noteDuty.member = s.member := rfl
@[simp] theorem State.noteDuty_ownDigest (s : State) : s.noteDuty.ownDigest = s.ownDigest := rfl
@[simp] theorem State.noteDuty_gates (s : State) : s.noteDuty.gates = s.gates := rfl
@[simp] theorem State.noteDuty_dutyReports (s : State) : s.noteDuty.dutyReports = s.synced := rfl
@[simp] theorem State.noteDuty_line (s : State) : s.noteDuty.line = s.line := rfl
@[simp] theorem State.noteDuty_path (s : State) : s.noteDuty.path = s.path := rfl
@[simp] theorem State.noteDuty_scan (s : State) : s.noteDuty.scan = s.scan := rfl
@[simp] theorem State.noteDuty_reader (s : State) : s.noteDuty.reader = s.reader := rfl
@[simp] theorem State.noteDuty_article (s : State) : s.noteDuty.article = s.article := rfl
@[simp] theorem State.noteDuty_drives (s : State) : s.noteDuty.drives = s.drives := rfl
@[simp] theorem State.noteDuty_heat (s : State) : s.noteDuty.heat = s.heat := rfl
@[simp] theorem State.noteDuty_session (s : State) : s.noteDuty.session = s.session := rfl
@[simp] theorem State.noteDuty_pending (s : State) : s.noteDuty.pending = s.pending := rfl
@[simp] theorem State.noteDuty_draws (s : State) : s.noteDuty.draws = s.draws := rfl
@[simp] theorem State.noteDuty_eyes (s : State) : s.noteDuty.eyes = s.eyes := rfl

-- the queue updates leave the rest of the Line Controller
@[simp] theorem State.setQueue_line_condition (s : State) (q : List QueuedFrame) : (s.setQueue q).line.condition = s.line.condition := rfl
@[simp] theorem State.setQueue_line_driver (s : State) (q : List QueuedFrame) : (s.setQueue q).line.driver = s.line.driver := rfl
@[simp] theorem State.setQueue_line_driverCoolOff (s : State) (q : List QueuedFrame) : (s.setQueue q).line.driverCoolOff = s.line.driverCoolOff := rfl
@[simp] theorem State.setQueue_line_overloadTimer (s : State) (q : List QueuedFrame) : (s.setQueue q).line.overloadTimer = s.line.overloadTimer := rfl
@[simp] theorem State.setQueue_line_overloadCount (s : State) (q : List QueuedFrame) : (s.setQueue q).line.overloadCount = s.line.overloadCount := rfl
@[simp] theorem State.setQueue_line_aloneCount (s : State) (q : List QueuedFrame) : (s.setQueue q).line.aloneCount = s.line.aloneCount := rfl
@[simp] theorem State.setQueue_line_wake (s : State) (q : List QueuedFrame) : (s.setQueue q).line.wake = s.line.wake := rfl
@[simp] theorem State.setQueue_line_missing (s : State) (q : List QueuedFrame) : (s.setQueue q).line.missing = s.line.missing := rfl
@[simp] theorem State.setQueue_line_objecting (s : State) (q : List QueuedFrame) : (s.setQueue q).line.objecting = s.line.objecting := rfl
@[simp] theorem State.setQueue_line_slot (s : State) (q : List QueuedFrame) : (s.setQueue q).line.slot = s.line.slot := rfl
@[simp] theorem State.setQueue_line_runLevel (s : State) (q : List QueuedFrame) : (s.setQueue q).line.runLevel = s.line.runLevel := rfl
@[simp] theorem State.setQueue_line_runLength (s : State) (q : List QueuedFrame) : (s.setQueue q).line.runLength = s.line.runLength := rfl
@[simp] theorem State.replacePayload_line_condition (s : State) (f : Frame) : (s.replacePayload f).line.condition = s.line.condition := rfl
@[simp] theorem State.replacePayload_line_driver (s : State) (f : Frame) : (s.replacePayload f).line.driver = s.line.driver := rfl
@[simp] theorem State.replacePayload_line_driverCoolOff (s : State) (f : Frame) : (s.replacePayload f).line.driverCoolOff = s.line.driverCoolOff := rfl
@[simp] theorem State.replacePayload_line_overloadTimer (s : State) (f : Frame) : (s.replacePayload f).line.overloadTimer = s.line.overloadTimer := rfl
@[simp] theorem State.replacePayload_line_overloadCount (s : State) (f : Frame) : (s.replacePayload f).line.overloadCount = s.line.overloadCount := rfl
@[simp] theorem State.replacePayload_line_aloneCount (s : State) (f : Frame) : (s.replacePayload f).line.aloneCount = s.line.aloneCount := rfl
@[simp] theorem State.replacePayload_line_wake (s : State) (f : Frame) : (s.replacePayload f).line.wake = s.line.wake := rfl
@[simp] theorem State.replacePayload_line_missing (s : State) (f : Frame) : (s.replacePayload f).line.missing = s.line.missing := rfl
@[simp] theorem State.replacePayload_line_objecting (s : State) (f : Frame) : (s.replacePayload f).line.objecting = s.line.objecting := rfl
@[simp] theorem State.replacePayload_line_slot (s : State) (f : Frame) : (s.replacePayload f).line.slot = s.line.slot := rfl
@[simp] theorem State.replacePayload_line_runLevel (s : State) (f : Frame) : (s.replacePayload f).line.runLevel = s.line.runLevel := rfl
@[simp] theorem State.replacePayload_line_runLength (s : State) (f : Frame) : (s.replacePayload f).line.runLength = s.line.runLength := rfl
@[simp] theorem State.withdraw_line_condition (s : State) (p : Frame → Bool) : (s.withdraw p).line.condition = s.line.condition := rfl
@[simp] theorem State.withdraw_line_driver (s : State) (p : Frame → Bool) : (s.withdraw p).line.driver = s.line.driver := rfl
@[simp] theorem State.withdraw_line_driverCoolOff (s : State) (p : Frame → Bool) : (s.withdraw p).line.driverCoolOff = s.line.driverCoolOff := rfl
@[simp] theorem State.withdraw_line_overloadTimer (s : State) (p : Frame → Bool) : (s.withdraw p).line.overloadTimer = s.line.overloadTimer := rfl
@[simp] theorem State.withdraw_line_overloadCount (s : State) (p : Frame → Bool) : (s.withdraw p).line.overloadCount = s.line.overloadCount := rfl
@[simp] theorem State.withdraw_line_aloneCount (s : State) (p : Frame → Bool) : (s.withdraw p).line.aloneCount = s.line.aloneCount := rfl
@[simp] theorem State.withdraw_line_wake (s : State) (p : Frame → Bool) : (s.withdraw p).line.wake = s.line.wake := rfl
@[simp] theorem State.withdraw_line_missing (s : State) (p : Frame → Bool) : (s.withdraw p).line.missing = s.line.missing := rfl
@[simp] theorem State.withdraw_line_objecting (s : State) (p : Frame → Bool) : (s.withdraw p).line.objecting = s.line.objecting := rfl
@[simp] theorem State.withdraw_line_slot (s : State) (p : Frame → Bool) : (s.withdraw p).line.slot = s.line.slot := rfl
@[simp] theorem State.withdraw_line_runLevel (s : State) (p : Frame → Bool) : (s.withdraw p).line.runLevel = s.line.runLevel := rfl
@[simp] theorem State.withdraw_line_runLength (s : State) (p : Frame → Bool) : (s.withdraw p).line.runLength = s.line.runLength := rfl
@[simp] theorem State.markNoRetry_line_condition (s : State) (p : Frame → Bool) : (s.markNoRetry p).line.condition = s.line.condition := rfl
@[simp] theorem State.markNoRetry_line_driver (s : State) (p : Frame → Bool) : (s.markNoRetry p).line.driver = s.line.driver := rfl
@[simp] theorem State.markNoRetry_line_driverCoolOff (s : State) (p : Frame → Bool) : (s.markNoRetry p).line.driverCoolOff = s.line.driverCoolOff := rfl
@[simp] theorem State.markNoRetry_line_overloadTimer (s : State) (p : Frame → Bool) : (s.markNoRetry p).line.overloadTimer = s.line.overloadTimer := rfl
@[simp] theorem State.markNoRetry_line_overloadCount (s : State) (p : Frame → Bool) : (s.markNoRetry p).line.overloadCount = s.line.overloadCount := rfl
@[simp] theorem State.markNoRetry_line_aloneCount (s : State) (p : Frame → Bool) : (s.markNoRetry p).line.aloneCount = s.line.aloneCount := rfl
@[simp] theorem State.markNoRetry_line_wake (s : State) (p : Frame → Bool) : (s.markNoRetry p).line.wake = s.line.wake := rfl
@[simp] theorem State.markNoRetry_line_missing (s : State) (p : Frame → Bool) : (s.markNoRetry p).line.missing = s.line.missing := rfl
@[simp] theorem State.markNoRetry_line_objecting (s : State) (p : Frame → Bool) : (s.markNoRetry p).line.objecting = s.line.objecting := rfl
@[simp] theorem State.markNoRetry_line_slot (s : State) (p : Frame → Bool) : (s.markNoRetry p).line.slot = s.line.slot := rfl
@[simp] theorem State.markNoRetry_line_runLevel (s : State) (p : Frame → Bool) : (s.markNoRetry p).line.runLevel = s.line.runLevel := rfl
@[simp] theorem State.markNoRetry_line_runLength (s : State) (p : Frame → Bool) : (s.markNoRetry p).line.runLength = s.line.runLength := rfl
@[simp] theorem State.removeInFlight_line_condition (s : State) : (s.removeInFlight).line.condition = s.line.condition := rfl
@[simp] theorem State.removeInFlight_line_driver (s : State) : (s.removeInFlight).line.driver = s.line.driver := rfl
@[simp] theorem State.removeInFlight_line_driverCoolOff (s : State) : (s.removeInFlight).line.driverCoolOff = s.line.driverCoolOff := rfl
@[simp] theorem State.removeInFlight_line_overloadTimer (s : State) : (s.removeInFlight).line.overloadTimer = s.line.overloadTimer := rfl
@[simp] theorem State.removeInFlight_line_overloadCount (s : State) : (s.removeInFlight).line.overloadCount = s.line.overloadCount := rfl
@[simp] theorem State.removeInFlight_line_aloneCount (s : State) : (s.removeInFlight).line.aloneCount = s.line.aloneCount := rfl
@[simp] theorem State.removeInFlight_line_wake (s : State) : (s.removeInFlight).line.wake = s.line.wake := rfl
@[simp] theorem State.removeInFlight_line_missing (s : State) : (s.removeInFlight).line.missing = s.line.missing := rfl
@[simp] theorem State.removeInFlight_line_objecting (s : State) : (s.removeInFlight).line.objecting = s.line.objecting := rfl
@[simp] theorem State.removeInFlight_line_slot (s : State) : (s.removeInFlight).line.slot = s.line.slot := rfl
@[simp] theorem State.removeInFlight_line_runLevel (s : State) : (s.removeInFlight).line.runLevel = s.line.runLevel := rfl
@[simp] theorem State.removeInFlight_line_runLength (s : State) : (s.removeInFlight).line.runLength = s.line.runLength := rfl
@[simp] theorem State.mapInFlight_line_condition (s : State) (f : QueuedFrame → QueuedFrame) : (s.mapInFlight f).line.condition = s.line.condition := rfl
@[simp] theorem State.mapInFlight_line_driver (s : State) (f : QueuedFrame → QueuedFrame) : (s.mapInFlight f).line.driver = s.line.driver := rfl
@[simp] theorem State.mapInFlight_line_driverCoolOff (s : State) (f : QueuedFrame → QueuedFrame) : (s.mapInFlight f).line.driverCoolOff = s.line.driverCoolOff := rfl
@[simp] theorem State.mapInFlight_line_overloadTimer (s : State) (f : QueuedFrame → QueuedFrame) : (s.mapInFlight f).line.overloadTimer = s.line.overloadTimer := rfl
@[simp] theorem State.mapInFlight_line_overloadCount (s : State) (f : QueuedFrame → QueuedFrame) : (s.mapInFlight f).line.overloadCount = s.line.overloadCount := rfl
@[simp] theorem State.mapInFlight_line_aloneCount (s : State) (f : QueuedFrame → QueuedFrame) : (s.mapInFlight f).line.aloneCount = s.line.aloneCount := rfl
@[simp] theorem State.mapInFlight_line_wake (s : State) (f : QueuedFrame → QueuedFrame) : (s.mapInFlight f).line.wake = s.line.wake := rfl
@[simp] theorem State.mapInFlight_line_missing (s : State) (f : QueuedFrame → QueuedFrame) : (s.mapInFlight f).line.missing = s.line.missing := rfl
@[simp] theorem State.mapInFlight_line_objecting (s : State) (f : QueuedFrame → QueuedFrame) : (s.mapInFlight f).line.objecting = s.line.objecting := rfl
@[simp] theorem State.mapInFlight_line_slot (s : State) (f : QueuedFrame → QueuedFrame) : (s.mapInFlight f).line.slot = s.line.slot := rfl
@[simp] theorem State.mapInFlight_line_runLevel (s : State) (f : QueuedFrame → QueuedFrame) : (s.mapInFlight f).line.runLevel = s.line.runLevel := rfl
@[simp] theorem State.mapInFlight_line_runLength (s : State) (f : QueuedFrame → QueuedFrame) : (s.mapInFlight f).line.runLength = s.line.runLength := rfl

-- what an update writes
@[simp] theorem State.setQueue_queue (s : State) (q : List QueuedFrame) : (s.setQueue q).line.queue = q := rfl
@[simp] theorem State.mapPath_path (s : State) (f : Path → Path) : (s.mapPath f).path = f s.path := rfl
@[simp] theorem State.mapSession_session (s : State) (f : Session → Session) :
    (s.mapSession f).session = f s.session := rfl
@[simp] theorem State.mapArticle_article (s : State) (f : ArticleUnit → ArticleUnit) :
    (s.mapArticle f).article = f s.article := rfl
@[simp] theorem State.mapScan_scan (s : State) (f : ScanUnit → ScanUnit) : (s.mapScan f).scan = f s.scan := rfl
@[simp] theorem State.mapLine_line (s : State) (f : Line → Line) : (s.mapLine f).line = f s.line := rfl
@[simp] theorem State.mapChannel_drives (s : State) (c : Channel) (f : ChannelRecord → ChannelRecord) :
    (s.mapChannel c f).drives = s.drives.put c (f (s.drives.get c)) := rfl
@[simp] theorem State.setEntry_map (s : State) (x : Cleat) (e : Entry) :
    (s.setEntry x e).map = s.map.set x.toNat e x.isLt := rfl
@[simp] theorem State.setAnswer_answer (s : State) (a : Answer) : (s.setAnswer a).host.answer = a := rfl
@[simp] theorem State.shiftOut_shifted (s : State) : s.shiftOut.host.shifted = s.host.answer := rfl
@[simp] theorem State.shiftOut_answer (s : State) : s.shiftOut.host.answer = .empty := rfl

-- the Host Port's fields under the answer updates
@[simp] theorem State.setAnswer_host_cfg (s : State) (a : Answer) : (s.setAnswer a).host.cfg = s.host.cfg := rfl
@[simp] theorem State.setAnswer_host_configured (s : State) (a : Answer) : (s.setAnswer a).host.configured = s.host.configured := rfl
@[simp] theorem State.setAnswer_host_started (s : State) (a : Answer) : (s.setAnswer a).host.started = s.host.started := rfl
@[simp] theorem State.setAnswer_host_rest (s : State) (a : Answer) : (s.setAnswer a).host.rest = s.host.rest := rfl
@[simp] theorem State.setAnswer_host_dozeTimer (s : State) (a : Answer) : (s.setAnswer a).host.dozeTimer = s.host.dozeTimer := rfl
@[simp] theorem State.setAnswer_host_offered (s : State) (a : Answer) : (s.setAnswer a).host.offered = s.host.offered := rfl
@[simp] theorem State.setAnswer_host_restartPending (s : State) (a : Answer) : (s.setAnswer a).host.restartPending = s.host.restartPending := rfl
@[simp] theorem State.shiftOut_host_cfg (s : State) : (s.shiftOut).host.cfg = s.host.cfg := rfl
@[simp] theorem State.shiftOut_host_configured (s : State) : (s.shiftOut).host.configured = s.host.configured := rfl
@[simp] theorem State.shiftOut_host_started (s : State) : (s.shiftOut).host.started = s.host.started := rfl
@[simp] theorem State.shiftOut_host_rest (s : State) : (s.shiftOut).host.rest = s.host.rest := rfl
@[simp] theorem State.shiftOut_host_dozeTimer (s : State) : (s.shiftOut).host.dozeTimer = s.host.dozeTimer := rfl
@[simp] theorem State.shiftOut_host_offered (s : State) : (s.shiftOut).host.offered = s.host.offered := rfl
@[simp] theorem State.shiftOut_host_restartPending (s : State) : (s.shiftOut).host.restartPending = s.host.restartPending := rfl
@[simp] theorem State.shiftBusy_host_cfg (s : State) : (s.shiftBusy).host.cfg = s.host.cfg := rfl
@[simp] theorem State.shiftBusy_host_configured (s : State) : (s.shiftBusy).host.configured = s.host.configured := rfl
@[simp] theorem State.shiftBusy_host_started (s : State) : (s.shiftBusy).host.started = s.host.started := rfl
@[simp] theorem State.shiftBusy_host_rest (s : State) : (s.shiftBusy).host.rest = s.host.rest := rfl
@[simp] theorem State.shiftBusy_host_dozeTimer (s : State) : (s.shiftBusy).host.dozeTimer = s.host.dozeTimer := rfl
@[simp] theorem State.shiftBusy_host_offered (s : State) : (s.shiftBusy).host.offered = s.host.offered := rfl
@[simp] theorem State.shiftBusy_host_restartPending (s : State) : (s.shiftBusy).host.restartPending = s.host.restartPending := rfl

end Machine
end Sys2Proof
end

