-- ==== Sys2Proof/Laws/Queue.lean ====
section
/-! SUPPORT. The transmit queue stays good under everything that is done to it (02 R42 to R44): filtering, changing a frame
in its place, and the insertion of a new frame by kind and age. -/
namespace Sys2Proof
namespace Machine

theorem Frame.sameSlot_iff (f g : Frame) : f.sameSlot g = true ↔ f.kind = g.kind ∧ f.subject = g.subject := by
  simp [Frame.sameSlot]

theorem Frame.sameSlot_comm (f g : Frame) : f.sameSlot g = g.sameSlot f := by
  rw [Bool.eq_iff_iff, Frame.sameSlot_iff, Frame.sameSlot_iff]
  exact ⟨fun h => ⟨h.1.symm, h.2.symm⟩, fun h => ⟨h.1.symm, h.2.symm⟩⟩

theorem Frame.sameSlot_congr {f f' g g' : Frame} (hf : f'.kind = f.kind ∧ f'.subject = f.subject)
    (hg : g'.kind = g.kind ∧ g'.subject = g.subject) : f'.sameSlot g' = f.sameSlot g := by
  simp [Frame.sameSlot, hf.1, hf.2, hg.1, hg.2]

/-- Filling in the used fields changes neither the kind nor what the frame is about (02 R37). -/
theorem State.fill_slot (s : State) (f : Frame) : (s.fill f).kind = f.kind ∧ (s.fill f).subject = f.subject := by
  cases f <;> exact ⟨rfl, rfl⟩

theorem FrameKind.places_le (k : FrameKind) : k.places ≤ Config.queuePlaces := by
  cases k <;> simp [FrameKind.places, Config.queuePlaces, Config.queuePlacesOther]

theorem QueueGood.nil : QueueGood [] := by simp [QueueGood]

theorem QueueGood.filter {q : List QueuedFrame} (h : QueueGood q) (p : QueuedFrame → Bool) :
    QueueGood (q.filter p) :=
  ⟨(List.length_filter_le p q).trans h.1, h.2.1.filter p, h.2.2.1.filter p,
   fun f hf => h.2.2.2 f (List.mem_of_mem_filter hf)⟩

/-- A change of frames in their places that keeps their slots and their attempts below four. -/
theorem QueueGood.map {q : List QueuedFrame} (h : QueueGood q) (f : QueuedFrame → QueuedFrame)
    (slot : ∀ g ∈ q, (f g).frame.kind = g.frame.kind ∧ (f g).frame.subject = g.frame.subject)
    (attempts : ∀ g ∈ q, (f g).attempts < Config.attemptLimit) : QueueGood (q.map f) := by
  refine ⟨by simpa using h.1, ?_, ?_, ?_⟩
  · rw [List.pairwise_map]
    refine List.Pairwise.imp_of_mem ?_ h.2.1
    intro a b ha hb hab
    rw [(slot a ha).1, (slot b hb).1]; exact hab
  · rw [List.pairwise_map]
    refine List.Pairwise.imp_of_mem ?_ h.2.2.1
    intro a b ha hb hab
    rw [Frame.sameSlot_congr (slot a ha) (slot b hb)]; exact hab
  · intro g hg
    obtain ⟨a, ha, rfl⟩ := List.mem_map.mp hg
    exact attempts a ha

theorem insertFrame_length (f : QueuedFrame) (q : List QueuedFrame) : (insertFrame f q).length = q.length + 1 := by
  induction q with
  | nil => rfl
  | cons g rest ih => simp only [insertFrame]; split <;> simp [ih]

theorem mem_insertFrame {f g : QueuedFrame} {q : List QueuedFrame} : g ∈ insertFrame f q ↔ g = f ∨ g ∈ q := by
  induction q with
  | nil => simp [insertFrame]
  | cons a rest ih => simp only [insertFrame]; split <;> simp [ih]; tauto

theorem insertFrame_sorted (f : QueuedFrame) {q : List QueuedFrame}
    (h : q.Pairwise fun f g => f.frame.kind.code ≤ g.frame.kind.code) :
    (insertFrame f q).Pairwise fun f g => f.frame.kind.code ≤ g.frame.kind.code := by
  induction q with
  | nil => simp [insertFrame]
  | cons a rest ih =>
    simp only [insertFrame]
    rw [List.pairwise_cons] at h
    split
    next hlt =>
      refine List.pairwise_cons.mpr ⟨?_, List.pairwise_cons.mpr h⟩
      intro b hb
      rcases List.mem_cons.mp hb with rfl | hb
      · exact hlt.le
      · exact hlt.le.trans (h.1 b hb)
    next hlt =>
      refine List.pairwise_cons.mpr ⟨?_, ih h.2⟩
      intro b hb
      rcases mem_insertFrame.mp hb with rfl | hb
      · omega
      · exact h.1 b hb

theorem insertFrame_distinct (f : QueuedFrame) {q : List QueuedFrame}
    (h : q.Pairwise fun f g => f.frame.sameSlot g.frame = false)
    (new : ∀ g ∈ q, g.frame.sameSlot f.frame = false) :
    (insertFrame f q).Pairwise fun f g => f.frame.sameSlot g.frame = false := by
  induction q with
  | nil => simp [insertFrame]
  | cons a rest ih =>
    simp only [insertFrame]
    rw [List.pairwise_cons] at h
    split
    · refine List.pairwise_cons.mpr ⟨?_, List.pairwise_cons.mpr h⟩
      intro b hb
      rw [Frame.sameSlot_comm]; exact new b hb
    · refine List.pairwise_cons.mpr ⟨?_, ih h.2 fun g hg => new g (List.mem_cons_of_mem _ hg)⟩
      intro b hb
      rcases mem_insertFrame.mp hb with rfl | hb
      · exact new a (List.mem_cons_self ..)
      · exact h.1 b hb

theorem QueueGood.insert {q : List QueuedFrame} (h : QueueGood q) (f : Frame)
    (room : q.length < Config.queuePlaces) (new : ∀ g ∈ q, g.frame.sameSlot f = false) :
    QueueGood (insertFrame (.fresh f) q) :=
  ⟨by rw [insertFrame_length]; omega, insertFrame_sorted _ h.2.1, insertFrame_distinct _ h.2.2.1 new, by
    intro g hg
    rcases mem_insertFrame.mp hg with rfl | hg
    · simp [QueuedFrame.fresh, Config.attemptLimit]
    · exact h.2.2.2 g hg⟩

/-- Everything that giving a frame to the queue can do (02 R43, R44): the frame replaces a waiting one of its slot, takes
its place, or changes nothing. -/
theorem State.enqueue_cases (s : State) (frame : Frame) :
    (s.enqueue frame = (s.replacePayload (s.fill frame), .replaced))
    ∨ (s.enqueue frame = (s.setQueue (insertFrame (.fresh (s.fill frame)) s.line.queue), .queued)
        ∧ s.queuedLike (s.fill frame) = none ∧ s.queueFullFor (s.fill frame).kind = false)
    ∨ (s.enqueue frame = (s, .discarded)) ∨ (s.enqueue frame = (s, .full)) := by
  simp only [State.enqueue]
  split
  · split
    · exact .inl rfl
    · exact .inr (.inr (.inl rfl))
  · split
    · exact .inr (.inr (.inr rfl))
    next h1 h2 => exact .inr (.inl ⟨rfl, h1, by simpa using h2⟩)

theorem State.replacePayload_good (s : State) (f : Frame) (h : QueueGood s.line.queue) :
    QueueGood (s.replacePayload f).line.queue := by
  refine h.map _ ?_ ?_
  · intro g _
    by_cases hs : g.frame.sameSlot f = true
    · simp only [hs, if_true]
      exact ⟨((Frame.sameSlot_iff _ _).mp hs).1.symm, ((Frame.sameSlot_iff _ _).mp hs).2.symm⟩
    · simp [hs]
  · intro g hg
    by_cases hs : g.frame.sameSlot f = true <;> simp [hs] <;> exact h.2.2.2 g hg

/-- A frame given to the queue leaves the queue good. -/
theorem State.enqueue_good (s : State) (frame : Frame) (h : QueueGood s.line.queue) :
    QueueGood (s.enqueue frame).1.line.queue := by
  rcases s.enqueue_cases frame with e | ⟨e, hl, hf⟩ | e | e <;> rw [e]
  · exact s.replacePayload_good _ h
  · refine h.insert _ ?_ ?_
    · have := (s.fill frame).kind.places_le
      simp only [State.queueFullFor, decide_eq_false_iff_not, not_le] at hf
      omega
    · intro g hg
      have := List.find?_eq_none.mp hl g hg
      simpa using this
  · exact h
  · exact h

-- The frame being sent, between the frames that wait

theorem allWaiting.filter_waiting {q : List QueuedFrame} (h : allWaiting q) :
    (q.filter fun g => g.phase == .waiting) = q := List.filter_eq_self.mpr fun g hg => by simp [h g hg]

theorem allWaiting.find_sent {q : List QueuedFrame} (h : allWaiting q) :
    (q.find? fun g => g.phase != .waiting) = none := List.find?_eq_none.mpr fun g hg => by simp [h g hg]

theorem allWaiting.map_sent {q : List QueuedFrame} (h : allWaiting q) (f : QueuedFrame → QueuedFrame) :
    (q.map fun g => if g.phase != .waiting then f g else g) = q :=
  (List.map_congr_left fun g hg => by simp [h g hg]).trans (List.map_id q)

theorem State.inFlight_none {s : State} (h : allWaiting s.line.queue) : s.inFlight = none := h.find_sent

section Sent
variable {s : State} {pre post : List QueuedFrame} {g : QueuedFrame}
  (q : s.line.queue = pre ++ g :: post) (hp : allWaiting pre) (hq : allWaiting post) (hg : g.phase ≠ .waiting)
include q hp hg

theorem State.inFlight_split : s.inFlight = some g := by
  simp [State.inFlight, q, hp.find_sent, hg]

include hq

/-- The frame being sent leaves the queue, and the others keep their places. -/
theorem State.removeInFlight_split : s.removeInFlight = s.setQueue (pre ++ post) := by
  simp [State.removeInFlight, q, hp.filter_waiting, hq.filter_waiting, hg]

/-- The frame being sent is changed in its place, and the others stay as they are. -/
theorem State.mapInFlight_split (f : QueuedFrame → QueuedFrame) :
    s.mapInFlight f = s.setQueue (pre ++ f g :: post) := by
  simp only [State.mapInFlight, q, List.map_append, List.map_cons, hp.map_sent, hq.map_sent]
  simp [hg]

/-- A failed attempt leaves the queue as the statements give it (02 R42, 01 R7). -/
theorem State.failAttempt_queue : s.failAttempt.line.queue = queueAfterFailure pre g post := by
  have dropped (t : State) (f : Frame) : (t.frameDropped f).line = t.line := by
    cases f <;> simp only [State.frameDropped]
    case claim => simp only [State.dropClaim, State.mapHead]; split <;> rfl
    case join => split <;> rfl
  simp only [State.failAttempt, State.inFlight_split q hp hg, queueAfterFailure,
    State.removeInFlight_split q hp hq hg, State.mapInFlight_split q hp hq hg]
  by_cases hn : g.noRetry = true
  · simp [hn, State.setQueue]
  · by_cases ha : 3 ≤ g.attempts
    · simp [hn, ha, dropped, State.setQueue, State.raiseLineFault, State.raise, Config.attemptLimit,
        show ¬g.attempts + 1 < 4 by omega]
    · simp [hn, ha, State.setQueue, Config.attemptLimit, show g.attempts + 1 < 4 by omega]

end Sent

end Machine
end Sys2Proof
end

