-- ==== Sys2Proof/Laws/Steady.lean ====
section
/-! SUPPORT. What nearly every operation keeps: the waiting commands, the Belt Tracker, the configuration and its marks,
the end bin; and the goodness of the queue, the driver, the notices, the session and the path. One lemma per operation. -/
namespace Sys2Proof
namespace Machine

/-- `t` keeps of `s` what an operation outside the belt, the configuration and the resets keeps. -/
structure Steady (s t : State) : Prop where
  pending : t.pending = s.pending
  belt : t.belt = s.belt
  cfg : t.host.cfg = s.host.cfg
  configured : t.host.configured = s.host.configured
  started : t.host.started = s.host.started
  digest : t.ownDigest = s.ownDigest
  endBin : t.bins[0] = s.bins[0]
  queue : QueueGood s.line.queue → QueueGood t.line.queue
  driver : DriverGood s.line → DriverGood t.line
  notices : NoticesGood s.notices → NoticesGood t.notices
  session : s.session.Tidy → t.session.Tidy
  path : s.path.WithinPlaces → t.path.WithinPlaces

namespace Steady

theorem refl (s : State) : Steady s s := ⟨rfl, rfl, rfl, rfl, rfl, rfl, rfl, id, id, id, id, id⟩

theorem trans {s t u : State} (a : Steady s t) (b : Steady t u) : Steady s u :=
  ⟨b.pending.trans a.pending, b.belt.trans a.belt, b.cfg.trans a.cfg, b.configured.trans a.configured,
   b.started.trans a.started, b.digest.trans a.digest, b.endBin.trans a.endBin, b.queue ∘ a.queue,
   b.driver ∘ a.driver, b.notices ∘ a.notices, b.session ∘ a.session, b.path ∘ a.path⟩

theorem foldl {α : Type} (f : State → α → State) (h : ∀ s a, Steady s (f s a)) (l : List α) (s : State) :
    Steady s (l.foldl f s) := by
  induction l generalizing s with
  | nil => exact refl s
  | cons a l ih => exact (h s a).trans (ih _)

theorem ite {s t u : State} {p : Prop} [Decidable p] (a : Steady s t) (b : Steady s u) :
    Steady s (if p then t else u) := by split <;> assumption

/-- Whatever is good stays good. -/
theorem good {s t : State} (h : Steady s t) (g : s.Good) : t.Good where
  belt := h.belt ▸ g.belt
  queue := h.queue g.queue
  driver := h.driver g.driver
  notices := h.notices g.notices
  session := h.session g.session
  path := h.path g.path
  endBin := h.endBin.trans g.endBin
  bounds := h.cfg ▸ g.bounds

end Steady

open Steady

-- Whole blocks that Steady does not look into

theorem Steady.map (s : State) (m : Vector Entry 256) : Steady s { s with map := m } :=
  ⟨rfl, rfl, rfl, rfl, rfl, rfl, rfl, id, id, id, id, id⟩
theorem Steady.member (s : State) (m : Membership) : Steady s { s with member := m } :=
  ⟨rfl, rfl, rfl, rfl, rfl, rfl, rfl, id, id, id, id, id⟩
theorem Steady.gates (s : State) (g : Vector (Option GateInterval) 8) : Steady s { s with gates := g } :=
  ⟨rfl, rfl, rfl, rfl, rfl, rfl, rfl, id, id, id, id, id⟩
theorem Steady.dutyReports (s : State) (b : Bool) : Steady s { s with dutyReports := b } :=
  ⟨rfl, rfl, rfl, rfl, rfl, rfl, rfl, id, id, id, id, id⟩
theorem Steady.eyes (s : State) (e : Eyes) : Steady s { s with eyes := e } :=
  ⟨rfl, rfl, rfl, rfl, rfl, rfl, rfl, id, id, id, id, id⟩
theorem Steady.scan (s : State) (u : ScanUnit) : Steady s { s with scan := u } :=
  ⟨rfl, rfl, rfl, rfl, rfl, rfl, rfl, id, id, id, id, id⟩
theorem Steady.reader (s : State) (r : Reader) : Steady s { s with reader := r } :=
  ⟨rfl, rfl, rfl, rfl, rfl, rfl, rfl, id, id, id, id, id⟩
theorem Steady.article (s : State) (u : ArticleUnit) : Steady s { s with article := u } :=
  ⟨rfl, rfl, rfl, rfl, rfl, rfl, rfl, id, id, id, id, id⟩
theorem Steady.drives (s : State) (d : Drives) : Steady s { s with drives := d } :=
  ⟨rfl, rfl, rfl, rfl, rfl, rfl, rfl, id, id, id, id, id⟩
theorem Steady.heat (s : State) (h : HeatStage) : Steady s { s with heat := h } :=
  ⟨rfl, rfl, rfl, rfl, rfl, rfl, rfl, id, id, id, id, id⟩

/-- A change of the Host Port that keeps the configuration and its marks. -/
theorem Steady.host (s : State) (h : HostPort) (c : h.cfg = s.host.cfg) (m : h.configured = s.host.configured)
    (t : h.started = s.host.started) : Steady s { s with host := h } :=
  ⟨rfl, rfl, c, m, t, rfl, rfl, id, id, id, id, id⟩

theorem Steady.mapPath (s : State) (f : Path → Path) (h : s.path.WithinPlaces → (f s.path).WithinPlaces) :
    Steady s (s.mapPath f) := ⟨rfl, rfl, rfl, rfl, rfl, rfl, rfl, id, id, id, id, h⟩

theorem Steady.mapSession (s : State) (f : Session → Session) (h : s.session.Tidy → (f s.session).Tidy) :
    Steady s (s.mapSession f) := ⟨rfl, rfl, rfl, rfl, rfl, rfl, rfl, id, id, id, h, id⟩

theorem Steady.line (s : State) (l : Line) (q : QueueGood s.line.queue → QueueGood l.queue)
    (d : DriverGood s.line → DriverGood l) : Steady s { s with line := l } :=
  ⟨rfl, rfl, rfl, rfl, rfl, rfl, rfl, q, d, id, id, id⟩

theorem Steady.setQueue (s : State) (q : List QueuedFrame) (h : QueueGood s.line.queue → QueueGood q) :
    Steady s (s.setQueue q) := .line s _ h id

-- Ops

theorem NoticeRecord.raised_good (r : NoticeRecord) (d : NoticeDetail) :
    (r.raised d).count ≤ 255 ∧ ((r.raised d).detail = none ↔ (r.raised d).count = 0) := by
  simp only [NoticeRecord.raised]
  exact ⟨by omega, by simp⟩

theorem State.raise_steady (s : State) (d : NoticeDetail) : Steady s (s.raise d) := by
  refine ⟨rfl, rfl, rfl, rfl, rfl, rfl, rfl, id, id, ?_, id, id⟩
  intro h k
  by_cases e : d.kind.index = k
  · subst e
    simpa [State.raise] using s.notices[d.kind.index].raised_good d
  · have e' : d.kind.index.val ≠ k.val := fun h => e (Fin.ext h)
    simpa [State.raise, Vector.getElem_set, e'] using h k

theorem State.raiseLineFault_steady (s : State) (f : LineFault) : Steady s (s.raiseLineFault f) := s.raise_steady _

theorem State.setEntry_steady (s : State) (x : Cleat) (e : Entry) : Steady s (s.setEntry x e) := .map s _

theorem State.pruneClaims_steady (s : State) : Steady s s.pruneClaims :=
  ⟨rfl, rfl, rfl, rfl, rfl, rfl, rfl, id, id, id, id,
   fun h => ⟨h.1, (List.length_filter_le ..).trans h.2.1, h.2.2⟩⟩

theorem State.changeEntry_steady (s : State) (x : Cleat) (e : Entry) : Steady s (s.changeEntry x e) :=
  (s.setEntry_steady x e).trans (State.pruneClaims_steady _)

theorem State.setRole_steady (s : State) (x : Cleat) (r : ClaimRole) : Steady s (s.setRole x r) :=
  .ite (.mapPath s (fun p => { p with claims := _ }) id) (.refl s)

theorem State.enterGivenUp_steady (s : State) (x : Cleat) : Steady s (s.enterGivenUp x) := by
  unfold State.enterGivenUp
  split
  next h =>
    refine .mapPath s (fun p => { p with givenUp := s.path.givenUp ++ [x] }) fun g => ⟨g.1, ?_, g.2.2⟩
    simp only [Bool.and_eq_true, decide_eq_true_eq] at h
    simp only [List.length_append, List.length_singleton]; omega
  · exact .refl s

theorem State.setBin_steady (s : State) (b : BinNo) (r : BinRecord) : Steady s (s.setBin b r) := by
  unfold State.setBin
  split
  · exact .refl s
  next h =>
    refine ⟨rfl, rfl, rfl, rfl, rfl, rfl, ?_, id, id, id, id, id⟩
    simp [h]

theorem State.checkCount_steady (s : State) (k : FrameKind) (n : Nat) (b : BinNo) (u : Nat) :
    Steady s (s.checkCount k n b u) := by
  unfold State.checkCount
  split
  · split
    · split
      · exact .refl s
      · exact s.raise_steady _
    · exact .refl s
  · exact .refl s

theorem State.adopt_steady (s : State) (k : FrameKind) (n : Nat) (b : BinNo) (w : Word16) :
    Steady s (s.adopt k n b w) := by
  unfold State.adopt
  split
  · exact .refl s
  · split
    · exact .refl s
    · exact (s.checkCount_steady ..).trans (State.setBin_steady ..)

theorem State.reportBin_steady (before : Vector BinRecord 9) (s : State) (b : BinNo) :
    Steady s (State.reportBin before s b) := by
  simp only [State.reportBin]
  split
  · exact (s.raise_steady _).trans (State.setBin_steady ..)
  · exact .refl s

theorem State.reportBins_steady (before : Vector BinRecord 9) (s : State) : Steady s (State.reportBins before s) :=
  .foldl _ (State.reportBin_steady before) _ _

theorem State.enqueue_steady (s : State) (f : Frame) : Steady s (s.enqueue f).1 := by
  have h := s.enqueue_good f
  rcases s.enqueue_cases f with e | ⟨e, -, -⟩ | e | e <;> rw [e] at h ⊢
  · exact .setQueue s _ h
  · exact .setQueue s _ h
  · exact .refl s
  · exact .refl s

theorem State.queueFrame_steady (s : State) (f : Frame) : Steady s (s.queueFrame f) := by
  have h := s.enqueue_steady f
  unfold State.queueFrame
  split
  next s' e =>
    rw [e] at h
    split
    · exact h
    · exact h
    · exact h.trans (State.raiseLineFault_steady ..)
  next s' o _ e => rw [e] at h; exact h

theorem State.withdraw_steady (s : State) (p : Frame → Bool) : Steady s (s.withdraw p) :=
  .setQueue s _ fun h => h.filter _

theorem State.removeInFlight_steady (s : State) : Steady s s.removeInFlight := .setQueue s _ fun h => h.filter _

theorem State.markNoRetry_steady (s : State) (p : Frame → Bool) : Steady s (s.markNoRetry p) := by
  refine .setQueue s _ fun h => h.map _ ?_ ?_
  · intro g _; split <;> exact ⟨rfl, rfl⟩
  · intro g hg; split <;> exact h.2.2.2 g hg

theorem State.mapInFlight_steady (s : State) (f : QueuedFrame → QueuedFrame)
    (slot : ∀ g, (f g).frame.kind = g.frame.kind ∧ (f g).frame.subject = g.frame.subject)
    (attempts : ∀ g, g.attempts < Config.attemptLimit → (f g).attempts < Config.attemptLimit) :
    Steady s (s.mapInFlight f) := by
  refine .setQueue s _ fun h => h.map _ ?_ ?_
  · intro g _
    split
    · exact slot g
    · exact ⟨rfl, rfl⟩
  · intro g hg
    split
    · exact attempts g (h.2.2.2 g hg)
    · exact h.2.2.2 g hg

/-- Changing the head keeps the places of the path. -/
theorem State.mapHead_steady (s : State) (f : Container → Container) : Steady s (s.mapHead f) := by
  unfold State.mapHead
  split
  · exact .refl s
  next h rest e =>
    refine .mapPath s (fun p => { p with hold := f h :: rest }) fun g => ?_
    rw [Path.WithinPlaces, e] at g
    exact g

theorem State.dropClaim_steady (s : State) (x : Cleat) : Steady s (s.dropClaim x) := s.mapHead_steady _

theorem State.frameDropped_steady (s : State) (f : Frame) : Steady s (s.frameDropped f) := by
  cases f <;> simp only [State.frameDropped] <;> first
    | exact s.dropClaim_steady _
    | exact .ite (.member s _) (.refl s)
    | exact .refl s

theorem State.failAttempt_steady (s : State) : Steady s s.failAttempt := by
  unfold State.failAttempt
  split
  · exact .refl s
  next g _ =>
    split
    · exact s.removeInFlight_steady
    · split
      next h => exact s.mapInFlight_steady _ (fun _ => ⟨rfl, rfl⟩) (fun _ _ => h)
      · exact (s.removeInFlight_steady.trans (State.raiseLineFault_steady ..)).trans (State.frameDropped_steady ..)

theorem timerBit_le (t : Nat) (a : Bool) : timerBit t a ≤ 16 := by
  unfold timerBit
  split
  · exact Nat.min_le_left ..
  · exact Nat.zero_le _

/-- The overload timer stays at 16 or below whatever bits are driven (02 R28, R29). -/
theorem timerAfter_le (c : LineCurrent) (t : Nat) (h : t ≤ 16) : timerAfter t c ≤ 16 := by
  induction c generalizing t with
  | nil => exact h
  | cons a c ih => exact ih _ (timerBit_le t a)

theorem State.measureCurrent_steady (s : State) (c : LineCurrent) : Steady s (s.measureCurrent c) :=
  .line s _ id fun h => ⟨by
    show (if s.driverDrives then timerAfter s.line.overloadTimer c else s.line.overloadTimer) ≤ 16
    split
    · exact timerAfter_le c _ h.1
    · exact h.1, h.2⟩

theorem State.driveSlot_steady (s : State) (d : SlotDrive) : Steady s (s.driveSlot d) := .line s _ id id

theorem State.countEcho_steady (s : State) (e : Bool) : Steady s (s.countEcho e) :=
  .line s _ id fun h => ⟨h.1, h.2.1, by show (if e then 0 else min 8 _) ≤ 8; split <;> omega, h.2.2.2⟩

theorem State.endAlone_steady (s : State) : Steady s s.endAlone :=
  .line s _ id fun h => ⟨h.1, h.2.1, Nat.zero_le _, h.2.2.2⟩

-- DriveOps

theorem State.mapChannel_steady (s : State) (c : Channel) (f : ChannelRecord → ChannelRecord) :
    Steady s (s.mapChannel c f) := .drives s _

theorem State.settleHold_steady (s : State) : Steady s s.settleHold := .drives s _

theorem State.pulseFlap_steady (s : State) : Steady s s.pulseFlap :=
  .ite ((State.mapChannel_steady s _ _).trans (.drives _ _)) (.refl s)

theorem State.raiseDriveFault_steady (s : State) (c : Channel) : Steady s (s.raiseDriveFault c) := by
  simp only [State.raiseDriveFault]
  split
  · exact s.raise_steady _
  · exact .refl s

theorem State.faultChannel_steady (s : State) (c : Channel) : Steady s (s.faultChannel c) := by
  simp only [State.faultChannel]
  split
  · exact ((State.mapChannel_steady ..).trans (.drives _ _)).trans (State.raiseDriveFault_steady ..)
  · exact (State.mapChannel_steady ..).trans (.drives _ _)

theorem State.applyCut_steady (s : State) (held : Bool) : Steady s (s.applyCut held) :=
  .ite (.drives s _) (.ite (.drives s _) (.refl s))

theorem State.resetDrives_steady (s : State) (d : Drives) : Steady s (s.resetDrives d) := .drives s _

-- SessionOps

theorem Session.emptied_tidy (n : Session) (h : n.Tidy) : n.emptied.Tidy :=
  ⟨fun _ => ⟨rfl, rfl, rfl, rfl, rfl⟩, nofun, nofun, h.2.2.2⟩

theorem State.assignNumber_steady (s : State) (closing : s.session.state = .closing) (one : 1 ≤ s.session.count) :
    Steady s s.assignNumber := by
  have h := (Steady.mapSession s (fun n => { n with
      state := .closed, number := some (s.voucherNumber s.session.sequence), sequence := n.sequence + 1 })
    fun h => ⟨nofun, nofun, fun _ => ⟨h.2.1 closing, rfl, one⟩, h.2.2.2⟩).trans
    (State.raise_steady _ (.sessionClosed (s.voucherNumber s.session.sequence)
      (s.session.reason.getD .customer) s.session.total s.session.count s.session.lines.length))
  simp only [State.assignNumber]
  split
  · exact h.trans (State.raise_steady ..)
  · exact h

theorem State.endClose_steady (s : State) : Steady s s.endClose := by
  unfold State.endClose
  split
  next h =>
    split
    next one => exact s.assignNumber_steady h.1 one
    · exact .mapSession s _ fun g => s.session.emptied_tidy g
  · exact .refl s

theorem State.beginClose_steady (s : State) (r : CloseReason) : Steady s (s.beginClose r) :=
  (Steady.mapSession s (fun n => { n with state := .closing, reason := some r, idleTimer := none })
    fun h => ⟨nofun, fun _ => rfl, nofun, h.2.2.2⟩).trans (State.endClose_steady _)

theorem Session.accept_tidy (n : Session) (h : n.Tidy) : n.accept.Tidy := by
  unfold Session.accept
  split
  · exact ⟨nofun, nofun, nofun, h.2.2.2⟩
  next e => exact ⟨fun i => by simp [e] at i, fun i => by simp [e] at i, fun i => by simp [e] at i, h.2.2.2⟩
  next e => exact ⟨fun i => by simp [e] at i, fun _ => h.2.1 e, fun i => by simp [e] at i, h.2.2.2⟩
  · exact h

theorem Session.credited_tidy (n : Session) (code : Code) (v : Nat) (h : n.Tidy) : (n.credited code v).Tidy := by
  unfold Session.credited
  split
  next e => exact ⟨fun i => by simp [e] at i, fun i => by simp [e] at i, fun i => by simp [e] at i, h.2.2.2⟩
  next e => exact ⟨fun i => by simp [e] at i, fun _ => h.2.1 e, fun i => by simp [e] at i, h.2.2.2⟩
  · exact h
  · exact h

theorem State.credit_steady (s : State) (code : Code) (v : Nat) : Steady s (s.credit code v) :=
  (Steady.mapSession s _ fun h => s.session.credited_tidy code v h).trans (State.endClose_steady _)

theorem State.losePending_steady (s : State) : Steady s s.losePending :=
  (Steady.mapSession s _ fun h => h).trans (State.endClose_steady _)

theorem State.setUndecided_steady (s : State) : Steady s s.setUndecided := .mapSession s _ fun h => h

theorem State.clearUndecided_steady (s : State) : Steady s s.clearUndecided :=
  (Steady.mapSession s _ fun h => h).trans (State.endClose_steady _)

theorem State.apertureEvent_steady (s : State) : Steady s s.apertureEvent :=
  .mapSession s _ fun h => by split <;> exact h

theorem State.restartSession_steady (s : State) : Steady s s.restartSession := by
  unfold State.restartSession
  split
  · exact .mapSession s _ fun h => h
  · exact .mapSession s _ fun h => h
  · exact (Steady.mapSession s _ fun h => h).trans (State.beginClose_steady ..)
  · exact (Steady.mapSession s _ fun h => h).trans (State.beginClose_steady ..)

theorem State.testDoze_steady (s : State) : Steady s s.testDoze :=
  .ite (.ite (.host s _ rfl rfl rfl) (.refl s)) (.host s _ rfl rfl rfl)

end Machine
end Sys2Proof
end

