-- ==== Sys2Proof/Laws/SteadyPath.lean ====
section
/-! SUPPORT. The operations of the path, of the lookup, of membership and of the rest levels keep what `Steady` keeps. -/
namespace Sys2Proof
namespace Machine

-- PathOps

theorem State.setEntryRecord_steady (s : State) (c : Container)
    (h : c.stage = .waitingHold → s.path.entryTimer = none) : Steady s (s.setEntryRecord c) :=
  .mapPath s _ fun g => ⟨g.1, g.2.1, fun c' e w t => by cases e; simp [h w] at t⟩

/-- A record of the entry zone replaced by one of the same stage. -/
theorem State.setEntryRecord_same (s : State) (c c' : Container) (e : s.path.entry = some c)
    (h : c'.stage = c.stage) : Steady s (s.setEntryRecord c') :=
  .mapPath s _ fun g => ⟨g.1, g.2.1, fun d ed w t => by cases ed; exact g.2.2 c e (h ▸ w) t⟩

theorem State.emptyEntry_steady (s : State) : Steady s s.emptyEntry :=
  .mapPath s (fun p => { p with entry := none, entryTimer := none, readTimer := none, window := false })
    fun g => ⟨g.1, g.2.1, fun _ e => nomatch e⟩

theorem State.closeWindow_steady (s : State) : Steady s s.closeWindow :=
  .mapPath s (fun p => { p with window := false, readTimer := none }) fun g => g

theorem State.dropScan_steady (s : State) : Steady s s.dropScan := .scan s _

theorem State.abandonScan_steady (s : State) : Steady s s.abandonScan := s.dropScan_steady.trans (.scan _ _)

theorem State.stopEntry_steady (s : State) : Steady s s.stopEntry := .drives s _

theorem State.endReport_steady (s : State) (b : Stage) : Steady s (s.endReport b) :=
  .ite s.losePending_steady (.ite s.clearUndecided_steady (.refl s))

theorem State.jamEntry_steady (s : State) (c : Container) (j : JamCause) (ch : Option Channel) :
    Steady s (s.jamEntry c j ch) :=
  (((s.emptyEntry_steady.trans (State.stopEntry_steady _)).trans
    (State.setEntryRecord_steady _ _ fun _ => rfl)).trans (State.endReport_steady ..)).trans (State.raise_steady ..)

theorem State.checkEntryDrive_steady (s : State) : Steady s s.checkEntryDrive := by
  unfold State.checkEntryDrive
  split
  · split
    · exact s.jamEntry_steady ..
    · exact .refl s
  · exact .refl s

/-- A move of a WAITING HOLD record needs a free place of the hold queue. -/
theorem State.startMove_steady (s : State) (d : Direction)
    (h : ∀ c, s.path.entry = some c → c.stage = .waitingHold → s.path.hold.length < Config.holdPlaces) :
    Steady s (s.startMove d) :=
  ((Steady.drives s _).trans (.mapPath (s.requestEntry d) (fun p => { p with entryTimer := some 0 })
    fun g => ⟨g.1, g.2.1, fun c e w _ => h c e w⟩)).trans (State.checkEntryDrive_steady _)

theorem State.testOffered_steady (s : State) : Steady s s.testOffered := by
  unfold State.testOffered
  split
  · split
    · exact (s.stopEntry_steady.trans (State.setEntryRecord_steady _ _ (by simp))).trans
        (.mapPath _ _ fun g => ⟨g.1, g.2.1, by simp⟩)
    · exact .refl s
  · exact .refl s

/-- The end of a close does not touch the path. -/
@[simp] theorem State.endClose_path (s : State) : s.endClose.path = s.path := by
  unfold State.endClose
  split
  · split
    · simp only [State.assignNumber]; split <;> rfl
    · rfl
  · rfl

@[simp] theorem State.clearUndecided_path (s : State) : s.clearUndecided.path = s.path := by
  simp [State.clearUndecided]

theorem State.reject_steady (s : State) (c : Container) (r : RejectReason) : Steady s (s.reject c r) :=
  ((((s.emptyEntry_steady.trans (State.setEntryRecord_steady _
      { c with stage := .returning .backing, reject := some r } (by simp))).trans
    (State.dropScan_steady _)).trans (State.clearUndecided_steady _)).trans
    (State.startMove_steady _ _ (by simp [State.setEntryRecord]))).trans (State.testOffered_steady _)

theorem State.returnContainer_steady (s : State) (c : Container) : Steady s (s.returnContainer c) :=
  (s.stopEntry_steady.trans (State.emptyEntry_steady _)).trans (State.raise_steady ..)

theorem State.discardEntry_steady (s : State) : Steady s s.discardEntry :=
  (s.stopEntry_steady.trans (State.emptyEntry_steady _)).trans (State.clearUndecided_steady _)

theorem State.startHandover_steady (s : State) : Steady s s.startHandover := by
  unfold State.startHandover
  split
  · split
    next h => exact s.startMove_steady _ fun _ _ _ => h.2.2
    · exact .refl s
  · exact .refl s

theorem State.accept_steady (s : State) (c : Container) (a : Article) : Steady s (s.accept c a) :=
  ((((s.emptyEntry_steady.trans (State.setEntryRecord_steady _
      { c with stage := .waitingHold, article := some a, bin := some a.bin, value := some a.deposit }
      fun _ => rfl)).trans
    (State.dropScan_steady _)).trans (.mapSession _ _ fun h => Session.accept_tidy _ h)).trans
    (State.clearUndecided_steady _)).trans (State.startHandover_steady _)

/-- A record that is being carried to the hold queue finds its place there. -/
theorem State.joinHold_steady (s : State) (c : Container) (e : s.path.entry = some c) (w : c.stage = .waitingHold)
    (t : s.path.entryTimer.isSome = true) : Steady s (s.joinHold c) := by
  have h : Steady s (s.stopEntry.emptyEntry.mapPath fun p =>
      { p with hold := p.hold ++ [{ c with stage := .claiming, link := .none, holdWait := some 0 }] }) := by
    refine ⟨rfl, rfl, rfl, rfl, rfl, rfl, rfl, id, id, id, id, fun g => ⟨?_, g.2.1, fun _ e => nomatch e⟩⟩
    have := g.2.2 c e w t
    show (s.path.hold ++ [_]).length ≤ _
    simp only [List.length_append, List.length_singleton]
    omega
  exact h.trans (State.settleHold_steady _)

theorem State.decideFor_steady (s : State) (c : Container) (a : Option Article) : Steady s (s.decideFor c a) := by
  unfold State.decideFor
  split
  · exact s.reject_steady ..
  · exact s.reject_steady ..
  · exact s.accept_steady ..
  · exact .refl s

theorem State.fullDecision_steady (s : State) (a : Option Article) : Steady s (s.fullDecision a) := by
  unfold State.fullDecision
  split
  · exact .ite (s.decideFor_steady ..) (.refl s)
  · exact .refl s

theorem State.mapArticle_steady (s : State) (f : ArticleUnit → ArticleUnit) : Steady s (s.mapArticle f) := .article s _

theorem State.lookupNow_steady (s : State) (c : Code) (t : Tag) : Steady s (s.lookupNow c t) := by
  simp only [State.lookupNow]
  split
  · exact (s.mapArticle_steady _).trans (State.fullDecision_steady ..)
  · exact s.mapArticle_steady _

theorem State.requestLookup_steady (s : State) (c : Code) (t : Tag) : Steady s (s.requestLookup c t) := by
  unfold State.requestLookup
  split
  · exact s.lookupNow_steady ..
  · exact s.mapArticle_steady _
  · exact s.mapArticle_steady _

theorem State.resumeLookup_steady (s : State) : Steady s s.resumeLookup := by
  unfold State.resumeLookup
  split
  · exact s.lookupNow_steady ..
  · exact .refl s

theorem State.classify_steady (s : State) (c : Container) : Steady s (s.classify c) := by
  have h : Steady s (s.setEntryRecord { c with stage := .classifying }) :=
    s.setEntryRecord_steady { c with stage := .classifying } (by simp)
  simp only [State.classify]
  split
  · exact h.trans (State.reject_steady ..)
  · exact h.trans (State.requestLookup_steady ..)
  · exact h

theorem State.testClassify_steady (s : State) : Steady s s.testClassify := by
  unfold State.testClassify
  split
  · exact .ite (s.classify_steady _) (.refl s)
  · exact .refl s

theorem State.trigger_steady (s : State) : Steady s s.trigger := by
  unfold State.trigger
  split
  · exact .scan s _
  · split
    · exact .scan s _
    · exact .refl s

theorem State.requestScan_steady (s : State) : Steady s s.requestScan :=
  .ite s.trigger_steady (.ite (.scan s _) (.refl s))

theorem State.enterScanning_steady (s : State) (c : Container) : Steady s (s.enterScanning c) :=
  ((s.stopEntry_steady.trans (State.setEntryRecord_steady _ { c with stage := .scanning } (by simp))).trans
    (.mapPath _ (fun p => { p with entryTimer := none, window := true, readTimer := some 0 })
      fun g => ⟨g.1, g.2.1, by simp⟩)).trans (State.requestScan_steady _)

theorem State.scanEyeSeen_steady (s : State) : Steady s s.scanEyeSeen := by
  unfold State.scanEyeSeen
  split
  · exact .ite (s.enterScanning_steady _) (.refl s)
  · exact .refl s

theorem State.withdrawLookup_steady (s : State) : Steady s s.withdrawLookup := s.mapArticle_steady _

theorem State.pullBack_steady (s : State) (c : Container) : Steady s (s.pullBack c) := by
  have h := (s.closeWindow_steady.trans (State.abandonScan_steady _)).trans (State.withdrawLookup_steady _)
  simp only [State.pullBack]
  split
  · exact h.trans (State.reject_steady ..)
  · exact h.trans (State.discardEntry_steady _)

theorem State.tryStart_steady (s : State) : Steady s s.tryStart := by
  have h : Steady s (((s.setEntryRecord (.entering s.path.tagCounter)).mapPath fun p =>
      { p with tagCounter := p.tagCounter + 1 }).setUndecided.startMove .forward) :=
    ((((s.setEntryRecord_steady _ (by simp [Container.entering])).trans
      (.mapPath _ (fun p => { p with tagCounter := p.tagCounter + 1 }) fun g => g)).trans
      (State.setUndecided_steady _)).trans (State.startMove_steady _ _ (by simp [State.setEntryRecord, Container.entering])))
  simp only [State.tryStart]
  split
  · split
    · exact h.trans (State.scanEyeSeen_steady _)
    · exact h
  · exact .refl s

-- MemberOps

theorem State.changeMember_steady (s : State) (m : Membership) (c : JoinCause) : Steady s (s.changeMember m c) :=
  (Steady.member s m).trans (State.raise_steady ..)

theorem State.loseTrust_steady (s : State) : Steady s s.loseTrust :=
  .mapPath s (fun p => { p with transfer := p.transfer.map fun c => { c with trust := false } }) fun g => g

theorem Line.listening_good (l : Line) (h : DriverGood l) : DriverGood l.listening := by
  refine ⟨h.1, h.2.1, h.2.2.1, ?_⟩
  by_cases f : l.driver = .faulted
  · simp [Line.listening, f]
  · intro _; exact h.2.2.2 f

theorem State.leaveOffline_steady (s : State) (c : JoinCause) : Steady s (s.leaveOffline c) :=
  (Steady.mk (s := s) (t := { s with
    line := s.line.listening
    scan := { s.scan with filtered := s.eyes.scan, gap := none }
    reader := { run := .settling, assembly := .idle } })
    rfl rfl rfl rfl rfl rfl rfl id s.line.listening_good id id id).trans (State.changeMember_steady ..)

theorem State.enterConflict_steady (s : State) (c : JoinCause) : Steady s (s.enterConflict c) :=
  (Steady.setQueue s [] fun _ => .nil).trans (State.changeMember_steady ..)

theorem State.reportMiss_steady (s : State) (g : Gate) (x : Cleat) (f : Bool) : Steady s (s.reportMiss g x f) := by
  have h (u : State) : Steady u (if (u.channel (.gate g)).state = .faulted ∧ u.bins[gateBin g].state = .opened then
      u.queueFrame (.binHold (gateBin g) .gateFault) else u) := .ite (u.queueFrame_steady _) (.refl u)
  exact .ite ((Steady.ite (s.queueFrame_steady _) (.refl s)).trans (h _)) (.refl s)

theorem State.missGate_steady (s : State) (g : Gate) : Steady s (s.missGate g) := by
  unfold State.missGate
  split
  · exact (Steady.gates s _).trans (State.reportMiss_steady ..)
  · exact .refl s

theorem State.tellOwners_steady (before : Drives) (s : State) : Steady s (State.tellOwners before s) :=
  (Steady.foldl _ (fun s g => .ite (s.missGate_steady g) (.refl s)) _ s).trans (State.checkEntryDrive_steady _)

theorem State.followCut_steady (before s : State) : Steady s (State.followCut before s) :=
  (s.applyCut_steady _).trans (State.tellOwners_steady ..)

theorem State.returnActive_steady (s : State) : Steady s s.returnActive :=
  (((Steady.host s { s.host with rest := .active } rfl rfl rfl).trans (.reader _ _)).trans
    (State.tryStart_steady _)).trans (State.testDoze_steady _)

theorem State.enterDoze_steady (s : State) : Steady s s.enterDoze :=
  ((Steady.host s { s.host with rest := .doze, offered := false, dozeTimer := none } rfl rfl rfl).trans
    (.reader _ _)).trans (.article _ _)

theorem State.requestWake_steady (s : State) : Steady s s.requestWake :=
  .ite (.refl s) (.line s _ id id)

theorem State.exitDeepRest_steady (s : State) (c : JoinCause) (p : Bool) : Steady s (s.exitDeepRest c p) := by
  have h : Steady s (({ s with
    host := { s.host with rest := .active }
    scan := { s.scan with program := .watching } } : State).leaveOffline c) :=
    ((Steady.host s { s.host with rest := .active } rfl rfl rfl).trans (.scan _ _)).trans
      (State.leaveOffline_steady ..)
  simp only [State.exitDeepRest]
  split
  · exact h.trans (State.requestWake_steady _)
  · exact h

end Machine
end Sys2Proof
end

