-- ==== Sys2Proof/Laws/SteadyHost.lean ====
section
/-! SUPPORT. One host transaction and the handlers of the requests keep what `Steady` keeps, but for the three that set
the configuration, START, DEEP REST and RESTART, which keep the state good. -/
namespace Sys2Proof
namespace Machine

-- The transaction

theorem State.setAnswer_steady (s : State) (a : Answer) : Steady s (s.setAnswer a) := .host s _ rfl rfl rfl

theorem State.shiftOut_steady (s : State) : Steady s s.shiftOut := .host s _ rfl rfl rfl

theorem State.shiftBusy_steady (s : State) : Steady s s.shiftBusy := .host s _ rfl rfl rfl

theorem State.endDoze_steady (s : State) : Steady s s.endDoze := .ite s.returnActive_steady (.refl s)

/-- A handler that keeps what `Steady` keeps. -/
def Handler.Keeps (h : Handler) : Prop := ∀ s, Steady s (h s).1

theorem refuse_keeps (r : RefuseReason) : Handler.Keeps (refuse r) := fun s => .refl s

theorem answerOnly_keeps (data : State → AnswerData) : Handler.Keeps (answerOnly data) := fun s => .refl s

theorem State.handle_steady (s : State) {h : Handler} (k : h.Keeps) : Steady s (s.handle h) := by
  have := k s
  unfold State.handle
  split
  next e => rw [e] at this; exact this.trans (State.setAnswer_steady ..)
  next e => rw [e] at this; exact this

theorem State.readied_steady (s : State) (d : Bool) : Steady s (s.readied d) :=
  .ite (s.shiftOut_steady.trans (State.endDoze_steady _)) s.shiftOut_steady

theorem State.judge_steady (s : State) (n : Bool) {h : Handler} (k : h.Keeps) : Steady s (s.judge n h) := by
  unfold State.judge
  split
  · exact s.handle_steady (refuse_keeps _)
  · exact s.handle_steady k

theorem State.transact_steady (s : State) (n d : Bool) {h : Handler} (k : h.Keeps) : Steady s (s.transact n d h) :=
  .ite s.shiftBusy_steady ((s.readied_steady d).trans (State.judge_steady _ n k))

/-- A handler that answers a good state from a good one. -/
def Handler.KeepsGood (h : Handler) : Prop := ∀ s, s.Good → (h s).1.Good

theorem Handler.Keeps.good {h : Handler} (k : h.Keeps) : h.KeepsGood := fun s g => (k s).good g

theorem State.handle_good (s : State) {h : Handler} (k : h.KeepsGood) (g : s.Good) : (s.handle h).Good := by
  have := k s g
  unfold State.handle
  split
  next q => rw [q] at this; exact (State.setAnswer_steady ..).good this
  next q => rw [q] at this; exact this

theorem State.transact_good (s : State) (n d : Bool) {h : Handler} (k : h.KeepsGood) (g : s.Good) :
    (s.transact n d h).Good := by
  unfold State.transact State.judge
  split
  · exact s.shiftBusy_steady.good g
  · have e := (s.readied_steady d).good g
    split
    · exact State.handle_good _ (refuse_keeps _).good e
    · exact State.handle_good _ k e

-- The reads

theorem State.clearRead_steady (s : State) : Steady s s.clearRead :=
  ⟨rfl, rfl, rfl, rfl, rfl, rfl, rfl, id, id, fun h k => by
    have := h k
    simp only [State.clearRead, Fin.getElem_fin, Vector.getElem_map]
    split
    · simp
    · exact this, id, id⟩

theorem noticesRequest_keeps : noticesRequest.Keeps := State.clearRead_steady

theorem mapRequest_keeps (first count : Nat) : (mapRequest first count).Keeps := fun s => by
  unfold mapRequest; split <;> exact .refl s

-- The session

theorem closeRequest_keeps : closeRequest.Keeps := fun s => by
  unfold closeRequest
  split
  · exact .refl s
  · exact (s.beginClose_steady _).trans (State.testDoze_steady _)
  · exact .refl s
  · exact .refl s

theorem addVoucher_length (l : List Voucher) (v : Voucher) (h : l.length ≤ Config.historyPlaces) :
    (addVoucher l v).length ≤ Config.historyPlaces := by
  have e : ((if l.length < Config.historyPlaces then l else l.drop 1) ++ [v]).length ≤ Config.historyPlaces := by
    rw [List.length_append, List.length_singleton]
    split
    · omega
    · rw [List.length_drop]; simp only [Config.historyPlaces] at *; omega
  exact e

theorem Session.vouched_tidy (n : Session) (h : n.Tidy) : n.vouched.Tidy :=
  ⟨fun _ => ⟨rfl, rfl, rfl, rfl, rfl⟩, nofun, nofun, addVoucher_length _ _ h.2.2.2⟩

theorem voucherRequest_keeps : voucherRequest.Keeps := fun s => by
  unfold voucherRequest
  split
  · exact ((Steady.mapSession s _ fun h => s.session.vouched_tidy h).trans (State.tryStart_steady _)).trans
      (State.testDoze_steady _)
  · exact .refl s

-- The article store

theorem State.endQuery_steady (s : State) (a : Option Article) : Steady s (s.endQuery a) :=
  (s.mapArticle_steady _).trans (State.fullDecision_steady ..)

theorem answerArticle_keeps (code kind : Nat) (record : EntryBytes) (o : Nat) :
    Handler.Keeps (answerArticle code kind record o) := fun s => by
  unfold answerArticle
  split
  · exact .refl s
  · exact .refl s
  · split
    · exact .refl s
    · split
      · exact .refl s
      · split
        · exact s.endQuery_steady none
        · split
          · exact .refl s
          · split
            · exact .refl s
            · exact (Steady.ite (s.mapArticle_steady _) (.refl s)).trans (State.endQuery_steady ..)

theorem revokeRequest_keeps (code : Nat) : (revokeRequest code).Keeps := fun s => by
  unfold revokeRequest
  split
  · exact .refl s
  · dsimp only; exact s.mapArticle_steady _

theorem storeRequest_keeps (address length : Nat) (r : StoreRequest) : (storeRequest address length r).Keeps :=
  fun s => by
  unfold storeRequest
  split
  · dsimp only; exact s.mapArticle_steady _
  · exact .refl s

-- The bins

theorem State.deferHold_steady (s : State) (f : Frame) : Steady s (s.deferHold f) := by
  refine .setQueue s _ fun h => h.map _ ?_ ?_
  · intro g _; split <;> exact ⟨rfl, rfl⟩
  · intro g hg; split <;> exact h.2.2.2 g hg

theorem binRequest_keeps (f : Option Frame) (p : Frame → Bool) : Handler.Keeps (binRequest f p) := fun s => by
  unfold binRequest
  split
  · exact .refl s
  · split
    · exact .refl s
    next f =>
      split
      · exact .refl s
      · have h := s.enqueue_steady f
        split
        next e => rw [e] at h; exact (h.trans (State.withdraw_steady ..)).trans (State.deferHold_steady ..)
        next e => rw [e] at h; exact (h.trans (State.withdraw_steady ..)).trans (State.deferHold_steady ..)
        · exact .refl s
        · exact .refl s

-- Clearing

theorem clearLineDriver_keeps : Handler.Keeps clearLineDriver := fun s => by
  unfold clearLineDriver
  split
  · refine .line s _ id fun h => ⟨Nat.zero_le _, Nat.zero_le _, h.2.2.1, fun _ => Nat.zero_lt_succ 2⟩
  · exact .refl s

theorem clearChannel_keeps (c : Channel) : Handler.Keeps (clearChannel c) := fun s => by
  unfold clearChannel
  split
  · dsimp only; exact s.mapChannel_steady c _
  · exact .refl s

theorem clearRequest_keeps (n : Nat) : (clearRequest n).Keeps := fun s => by
  unfold clearRequest
  split
  · exact .refl s
  · exact clearLineDriver_keeps s
  · exact clearChannel_keeps _ s

theorem State.removeStuck_steady (s : State) : Steady s s.removeStuck :=
  .mapPath s (fun p => { p with
      entry := p.entry.filter fun c => !c.isStuck, transfer := p.transfer.filter fun c => !c.isStuck })
    fun g => ⟨g.1, g.2.1, fun c e => g.2.2 c (Option.filter_eq_some_iff.mp e).1⟩

theorem jamRequest_keeps : jamRequest.Keeps := fun s => by
  unfold jamRequest
  split
  · exact (s.removeStuck_steady.trans (State.tryStart_steady _)).trans (State.testDoze_steady _)
  · exact .refl s

-- Rest levels and resets

theorem Belt.initial_consistent : Belt.initial.Consistent := ⟨by decide, nofun, fun _ => ⟨rfl, rfl⟩⟩

theorem Path.emptied_within (t : Tag) : (Path.emptied t).WithinPlaces :=
  ⟨Nat.zero_le _, Nat.zero_le _, fun _ e => nomatch e⟩

theorem clearedNotices_good : NoticesGood clearedNotices := fun k => by
  simp [clearedNotices]

theorem State.resetDrives_good (s : State) (d : Drives) (g : s.Good) : (s.resetDrives d).Good :=
  (s.resetDrives_steady d).good g

theorem State.enterDeepRest_good (s : State) (g : s.Good) : s.enterDeepRest.Good := by
  refine (State.resetDrives_steady _ _).good ⟨Belt.initial_consistent, .nil, ?_, g.notices, g.session,
    Path.emptied_within _, rfl, g.bounds⟩
  obtain ⟨t, c, -, f⟩ := g.driver
  refine ⟨t, c, Nat.zero_le _, ?_⟩
  show (if s.line.driver = .faulted then DriverState.faulted else .off) ≠ .faulted → _
  split
  · intro h; exact absurd rfl h
  next h => intro _; exact f h

theorem dozeRequest_keeps : dozeRequest.Keeps := fun s => by
  unfold dozeRequest
  split
  · exact s.enterDoze_steady
  · exact .refl s

theorem wakeRequest_keeps : wakeRequest.Keeps := fun s => by
  unfold wakeRequest
  split
  · exact s.returnActive_steady
  · exact (s.exitDeepRest_steady ..).trans (State.testDoze_steady _)
  · exact .refl s

theorem restRequest_keepsGood : restRequest.KeepsGood := fun s g => by
  unfold restRequest
  split
  · exact s.enterDeepRest_good g
  · exact g

theorem startRequest_keepsGood : startRequest.KeepsGood := fun s g => by
  unfold startRequest
  split
  · exact ((State.leaveOffline_steady ..).trans (State.testDoze_steady _)).good
      ⟨g.belt, g.queue, g.driver, g.notices, g.session, g.path, g.endBin, g.bounds⟩
  · exact g

theorem State.restart_good (s : State) (g : s.Good) : s.restart.Good := by
  refine (((State.resetDrives_steady _ _).trans (State.restartSession_steady _)).trans
    ((State.leaveOffline_steady ..).trans (State.testDoze_steady _))).good
    ⟨Belt.initial_consistent, .nil, ?_, clearedNotices_good, g.session, Path.emptied_within _, rfl, g.bounds⟩
  exact ⟨Nat.zero_le _, Nat.zero_le _, Nat.zero_le _, fun _ => Nat.zero_lt_succ 2⟩

theorem State.restartDuringAccess_good (s : State) (g : s.Good) : s.restartDuringAccess.Good := by
  have b := s.shiftBusy_steady.good g
  simp only [State.restartDuringAccess]
  split
  · exact (State.setAnswer_steady ..).good b
  · split
    · exact (Steady.host s.shiftBusy { s.shiftBusy.host with restartPending := true } rfl rfl rfl).good b
    · exact (State.setAnswer_steady ..).good (State.restart_good _ b)

-- What these leave alone

theorem State.enterDeepRest_pending (s : State) : s.enterDeepRest.pending = s.pending := rfl

theorem State.restart_pending (s : State) : s.restart.pending = s.pending :=
  (((State.resetDrives_steady _ _).trans (State.restartSession_steady _)).trans
    ((State.leaveOffline_steady ..).trans (State.testDoze_steady _))).pending

end Machine
end Sys2Proof
end

