-- ==== Sys2Proof/Laws/SteadyBelt.lean ====
section
/-! SUPPORT. What a pitch mark sets going, beside the Belt Tracker itself, keeps what `Steady` keeps. -/
namespace Sys2Proof
namespace Machine

-- Claiming

theorem State.giveUp_steady (s : State) (x : Cleat) : Steady s (s.giveUp x) :=
  ((s.queueFrame_steady _).trans (State.enterGivenUp_steady ..)).trans (State.setRole_steady ..)

theorem State.withdrawClaims_steady (s : State) (c : Cleat) : Steady s (s.withdrawClaims c) :=
  (s.withdraw_steady _).trans (.foldl _ State.dropClaim_steady _ _)

theorem State.choose_steady (s : State) (c : Cleat) (h : Container) : Steady s (s.choose c h) := by
  unfold State.choose
  split
  next b x _ _ =>
    split
    · have e := s.enqueue_steady (.claim x b (s.claimUsed b))
      split
      next q => rw [q] at e; exact e.trans (State.mapHead_steady ..)
      · exact .refl s
    · exact .refl s
  · exact .refl s

theorem State.holdWait_steady (s : State) (l : ClaimLink) (h : Container) : Steady s (s.holdWait l h) := by
  unfold State.holdWait
  split
  · exact .refl s
  · split
    · exact s.mapHead_steady _
    · simp only []
      split
      · exact s.mapHead_steady _
      · split
        · exact (s.mapHead_steady _).trans (State.raise_steady ..)
        · exact .refl s

theorem State.claimingHead_steady (s : State) (c : Cleat) (l : ClaimLink) (h : Container) :
    Steady s (s.claimingHead c l h) := by
  refine (s.holdWait_steady l h).trans ?_
  show Steady _ (match (s.holdWait l h).head with
    | some h' => if (s.holdWait l h).mayChoose l h' then (s.holdWait l h).choose c h' else s.holdWait l h
    | none => s.holdWait l h)
  split
  · exact .ite (State.choose_steady ..) (.refl _)
  · exact .refl _

theorem nextHead_length (l : List Container) : (nextHead l).length = l.length := by cases l <;> rfl

theorem State.fire_steady (s : State) (h : Container) (x : Cleat) : Steady s (s.fire h x) := by
  refine (((s.pulseFlap_steady.trans (.mapPath s.pulseFlap (fun p => { p with
    cleared := false
    transfer := some { h with stage := .transferring, link := .none, holdWait := none,
                              landing := s.host.cfg.commitLead, trust := true }
    hold := nextHead (p.hold.drop 1) }) ?_)).trans (State.setRole_steady _ x .transfer)).trans
    (State.settleHold_steady _)).trans (State.startHandover_steady _)
  intro g
  refine ⟨?_, g.2.1, fun c e w t => ?_⟩
  · have := g.1
    simp only [nextHead_length, List.length_drop]; omega
  · have := g.2.2 c e w t
    simp only [nextHead_length, List.length_drop]; omega

theorem State.miss_steady (s : State) (x : Cleat) : Steady s (s.miss x) :=
  (s.giveUp_steady x).trans (State.mapHead_steady ..)

theorem State.readyHead_steady (s : State) (c : Cleat) (h : Container) : Steady s (s.readyHead c h) := by
  unfold State.readyHead
  split
  · exact .ite (.ite (s.fire_steady ..) (s.miss_steady _)) (s.mapHead_steady _)
  · exact .refl s

theorem State.headWork_steady (s : State) (c : Cleat) (l : ClaimLink) : Steady s (s.headWork c l) := by
  unfold State.headWork
  split
  · exact .ite (s.readyHead_steady ..) (.ite (s.claimingHead_steady ..) (.refl s))
  · exact .refl s

-- The slip

theorem State.listenAfterSlip_steady (s : State) (c : SlipCause) : Steady s (s.listenAfterSlip c) := by
  cases c
  · exact (Steady.member s _).trans (State.queueFrame_steady ..)
  · exact .member s _

theorem State.slipMember_steady (s : State) (c : SlipCause) : Steady s (s.slipMember c) := by
  unfold State.slipMember
  split
  · exact (s.changeMember_steady ..).trans (State.listenAfterSlip_steady ..)
  · exact s.listenAfterSlip_steady c
  · exact .refl s
  · exact .refl s

theorem State.pitchSlip_steady (s : State) (c : SlipCause) (n : Nat) : Steady s (s.pitchSlip c n) :=
  ((((((((Steady.map s freeMap).trans (State.pruneClaims_steady _)).trans (State.withdraw_steady ..)).trans
    (State.markNoRetry_steady ..)).trans (State.slipMember_steady ..)).trans (State.raise_steady ..)).trans
    (State.loseTrust_steady _)).trans (State.mapHead_steady ..)).trans (State.reportBins_steady ..)

-- Clear point, landing eye, gates

theorem State.clearPoint_steady (s : State) (c : Cleat) : Steady s (s.clearPoint c) :=
  (s.changeEntry_steady ..).trans (State.reportBins_steady ..)

theorem State.clearWork_steady (s : State) : Steady s s.clearWork := by
  unfold State.clearWork
  split
  · exact s.clearPoint_steady _
  · exact .refl s

theorem Path.setTransfer_within (p : Path) (c : Option Container) (g : p.WithinPlaces) :
    ({ p with transfer := c } : Path).WithinPlaces := g

theorem State.queueLoad_steady (s : State) (r : Container) : Steady s (s.queueLoad r) := by
  unfold State.queueLoad
  split
  · exact (s.queueFrame_steady _).trans (State.setRole_steady ..)
  · exact .refl s

theorem State.landed_steady (s : State) (r : Container) : Steady s (s.landed r) := by
  exact (((s.credit_steady _ _).trans (State.queueLoad_steady _ r)).trans
    (.mapPath _ (fun p => { p with transfer := none }) fun g => g)).trans (State.raise_steady ..)

theorem State.notLanded_steady (s : State) (r : Container) : Steady s (s.notLanded r) := by
  have h (u : State) : Steady u (match r.cleat with
      | some x => if r.trust then u.giveUp x else u
      | none => u) := by
    split
    · exact .ite (u.giveUp_steady _) (.refl u)
    · exact .refl u
  exact (((Steady.mapPath s (fun p => { p with transfer := some { r with stage := .stuck } }) fun g => g).trans
    (h _)).trans (State.losePending_steady _)).trans (State.raise_steady ..)

theorem State.unexpectedClaim_steady (s : State) (x : Cleat) (b : BinNo) : Steady s (s.unexpectedClaim x b) :=
  .ite (.refl s) (((s.queueFrame_steady _).trans (State.enterGivenUp_steady ..)).trans (State.raise_steady ..))

theorem State.entryCheck_steady (s : State) (item : Bool) : Steady s (s.entryCheck item) := by
  unfold State.entryCheck
  split
  · split
    · split
      · exact (s.queueFrame_steady _).trans (State.raise_steady ..)
      · exact .ite (s.unexpectedClaim_steady ..) (.refl s)
      · exact s.raise_steady _
      all_goals exact .refl s
    · exact .refl s
  · exact .refl s

theorem State.landingWork_steady (s : State) (item : Bool) : Steady s (s.landingWork item) := by
  unfold State.landingWork
  split
  next r _ =>
    have h : Steady s (s.mapPath fun p => { p with transfer := some { r with landing := r.landing - 1 } }) :=
      .mapPath s (fun p => { p with transfer := some { r with landing := r.landing - 1 } }) fun g => g
    split
    · exact .ite (.ite (h.trans (State.landed_steady ..)) (h.trans (State.notLanded_steady ..)))
        (h.trans (State.entryCheck_steady ..))
    · exact s.entryCheck_steady _
  · exact s.entryCheck_steady _

theorem State.releaseGate_steady (s : State) (g : Gate) : Steady s (s.releaseGate g) :=
  (s.mapChannel_steady (.gate g) _).trans (.gates _ _)

theorem State.holdGate_steady (s : State) (g : Gate) (x : Cleat) : Steady s (s.holdGate g x) := by
  have h := (s.mapChannel_steady (.gate g) fun r => if r.standing then r else r.request).trans
    (.gates _ ((s.mapChannel (.gate g) fun r => if r.standing then r else r.request).gates.set g.val
      (some { cleat := x, missed := false }) g.isLt))
  exact .ite h (h.trans (State.missGate_steady ..))

theorem State.checkGate_steady (c : Cleat) (s : State) (g : Gate) : Steady s (State.checkGate c s g) :=
  .ite (s.holdGate_steady ..) (s.releaseGate_steady _)

theorem State.gateWork_steady (s : State) : Steady s s.gateWork := by
  unfold State.gateWork
  split
  · split
    · exact .foldl _ (State.checkGate_steady _) _ _
    · exact .foldl _ State.releaseGate_steady _ _
  · exact .refl s

-- The listening revolution and the whole of a pitch mark

theorem State.joinAtHome_steady (s : State) : Steady s s.joinAtHome :=
  .ite ((Steady.member s _).trans (State.queueFrame_steady ..)) (.refl s)

theorem State.countListening_steady (s : State) : Steady s s.countListening := by
  unfold State.countListening
  split
  · exact .ite (.member s _) (s.changeMember_steady ..)
  all_goals exact .refl s

theorem State.claimWork_steady (s : State) (l : ClaimLink) : Steady s (s.claimWork l) := by
  unfold State.claimWork
  split
  · exact (s.withdrawClaims_steady _).trans (State.headWork_steady ..)
  · exact .refl s

theorem State.noteDuty_steady (s : State) : Steady s s.noteDuty := .dutyReports s _

/-- A pitch mark, after the Belt Tracker has been brought up to date. -/
theorem State.pitchWork_steady (s : State) (home : Bool) (u : Belt × Option SlipCause) :
    Steady { s with belt := u.1 } (s.pitchWork home u) := by
  have slip (t : State) : Steady t (match u.2 with
      | some cause => t.pitchSlip cause s.belt.pitchCount
      | none => t) := by
    split
    · exact t.pitchSlip_steady ..
    · exact .refl t
  exact ((((((((slip _).trans (State.noteDuty_steady _)).trans (State.clearWork_steady _)).trans (State.landingWork_steady ..)).trans
    (State.gateWork_steady _)).trans (State.claimWork_steady ..)).trans
    (.ite (State.joinAtHome_steady _) (.refl _))).trans (State.countListening_steady _)).trans
    ((State.tryStart_steady _).trans (State.testDoze_steady _))

theorem State.readBeltEyes_steady (s : State) (l h : Bool) : Steady s (s.readBeltEyes l h) := .eyes s _

end Machine
end Sys2Proof
end

