-- ==== Sys2Proof/Laws/SteadyLine.lean ====
section
/-! SUPPORT. The events of the Station Line, and what a Taken frame sets going, keep what `Steady` keeps. -/
namespace Sys2Proof
namespace Machine

-- Line events

/-- A change of the Line Controller that keeps its queue and what `DriverGood` reads. -/
theorem State.mapLine_steady (s : State) (f : Line → Line) (q : (f s.line).queue = s.line.queue)
    (d : DriverGood s.line → DriverGood (f s.line)) : Steady s (s.mapLine f) :=
  .line s (f s.line) (fun h => q ▸ h) d

/-- The queue as a list of slots and attempts, which is all that `QueueGood` reads. -/
theorem QueueGood.congr {q r : List QueuedFrame} (h : QueueGood q)
    (e : r.map (fun g => (g.frame, g.attempts)) = q.map (fun g => (g.frame, g.attempts))) : QueueGood r := by
  have f := congrArg (List.map Prod.fst) e
  simp only [List.map_map] at f
  have code (l : List QueuedFrame) : l.Pairwise (fun f g => f.frame.kind.code ≤ g.frame.kind.code) ↔
      (l.map fun g => g.frame).Pairwise fun f g => f.kind.code ≤ g.kind.code := by rw [List.pairwise_map]
  have slot (l : List QueuedFrame) : l.Pairwise (fun f g => f.frame.sameSlot g.frame = false) ↔
      (l.map fun g => g.frame).Pairwise fun f g => f.sameSlot g = false := by rw [List.pairwise_map]
  have f' : (r.map fun g => g.frame) = q.map fun g => g.frame := f
  refine ⟨?_, (code r).mpr (f' ▸ (code q).mp h.2.1), (slot r).mpr (f' ▸ (slot q).mp h.2.2.1), ?_⟩
  · have := congrArg List.length e
    simp only [List.length_map] at this
    exact this ▸ h.1
  · intro g hg
    have m : (g.frame, g.attempts) ∈ r.map (fun g => (g.frame, g.attempts)) := List.mem_map_of_mem hg
    rw [e] at m
    obtain ⟨g', hg', e'⟩ := List.mem_map.mp m
    have := h.2.2.2 g' hg'
    rwa [show g'.attempts = g.attempts from congrArg Prod.snd e'] at this

theorem startFirst_frames (p : QueuedFrame → Bool) (q : List QueuedFrame) :
    (startFirst p q).map (fun g => (g.frame, g.attempts)) = q.map (fun g => (g.frame, g.attempts)) := by
  induction q with
  | nil => rfl
  | cons g rest ih => simp only [startFirst]; split <;> simp [ih]

theorem execFrameStart_steady (s : State) : ∀ t, execFrameStart s = .next t → Steady s t := by
  rintro _ ⟨⟩
  exact .ite (.line s _ (fun h => h.congr (startFirst_frames ..)) id) (.refl s)

theorem execArbitrationLost_steady (s : State) : ∀ t, execArbitrationLost s = .next t → Steady s t := by
  rintro _ ⟨⟩
  exact .ite (.ite s.removeInFlight_steady (s.mapInFlight_steady _ (fun _ => ⟨rfl, rfl⟩) (fun _ h => h))) (.refl s)

theorem execArbitrationWon_steady (s : State) : ∀ t, execArbitrationWon s = .next t → Steady s t := by
  rintro _ ⟨⟩
  exact .ite (s.mapInFlight_steady _ (fun g => s.fill_slot g.frame) (fun _ h => h)) (.refl s)

theorem State.missRest_steady (s : State) : Steady s s.missRest := s.mapLine_steady _ rfl id

theorem State.object_steady (s : State) (e : FrameFault) : Steady s (s.object e) :=
  (s.mapLine_steady _ rfl id).trans (State.driveSlot_steady ..)

theorem execFrameError_steady (e : FrameFault) (k n : Option Nibble) (c : LineCurrent) (s : State) :
    ∀ t, execFrameError e k n c s = .next t → Steady s t := by
  rintro _ ⟨⟩
  exact .ite ((((s.measureCurrent_steady c).trans (State.failAttempt_steady _)).trans (State.object_steady ..)).trans
      (State.missRest_steady _))
    (.ite (.ite ((s.raiseLineFault_steady _).trans (State.missRest_steady _))
      (((s.measureCurrent_steady c).trans (State.object_steady ..)).trans (State.missRest_steady _))) (.refl s))

theorem State.judgeCheck_steady (s : State) (k : CheckRead) : Steady s (s.judgeCheck k) := by
  cases k
  · exact (State.driveSlot_steady _ .echo).trans (State.endAlone_steady _)
  · exact (State.driveSlot_steady ..).trans (.ite (State.raiseLineFault_steady ..) (.refl _))

theorem execFrameObjected_steady (echo : Bool) (k : CheckRead) (c : LineCurrent) (s : State) :
    ∀ t, execFrameObjected echo k c s = .next t → Steady s t := by
  rintro _ ⟨⟩
  exact .ite (((s.countEcho_steady echo).trans (State.measureCurrent_steady ..)).trans (State.failAttempt_steady _))
    (.ite ((s.measureCurrent_steady c).trans (State.judgeCheck_steady ..)) (.refl s))

theorem execLineBusy_steady (s : State) : ∀ t, execLineBusy s = .next t → Steady s t := by
  rintro _ ⟨⟩
  exact .ite (s.mapLine_steady _ rfl id) (.refl s)

theorem execLineQuiet_steady (s : State) : ∀ t, execLineQuiet s = .next t → Steady s t := by
  rintro _ ⟨⟩
  exact .ite (s.mapLine_steady _ rfl id) (.refl s)

theorem execLineStuck_steady (s : State) : ∀ t, execLineStuck s = .next t → Steady s t := by
  rintro _ ⟨⟩
  exact .ite ((s.failAttempt_steady.trans (State.mapLine_steady _ _ rfl id)).trans (State.raiseLineFault_steady ..))
    (.refl s)

theorem execStuckCleared_steady (n : Nat) (s : State) : ∀ t, execStuckCleared n s = .next t → Steady s t := by
  rintro _ ⟨⟩
  exact .ite ((s.mapLine_steady _ rfl id).trans (State.raiseLineFault_steady ..)) (.refl s)

theorem execWakePulse_steady (n : Nat) (s : State) : ∀ t, execWakePulse n s = .next t → Steady s t := by
  rintro _ ⟨⟩
  exact .ite (.ite ((s.exitDeepRest_steady ..).trans (State.testDoze_steady _)) (.refl s))
    (.ite (s.mapLine_steady _ rfl id) (.refl s))

theorem execWakePulseSend_steady (s : State) : ∀ t, execWakePulseSend s = .next t → Steady s t := by
  rintro _ ⟨⟩
  exact .ite (s.mapLine_steady _ rfl id) (.refl s)

theorem State.measurePulse_steady (s : State) : Steady s s.measurePulse :=
  (s.measureCurrent_steady _).trans ⟨rfl, rfl, rfl, rfl, rfl, rfl, rfl, id, id, id, id, id⟩

theorem execWakePulseDone_steady (s : State) : ∀ t, execWakePulseDone s = .next t → Steady s t := by
  rintro _ ⟨⟩
  exact .ite (s.measurePulse_steady.trans (State.mapLine_steady _ _ rfl id)) (.refl s)

theorem State.overload_steady (s : State) (r : s.line.driver = .ready) : Steady s s.overload := by
  have d : DriverGood s.line → s.line.overloadCount + 1 ≤ 3 := fun h => h.2.2.2 (by simp [r])
  refine (Steady.trans ?_ (State.raiseLineFault_steady ..))
  have f := s.failAttempt_steady
  refine ⟨f.pending, f.belt, f.cfg, f.configured, f.started, f.digest, f.endBin, f.queue, fun h => ?_, f.notices,
    f.session, f.path⟩
  refine ⟨Nat.zero_le _, d h, (f.driver h).2.2.1, ?_⟩
  show overloadState (s.line.overloadCount + 1) ≠ .faulted → s.line.overloadCount + 1 < 3
  unfold overloadState
  split
  next lt => exact fun _ => lt
  · intro ne; exact absurd rfl ne

theorem execDriverOverload_steady (s : State) : ∀ t, execDriverOverload s = .next t → Steady s t := by
  rintro _ ⟨⟩
  split
  next e => exact s.overload_steady e
  · exact .ite ((s.mapLine_steady _ rfl fun h => ⟨Nat.zero_le _, h.2⟩).trans (State.raiseLineFault_steady ..))
      (.refl s)
  · exact .refl s
  · exact .refl s

theorem execDriverCoolOffEnd_steady (s : State) : ∀ t, execDriverCoolOffEnd s = .next t → Steady s t := by
  rintro _ ⟨⟩
  refine s.mapLine_steady _ rfl fun h => ⟨h.1, h.2.1, h.2.2.1, ?_⟩
  show (if s.line.driver = .coolOff then DriverState.ready else s.line.driver) ≠ .faulted → _
  split
  next e => exact fun _ => h.2.2.2 (by simp [e])
  · exact h.2.2.2

-- Taken frames

theorem State.measureTaken_steady (s : State) (c : LineCurrent) : Steady s (s.measureTaken c) := by
  refine (s.measureCurrent_steady c).trans (.line _ _ id fun h => ?_)
  unfold DriverGood at h ⊢
  dsimp only
  split
  · exact ⟨h.1, Nat.zero_le _, h.2.2.1, fun _ => Nat.zero_lt_succ 2⟩
  · exact h

theorem State.receiveTaken_steady (s : State) (rx : Reception) (own : Bool) : Steady s (s.receiveTaken rx own) :=
  (s.measureTaken_steady _).trans
    (.ite (((State.removeInFlight_steady _).trans (State.driveSlot_steady ..)).trans (State.countEcho_steady ..))
      ((State.driveSlot_steady _ .echo).trans (State.endAlone_steady _)))

theorem State.testDuplicate_steady (s : State) (f : TakenFrame) (own : Bool) : Steady s (s.testDuplicate f own) :=
  .ite ((s.raise_steady _).trans (State.enterConflict_steady ..)) (.refl s)

/-- A frame that no table applies is not tested for the own number (05 R96). -/
theorem State.testDuplicate_of_not_applied (s : State) (f : TakenFrame) (own : Bool) (h : f.applied = false) :
    s.testDuplicate f own = s := by simp [State.testDuplicate, h]

/-- A Taken frame whose application and report keep what `Steady` keeps. -/
theorem State.take_steady (s : State) (rx : Reception) (f : TakenFrame) (apply : State → State)
    (report : Bool → State → State) (a : ∀ s, Steady s (apply s)) (r : ∀ own s, Steady s (report own s)) :
    Steady s (s.take rx f apply report) := by
  unfold State.take
  split
  · have h := s.receiveTaken_steady rx (s.takesAsOwn f)
    dsimp only
    split
    · exact h.trans (State.raise_steady ..)
    · exact (((h.trans (a _)).trans (State.reportBins_steady ..)).trans (r ..)).trans (State.testDuplicate_steady ..)
  · exact .refl s

theorem noReport_steady (own : Bool) (s : State) : Steady s (noReport own s) := .refl s

theorem State.applyClaim_steady (s : State) (n : Nat) (x : Cleat) (b : BinNo) (u : Word16) :
    Steady s (s.applyClaim n x b u) :=
  (s.adopt_steady ..).trans (.ite (State.changeEntry_steady ..) (.refl _))

theorem State.claimVerdict_steady (s : State) (x : Cleat) (h : Container) : Steady s (s.claimVerdict x h) :=
  .ite (.ite ((s.giveUp_steady x).trans (State.mapHead_steady ..)) ((s.setRole_steady ..).trans
    (State.mapHead_steady ..))) (s.mapHead_steady _)

theorem State.reportClaim_steady (x : Cleat) (own : Bool) (s : State) : Steady s (s.reportClaim x own) := by
  unfold State.reportClaim
  split
  · exact .ite (s.claimVerdict_steady ..) (.refl s)
  · exact .refl s

theorem State.applyRelease_steady (s : State) (n : Nat) (x : Cleat) : Steady s (s.applyRelease n x) :=
  .ite (s.changeEntry_steady ..) (.refl s)

theorem State.misrouteLoad_steady (s : State) (x : Cleat) (b : BinNo) : Steady s (s.misrouteLoad x b) :=
  .ite (s.queueFrame_steady _) (.refl s)

theorem State.applyLoad_steady (s : State) (n : Nat) (x : Cleat) (b : BinNo) (m : Material) (u : Word16) :
    Steady s (s.applyLoad n x b m u) :=
  (((s.adopt_steady ..).trans (.ite (State.changeEntry_steady ..) (.refl _))).trans
    (.ite (State.raise_steady ..) (.refl _))).trans (State.misrouteLoad_steady ..)

theorem State.loseHeld_steady (s : State) (x : Cleat) : Steady s (s.loseHeld x) := s.mapHead_steady _

theorem State.applyStray_steady (s : State) (x : Cleat) : Steady s (s.applyStray x) := by
  have h : Steady s (if (s.entryAt x).strays then s.changeEntry x .foreign else s) :=
    .ite (s.changeEntry_steady ..) (.refl s)
  exact .ite (h.trans (State.loseHeld_steady ..)) h

theorem State.setBinState_steady (s : State) (b : BinNo) (t : BinState) : Steady s (s.setBinState b t) :=
  s.setBin_steady ..

theorem State.applyBinSet_steady (s : State) (n : Nat) (b : BinNo) (u : Word16) : Steady s (s.applyBinSet n b u) :=
  (s.adopt_steady ..).trans (State.setBinState_steady ..)

theorem State.reassertHolds_steady (s : State) : Steady s s.reassertHolds := by
  refine .foldl _ (fun s b => ?_) _ _
  split
  · exact s.queueFrame_steady _
  · exact .refl s

theorem State.foreignCounts_steady (s : State) (n : Nat) (d : Word16) : Steady s (s.foreignCounts n d) :=
  (s.raise_steady _).trans (.ite (State.enterConflict_steady ..) (.refl _))

theorem State.applyCounts_steady (s : State) (n : Nat) (d : Word16) (u : Vector Word16 8) :
    Steady s (s.applyCounts n d u) :=
  .ite (.foldl _ (fun s _ => s.adopt_steady ..) _ _) (s.foreignCounts_steady ..)

theorem State.reportCounts_steady (d : Word16) (own : Bool) (s : State) : Steady s (s.reportCounts d own) :=
  .ite s.reassertHolds_steady (.ite (s.withdraw_steady _) (.refl s))

theorem State.answerJoin_steady (s : State) (d : Word16) : Steady s (s.answerJoin d) :=
  .ite (s.queueFrame_steady _) s.reassertHolds_steady

theorem State.foreignJoin_steady (s : State) (n : Nat) (d : Word16) : Steady s (s.foreignJoin n d) :=
  (Steady.ite (s.raise_steady _) (.refl s)).trans
    (.ite (.ite (State.answerJoin_steady ..) (.refl _)) (State.raise_steady ..))

theorem State.reportJoin_steady (n : Nat) (d : Word16) (own : Bool) (s : State) :
    Steady s (s.reportJoin n d own) :=
  .ite (.ite (.member s _) (.refl s)) (s.foreignJoin_steady ..)

end Machine
end Sys2Proof
end

