-- ==== Sys2Proof/Laws/SteadyEvents.lean ====
section
/-! SUPPORT. The events of the eyes, the Scan Unit, the code reader, the Article Unit, the drives and the timers keep what
`Steady` keeps, but for a RESTART that waited for a STORE WRITE, which keeps the state good. -/
namespace Sys2Proof
namespace Machine

-- The eyes

theorem State.apertureSeen_steady (s : State) : Steady s s.apertureSeen := by
  unfold State.apertureSeen
  split
  · exact (s.exitDeepRest_steady ..).trans (State.testDoze_steady _)
  · exact s.returnActive_steady
  · exact (s.testOffered_steady.trans (State.tryStart_steady _)).trans (State.testDoze_steady _)

theorem State.reportExhausted_steady (s : State) : Steady s s.reportExhausted := .ite (s.raise_steady _) (.refl s)

theorem execApertureBlocked_steady (s : State) : ∀ t, execApertureBlocked s = .next t → Steady s t := by
  rintro _ ⟨⟩
  exact .ite (.refl s) ((((Steady.eyes s _).trans (State.apertureEvent_steady _)).trans
    (State.reportExhausted_steady _)).trans (State.apertureSeen_steady _))

theorem State.takeBack_steady (s : State) : Steady s s.takeBack := by
  unfold State.takeBack
  split
  · exact .ite (s.returnContainer_steady _) (.refl s)
  · exact .refl s

theorem execApertureClear_steady (s : State) : ∀ t, execApertureClear s = .next t → Steady s t := by
  rintro _ ⟨⟩
  exact .ite ((((Steady.eyes s _).trans (State.apertureEvent_steady _)).trans (State.takeBack_steady _)).trans
    (State.testDoze_steady _)) (.refl s)

theorem State.mapScan_steady (s : State) (f : ScanUnit → ScanUnit) : Steady s (s.mapScan f) := .scan s _

theorem State.filterBlocked_steady (s : State) : Steady s s.filterBlocked :=
  .ite ((s.mapScan_steady _).trans (State.trigger_steady _))
    (.ite (.refl s) ((s.mapScan_steady _).trans (State.scanEyeSeen_steady _)))

theorem execScanEyeBlocked_steady (s : State) : ∀ t, execScanEyeBlocked s = .next t → Steady s t := by
  rintro _ ⟨⟩
  exact .ite (.refl s) (.ite ((Steady.eyes s _).trans (State.filterBlocked_steady _)) (.eyes s _))

theorem execScanEyeCleared_steady (s : State) : ∀ t, execScanEyeCleared s = .next t → Steady s t := by
  rintro _ ⟨⟩
  exact .ite (.refl s) (.ite ((Steady.eyes s _).trans (State.mapScan_steady ..)) (.eyes s _))

theorem State.scanEyeGone_steady (s : State) : Steady s s.scanEyeGone := by
  unfold State.scanEyeGone
  split
  next c e =>
    split
    next => exact s.pullBack_steady c
    next => exact s.pullBack_steady c
    next w =>
      split
      next t => exact s.joinHold_steady c e w t
      · exact .refl s
    next => exact s.testOffered_steady
    all_goals exact .refl s
  · exact .refl s

theorem execScanGapExpired_steady (s : State) : ∀ t, execScanGapExpired s = .next t → Steady s t := by
  rintro _ ⟨⟩
  exact .ite ((((s.mapScan_steady _).trans (State.scanEyeGone_steady _)).trans (State.tryStart_steady _)).trans
    (State.testDoze_steady _)) (.refl s)

theorem execTransferEyeBlocked_steady (s : State) : ∀ t, execTransferEyeBlocked s = .next t → Steady s t := by
  rintro _ ⟨⟩
  exact .ite (.refl s) ((Steady.eyes s _).trans (State.settleHold_steady _))

theorem execTransferEyeClear_steady (s : State) : ∀ t, execTransferEyeClear s = .next t → Steady s t := by
  rintro _ ⟨⟩
  exact .ite (((Steady.eyes s { s.eyes with transfer := false }).trans
    (.mapPath _ (fun p => { p with cleared := true }) fun g => g)).trans (State.settleHold_steady _)) (.refl s)

theorem State.entryTimeout_steady (s : State) (c : Container) : Steady s (s.entryTimeout c) := by
  unfold State.entryTimeout
  split
  · exact .ite (s.jamEntry_steady ..) s.discardEntry_steady
  · exact s.jamEntry_steady ..
  · exact .ite (s.jamEntry_steady ..) (.ite s.testOffered_steady (s.returnContainer_steady _))
  all_goals exact .refl s

theorem State.stopEntryTimer_steady (s : State) : Steady s (s.mapPath fun p => { p with entryTimer := none }) :=
  .mapPath s (fun p => { p with entryTimer := none }) fun g => ⟨g.1, g.2.1, fun _ _ _ t => by simp at t⟩

theorem execEntryTimeExpired_steady (s : State) : ∀ t, execEntryTimeExpired s = .next t → Steady s t := by
  rintro _ ⟨⟩
  have h (u : State) : Steady u (match u.path.entry with
      | some c => u.entryTimeout c
      | none => u) := by
    split
    · exact u.entryTimeout_steady _
    · exact .refl u
  exact .ite (((s.stopEntryTimer_steady.trans (h _)).trans (State.tryStart_steady _)).trans
    (State.testDoze_steady _)) (.refl s)

theorem execReadTimeExpired_steady (s : State) : ∀ t, execReadTimeExpired s = .next t → Steady s t := by
  rintro _ ⟨⟩
  exact .ite (s.closeWindow_steady.trans (State.testClassify_steady _)) (.refl s)

-- The Scan Unit and the code reader

theorem execContainerScanComplete_steady (r : Vector (Vector Sample 6) 4) (s : State) :
    ∀ t, execContainerScanComplete r s = .next t → Steady s t := by
  rintro _ ⟨⟩
  exact .ite (((s.mapScan_steady _).trans (.ite (State.closeWindow_steady _) (.refl _))).trans
    (State.testClassify_steady _)) (.refl s)

theorem execWatchResult_steady (a b : Vector Sample 4) (s : State) :
    ∀ t, execWatchResult a b s = .next t → Steady s t := by
  rintro _ ⟨⟩
  split
  · have h (c : Option SupplyCause) (x y : SupplyCondition) (m n : Nat) (u : State) : Steady u (match c with
        | some cause => u.raise (.supply cause x y m n)
        | none => u) := by
      split
      · exact u.raise_steady _
      · exact .refl u
    exact (((s.mapScan_steady _).trans (State.followCut_steady ..)).trans
      (.ite (State.raise_steady ..) (.refl _))).trans (h ..)
  · exact .refl s

theorem State.handCode_steady (s : State) (c : Container) (e : s.path.entry = some c) (code : Code) :
    Steady s (s.handCode c code) := by
  unfold State.handCode
  split
  · have h : Steady s (s.setEntryRecord { c with code := some code }) := s.setEntryRecord_same c _ e rfl
    exact .ite (h.trans ((State.closeWindow_steady _).trans (State.testClassify_steady _))) h
  · exact .ite (.refl s) (s.setEntryRecord_same c _ e rfl)

theorem State.endMessage_steady (s : State) (m : Message) : Steady s (s.endMessage m) := by
  unfold State.endMessage
  split
  next c e =>
    split
    · split
      · exact s.handCode_steady c e _
      · exact s.raise_steady _
    · exact .refl s
  · exact .refl s

theorem execCodeReaderCharacter_steady (d : Byte) (p q : Bool) (s : State) :
    ∀ t, execCodeReaderCharacter d p q s = .next t → Steady s t := by
  rintro _ ⟨⟩
  have h (m : Option Message) (u : State) : Steady u (match m with
      | some m => u.endMessage m
      | none => u) := by
    split
    · exact u.endMessage_steady _
    · exact .refl u
  have g (a : Assembly) (n : Nat) : Steady s { s with reader := { s.reader with assembly := a }, draws := n } :=
    ⟨rfl, rfl, rfl, rfl, rfl, rfl, rfl, id, id, id, id, id⟩
  exact .ite ((g _ _).trans (h _ _)) (.refl s)

theorem execReaderMarkLevelReached_steady (s : State) :
    ∀ t, execReaderMarkLevelReached s = .next t → Steady s t := by
  rintro _ ⟨⟩
  exact .ite (.reader s _) (.refl s)

-- The Article Unit

theorem State.freePort_steady (s : State) (l : Lookup) : Steady s (s.freePort l) := s.mapArticle_steady _

theorem State.endRevoked_steady (s : State) (w : Walk) : Steady s (s.endRevoked w) :=
  .ite ((s.freePort_steady _).trans (State.resumeLookup_steady _))
    ((s.freePort_steady _).trans (State.mapArticle_steady ..))

theorem State.endFound_steady (s : State) (w : Walk) (a : Article) : Steady s (s.endFound w a) := by
  have h := (s.mapArticle_steady fun u => u.fill a).trans (State.freePort_steady _ .idle)
  exact .ite (h.trans (State.resumeLookup_steady _)) (h.trans (State.fullDecision_steady ..))

theorem State.beginQuery_steady (s : State) (w : Walk) : Steady s (s.beginQuery w) :=
  ((s.freePort_steady _).trans (State.mapArticle_steady ..)).trans (State.raise_steady ..)

theorem State.endAbsent_steady (s : State) (w : Walk) : Steady s (s.endAbsent w) :=
  .ite ((s.freePort_steady _).trans (State.resumeLookup_steady _))
    (.ite (s.beginQuery_steady w) ((s.freePort_steady _).trans (State.fullDecision_steady ..)))

theorem State.walkRead_steady (s : State) (w : Walk) (r : BurstResult) : Steady s (s.walkRead w r) := by
  unfold State.walkRead
  split
  · exact .ite (s.mapArticle_steady _) (.ite (s.endRevoked_steady w) (s.endAbsent_steady w))
  · exact .ite (s.endRevoked_steady w) (s.endFound_steady ..)
  · exact .ite (s.endRevoked_steady w) ((s.raise_steady _).trans (State.endAbsent_steady ..))

theorem execWalkGroupRead_steady (g : GroupBytes) (s : State) :
    ∀ t, execWalkGroupRead g s = .next t → Steady s t := by
  rintro _ ⟨⟩
  split
  · exact .ite (.refl s) (s.walkRead_steady ..)
  · exact .refl s
  · exact .refl s

theorem execQueryTimeExpired_steady (s : State) : ∀ t, execQueryTimeExpired s = .next t → Steady s t := by
  rintro _ ⟨⟩
  split
  · split
    · exact s.endQuery_steady none
    · exact s.mapArticle_steady _
    · exact s.mapArticle_steady _
  · exact .refl s

theorem State.endAccess_steady (s : State) (a : Answer) : Steady s (s.endAccess a) :=
  (s.mapArticle_steady _).trans (State.setAnswer_steady ..)

theorem execStoreReadEnd_steady (d : List Byte) (s : State) : ∀ t, execStoreReadEnd d s = .next t → Steady s t := by
  rintro _ ⟨⟩
  split
  · exact .ite (s.endAccess_steady _) (.refl s)
  · exact .refl s

theorem execWriteTransactionEnd_steady (s : State) :
    ∀ t, execWriteTransactionEnd s = .next t → Steady s t := by
  rintro _ ⟨⟩
  split
  · exact s.mapArticle_steady _
  · exact .refl s

theorem State.endWrite_good (s : State) (a : Answer) (g : s.Good) : (s.endWrite a).Good := by
  unfold State.endWrite
  split
  · exact (State.setAnswer_steady ..).good (s.restart_good g)
  · exact (s.endAccess_steady a).good g

theorem State.endWrite_pending (s : State) (a : Answer) : (s.endWrite a).pending = s.pending := by
  unfold State.endWrite
  split
  · exact s.restart_pending
  · exact (s.endAccess_steady a).pending

theorem execStatusRead_good (b : Byte) (s : State) (g : s.Good) :
    ∀ t, execStatusRead b s = .next t → t.Good ∧ t.pending = s.pending := by
  rintro _ ⟨⟩
  split
  · split
    · exact ⟨g, rfl⟩
    · exact ⟨s.endWrite_good _ g, s.endWrite_pending _⟩
  · exact ⟨g, rfl⟩

theorem execStoreBusyTimeExpired_good (s : State) (g : s.Good) :
    ∀ t, execStoreBusyTimeExpired s = .next t → t.Good ∧ t.pending = s.pending := by
  rintro _ ⟨⟩
  split
  · split
    · exact ⟨State.endWrite_good _ _ ((s.raise_steady _).good g), State.endWrite_pending _ _⟩
    · exact ⟨(s.mapArticle_steady _).good g, rfl⟩
  · exact ⟨g, rfl⟩

-- The drives and the last timers

theorem execGraceTimeExpired_steady (c : Channel) (s : State) :
    ∀ t, execGraceTimeExpired c s = .next t → Steady s t := by
  rintro _ ⟨⟩
  exact .ite (.ite ((s.faultChannel_steady c).trans (State.tellOwners_steady ..)) (s.mapChannel_steady ..)) (.refl s)

theorem execFlapTimeExpired_steady (s : State) : ∀ t, execFlapTimeExpired s = .next t → Steady s t := by
  rintro _ ⟨⟩
  exact .ite ((s.mapChannel_steady .flap _).trans (.drives _ _)) (.refl s)

theorem State.enterStage_steady (s : State) (h : HeatStage) (c : Option ThermalCause) :
    Steady s (s.enterStage h c) := by
  unfold State.enterStage
  split
  · exact (Steady.heat s h).trans (State.raise_steady ..)
  · exact .heat s h

theorem execHeatStageChange_steady (c : HeatCrossing) (s : State) :
    ∀ t, execHeatStageChange c s = .next t → Steady s t := by
  rintro _ ⟨⟩
  split
  · exact (s.enterStage_steady ..).trans (State.followCut_steady ..)
  · exact .refl s

theorem execIdleTimerExpired_steady (s : State) : ∀ t, execIdleTimerExpired s = .next t → Steady s t := by
  rintro _ ⟨⟩
  exact .ite (.ite ((s.beginClose_steady _).trans (State.testDoze_steady _)) (.mapSession s _ fun h => h)) (.refl s)

theorem execDozeTimerExpired_steady (s : State) : ∀ t, execDozeTimerExpired s = .next t → Steady s t := by
  rintro _ ⟨⟩
  exact .ite ((Steady.host s { s.host with dozeTimer := none, offered := true } rfl rfl rfl).trans
    (State.raise_steady ..)) (.refl s)

-- The part's own time

theorem State.advance_steady (s : State) : Steady s s.advance :=
  ⟨rfl, rfl, rfl, rfl, rfl, rfl, rfl, id, id, id, id, fun g => ⟨g.1, g.2.1, fun c e w t => g.2.2 c e w (by
    have t' : (Timer.advance s.path.entryTimer).isSome = true := t
    cases h : s.path.entryTimer with
    | none => rw [h] at t'; exact absurd t' (by simp [Timer.advance])
    | some n => rfl)⟩⟩

theorem State.tick_good (s : State) (g : s.Good) : s.tick.Good := by
  unfold State.tick
  split
  · exact ⟨g.belt, g.queue, g.driver, g.notices, g.session, g.path, g.endBin, g.bounds⟩
  · exact s.advance_steady.good g

end Machine
end Sys2Proof
end

