-- ==== Sys2Proof/Tests/Slice0.lean ====
section
/-! SUPPORT. The author's own tests: the commands that no partner can give, examples of the manual, and for every statement
with hypotheses a state that meets them, clause by clause. -/
namespace Sys2Proof
namespace Tests
open Machine

-- One proof at a time: a proof by the kernel waits for the kernel's check of all before it.
set_option Elab.async false

-- States

/-- The state after a command. -/
def after (i : Instr) (s : State) : State :=
  match exec i s with
  | .next t => t
  | .fault _ | .refused _ => s

/-- A station of number 1, SYNCED with the current cleat 10. -/
def base : State :=
  { State.reset with
    host := { State.reset.host with configured := true, started := true }
    member := .synced
    dutyReports := true
    ownDigest := some 0x1234#16
    belt := { current := some 10#8, pitchCount := 10, homeSeen := true }
    line := { State.reset.line with driver := .ready }
    reader := { run := .running, assembly := .idle } }

/-- An article of bin 1. -/
def article : Article where
  code := 5449000000996#48
  deposit := 25
  material := .pet
  bin := 1
  weightMin := 20
  weightMax := 60
  heightClass := 2
  flags := 0#8

/-- A container of that article in a state of the path. -/
def item (stage : Stage) : Container :=
  { Container.entering 7#8 with
    stage := stage, code := some article.code, article := some article, bin := some 1, value := some 25 }

def withPath (p : Path) : State := { base with path := p }
def withEntry (c : Container) : State := withPath { base.path with entry := some c }
def withHead (c : Container) : State := withPath { base.path with hold := [c] }
def withTransfer (c : Container) : State := withPath { base.path with transfer := some c }
def withLine (l : Line) : State := { base with line := l }
def withQueue (g : QueuedFrame) : State := withLine { base.line with queue := [g] }
def withSession (n : Session) : State := { base with session := n }
def withScan (u : ScanUnit) : State := { base with scan := u }
def withHost (h : HostPort) : State := { base with host := h }
def withArticle (u : ArticleUnit) : State := { base with article := u }
def withEyes (e : Eyes) : State := { base with eyes := e }
def withEntryOf (x : Cleat) (e : Entry) : State := { base with map := base.map.set x.toNat e x.isLt }
def withBin (b : BinNo) (r : BinRecord) : State := { base with bins := base.bins.set b.val r b.isLt }

/-- A frame being sent, with attempts so far. -/
def sent (f : Frame) (attempts : Nat) (phase : SendPhase) : QueuedFrame :=
  { frame := f, attempts := attempts, phase := phase, noRetry := false, behind := false, check := none }

/-- What was read of a Taken frame with both slots driven. -/
def reception : Reception := { echo := true, current := [false, false] }

theorem allWaiting_nil : allWaiting [] := by intro g h; cases h

theorem default_meets_bounds : Configuration.default.MeetsBounds := by
  unfold Configuration.MeetsBounds
  decide +kernel

/-- The default configuration with sort duty. -/
def sorting : Configuration := { Configuration.default with sortDuty := 1 }

theorem sorting_meets_bounds : sorting.MeetsBounds := by
  unfold Configuration.MeetsBounds
  decide +kernel

-- Commands that no partner can give

theorem test_ill_formed_configuration :
    Instr.wellFormed (.setConfiguration { Configuration.default with holdWait := 65536 }) = false := by decide +kernel
theorem test_ill_formed_readMap : Instr.wellFormed (.readMap 256 1) = false := by decide
theorem test_ill_formed_answer :
    Instr.wellFormed (.articleAnswer (2 ^ 48) 0 (Vector.replicate 16 0#8) 0) = false := by decide
theorem test_ill_formed_revoke : Instr.wellFormed (.revokeArticle (2 ^ 48)) = false := by decide
theorem test_ill_formed_storeRead : Instr.wellFormed (.storeRead (2 ^ 24) 1) = false := by decide
theorem test_ill_formed_storeWrite : Instr.wellFormed (.storeWrite (2 ^ 24) []) = false := by decide
theorem test_ill_formed_binSet : Instr.wellFormed (.binSet 1 65536) = false := by decide
theorem test_ill_formed_binHold : Instr.wellFormed (.binHold 256) = false := by decide
theorem test_ill_formed_binOpen : Instr.wellFormed (.binOpen 256) = false := by decide
theorem test_ill_formed_clearDrive : Instr.wellFormed (.clearDrive 256) = false := by decide
theorem test_ill_formed_unusedKind : Instr.wellFormed (.unusedKindTaken reception 2#4 10#4) = false := by decide
theorem test_ill_formed_stuckCleared : Instr.wellFormed (.stuckCleared 200) = false := by decide
theorem test_ill_formed_wakePulse :
    Instr.wellFormed (.wakePulse 39) = false ∧ Instr.wellFormed (.wakePulse 121) = false := by decide
theorem test_ill_formed_storeReadEnd : Instr.wellFormed (.storeReadEnd []) = false := by decide
theorem test_well_formed :
    Instr.wellFormed (.setConfiguration Configuration.default) = true ∧ Instr.wellFormed (.readMap 255 32) = true
      ∧ Instr.wellFormed (.wakePulse 40) = true ∧ Instr.wellFormed (.unusedKindTaken reception 2#4 11#4) = true := by
  decide +kernel

-- Examples of the manual

/-- 02 R33: the check of the bytes of "123456789". -/
theorem test_crc16 :
    crc16 (([0x31, 0x32, 0x33, 0x34, 0x35, 0x36, 0x37, 0x38, 0x39] : List Byte).flatMap fieldBits) = 0x29B1#16 := by
  decide +kernel

/-- 11 R176: the CRC-8 of the same bytes under the polynomial given. -/
theorem test_crc8 : crc8 [0x31, 0x32, 0x33, 0x34, 0x35, 0x36, 0x37, 0x38, 0x39] = 0xF4#8 := by decide +kernel

/-- 02 R32: ten equal bits of a frame (log 59), and five frame bits of the stuff bit's level after it. -/
theorem test_long_runs_are_stuffed :
    stuffFrom true 0 (List.replicate 10 false) =
        List.replicate 5 false ++ [true] ++ List.replicate 5 false ++ [true]
      ∧ stuffFrom true 0 (List.replicate 5 false ++ List.replicate 5 true) =
        List.replicate 5 false ++ [true] ++ List.replicate 4 true ++ [false] ++ [true] := by decide
/-- 02, 2.4: a CLAIM of station 3, sent and read back. -/
theorem test_frame_read_back :
    readFrame reception (stuff ((Frame.claim 200#8 8 0xFFFF#16).stuffedFields 3)) =
      .ok (.claimTaken reception 3#4 200#8 8#4 0xFFFF#16) := by decide +kernel

/-- 11, worked sequence of R180: ClearDistance 230 and GateDistance_8 180. -/
def adjustedExample : Configuration :=
  { Configuration.default with
    clearDistance := 230, commitLead := 8, minLead := 50, maxLead := 110
    gateDistance := (Vector.replicate 8 50).set 7 180 }

theorem test_adjusted_example :
    adjustedExample.adjusted adjustedExample.taken = [(.clearDistance, 230, 96), (.gateDistance 7, 180, 95)]
      ∧ { adjustedExample with clearDistance := 200 }.taken.maxLead = 55 := by decide +kernel

/-- 08, worked example: the places of code 4006381333931 come from 0x03A4, 0xCEEF and 0xADAB. -/
theorem test_places_example :
    let code : Code := 0x03A4CEEFADAB#48
    (codeHash code).toNat = 24800 ∧ primaryGroup 1024 code = 224 ∧ secondaryGroup 1024 code = 799
      ∧ startEntry code = 3 ∧ (cacheSetOf code).val = 32 := by decide +kernel

/-- Four rounds of the scan of 07, 7.2. -/
def bottleRounds : Vector (Vector Sample 6) 4 :=
  #v[#v[6, 178, 209, 641, 699, 95], #v[6, 181, 212, 639, 701, 96], #v[7, 180, 210, 640, 700, 94],
     #v[6, 182, 211, 642, 702, 96]]

theorem test_scan_example :
    buildScan Configuration.default bottleRounds false =
      { averages := [(0, 6), (1, 180), (2, 210), (3, 640), (4, 700), (5, 95)], weight := some 24, bars := some 2
        metal := some false, overrun := false } := by decide +kernel

/-- 07 R127: the table of the supply condition at its bounds. -/
theorem test_supply_table :
    judgeSupply .normal 655 = .normal ∧ judgeSupply .normal 624 = .low ∧ judgeSupply .low 655 = .low
      ∧ judgeSupply .low 656 = .normal ∧ judgeSupply .cutoff 655 = .cutoff ∧ judgeSupply .cutoff 656 = .normal
      ∧ judgeSupply .low 530 = .cutoff ∧ judgeSupply .normal 531 = .low := by decide

/-- 11 R176: the bytes of READ MAP with first cleat 250 and count 10 spell its command; a wrong check is BAD REQUEST. -/
theorem test_transaction_bytes :
    transactionCommand ([5, 0, 2, 250, 10] ++ [crc8 [5, 0, 2, 250, 10]]) = .readMap 250 10
      ∧ transactionCommand ([5, 0, 2, 250, 10] ++ [crc8 [5, 0, 2, 250, 10] + 1]) = .badRequest .check := by
  decide +kernel

theorem witness_StepRunsFrontCommand :
    (withHost { base.host with dozeTimer := some 120000 }).due .dozeTimerExpired ∧ base.pending = [] :=
  ⟨⟨120000, rfl, by decide⟩, rfl⟩
theorem witness_StepRunsFrontCommand_quiet : ∀ i, ¬base.due i := by
  have h : ∀ c : Channel, base.channel c = ChannelRecord.initial := by
    intro c
    cases c with
    | gate g => revert g; decide
    | entry | hold | flap => decide
  intro i due
  cases i <;> first
    | exact due
    | (obtain ⟨n, e, _⟩ := due; rw [h] at e; cases e)
    | (obtain ⟨n, e, _⟩ := due; cases e)
    | cases due
theorem test_idle_steps :
    (withHost { base.host with dozeTimer := some 120000 }).tick.pending = [.dozeTimerExpired]
      ∧ (withHost { base.host with dozeTimer := some 5 }).tick.host.dozeTimer = some 6 := by decide +kernel

/-- A command at the front of the queue is taken; the table spells no command by bits. -/
theorem test_step_front : step { base with pending := [.lineBusy] } = exec .lineBusy base := rfl
theorem test_no_word_spells_a_command : decodeTableWord 16 0 = none ∧ base.withFetchWord 16 0 = base := by
  exact ⟨rfl, rfl⟩

/-- 03 R49: the first cleat from MinLead 8 on. -/
theorem test_first_choice : base.chosenCleat 10#8 = some 18#8 := by decide +kernel

/-- 06 R103: a container at the aperture of a ready station starts a record. -/
theorem test_container_taken :
    (after .apertureBlocked base).path.entry = some (Container.entering 0#8)
      ∧ (after .apertureBlocked base).path.tagCounter = 1#8
      ∧ ((after .apertureBlocked base).channel .entry).state = .running := by decide +kernel

/-- 10 R170, R171: a session with one credit is CLOSED with the station's number. -/
theorem test_session_closed :
    (after .closeSession (withSession { base.session with
      state := .opened, total := 25, count := 1, lines := [⟨article.code, 25, 1⟩], sequence := 6 })).session.number =
      some 1048582 := by decide +kernel

-- The hypotheses of the statements, met

theorem witness_StepKeepsGood_queue : QueueGood base.line.queue ∧ base.belt.Consistent :=
  ⟨⟨by decide, List.Pairwise.nil, List.Pairwise.nil, fun _ h => by cases h⟩,
   by decide, fun _ => rfl, fun h => by cases h⟩

theorem witness_StepKeepsGood_rest :
    DriverGood base.line ∧ NoticesGood base.notices ∧ base.session.Tidy ∧ base.path.WithinPlaces ∧ base.EndBinFixed :=
  ⟨⟨by decide, by decide, by decide, fun _ => by decide⟩,
   by unfold NoticesGood; decide +kernel,
   ⟨fun _ => by decide, fun h => (by cases h), fun h => (by cases h), by decide⟩,
   ⟨by decide, by decide, fun _ h => by cases h⟩,
   by unfold State.EndBinFixed; decide +kernel⟩

-- The belt

/-- A station whose belt has seen home `n` pitch marks ago. -/
def atPitch (n : Nat) : State :=
  { base with belt := { current := some (BitVec.ofNat 8 n), pitchCount := n, homeSeen := true } }

theorem witness_PitchMarkMovesBelt :
    (atPitch 254).online = true ∧ (atPitch 254).belt.pitchCount < 255 ∧ ¬(atPitch 255).belt.pitchCount < 255
      ∧ (withTransfer { item .transferring with landing := 2 }).path.transfer = some { item .transferring with landing := 2 }
      ∧ ({ base with belt := .initial } : State).belt.homeSeen = false ∧ State.reset.member = .offline := by
  decide +kernel
theorem witness_HomeMarkSetsBelt :
    (atPitch 254).belt.homeSeen = true ∧ (atPitch 254).belt.pitchCount < 255 ∧ ¬(atPitch 255).belt.pitchCount < 255
      ∧ (atPitch 255).online = true := by decide +kernel
theorem witness_PitchMarkClearsOneEntry :
    (atPitch 254).belt.current = some 254#8 ∧ (atPitch 254).online = true
      ∧ ({ base with belt := .initial } : State).belt.current = none := by decide +kernel
theorem witness_PitchSlip :
    (atPitch 254).online = true ∧ (atPitch 254).belt.homeSeen = true ∧ ¬(atPitch 255).belt.pitchCount < 255
      ∧ base.line.queue.length < Config.queuePlaces ∧ base.member ≠ .conflict := by decide +kernel

/-- A container about to land on cleat 12. -/
def landing : Container := { item .transferring with landing := 1, cleat := some 12#8, trust := true }

theorem base_noSlip : base.belt.noSlip false ∧ ({ base with belt := .initial } : State).belt.noSlip true ∧ base.belt.steady :=
  ⟨fun _ => by decide, (fun h => by cases h.1), fun _ => by decide⟩
theorem base_brings : base.belt.brings false 11#8 ∧ ({ base with belt := .initial } : State).belt.brings true 0#8 :=
  ⟨⟨base_noSlip.1, rfl, 10#8, rfl, rfl⟩, base_noSlip.2.1, rfl⟩
theorem base_noLanding : base.noLanding ∧ (withTransfer { item .transferring with landing := 2 }).noLanding
    ∧ (withTransfer (item .stuck)).noLanding :=
  ⟨(fun _ h => by cases h), (fun _ h _ => by cases h; decide), fun _ h e => by cases h; cases e⟩
theorem witness_LandedIsCredited :
    (withTransfer landing).online = true ∧ (withTransfer landing).belt = base.belt
      ∧ ({ withTransfer landing with path := { (withTransfer landing).path with hold := [item .claiming] } } :
          State).path.transfer = some landing ∧ landing.stage = .transferring ∧ landing.landing = 1
      ∧ landing.cleat = some 12#8 ∧ landing.article = some article ∧ landing.trust = true
      ∧ (withLine { base.line with queue := List.replicate 8 (sent (.release 5) 0 .waiting) }).line.queue.length = 8 := by
  decide +kernel
theorem test_landed_unannounced :
    let full : State := { withTransfer landing with
      line := { base.line with queue := List.replicate 8 (sent (.release 5) 0 .waiting) } }
    (after (.pitchMark true) full).noticeOf .containerDone =
        some (.containerDone 7#8 (.landed (some article.code) 25 1 (some 12#8) true))
      ∧ (after (.pitchMark true) (withTransfer landing)).noticeOf .containerDone =
        some (.containerDone 7#8 (.landed (some article.code) 25 1 (some 12#8) false)) := by decide +kernel
theorem witness_LandedIsCredited_session :
    (withSession { base.session with state := .opened, pending := 1 }).session.state = .opened
      ∧ (withSession { base.session with state := .closing, pending := 1, reason := some .customer }).session.pending = 1 :=
  ⟨rfl, rfl⟩
/-- 03 R47: a container not landed has its cleat given up, unless the list is full. -/
theorem test_given_up :
    let s (givenUp : List Cleat) : State :=
      { withTransfer landing with
        map := [11#8, 20#8, 21#8].foldl (fun m x => m.set x.toNat (.claimed 1 1) x.isLt) base.map
        path := { (withTransfer landing).path with transfer := some { landing with cleat := some 11#8 }, givenUp := givenUp } }
    (after (.pitchMark false) (s [20#8])).path.givenUp = [20#8, 11#8]
      ∧ (after (.pitchMark false) (s [20#8, 21#8])).path.givenUp = [20#8, 21#8] := by decide +kernel
theorem witness_NotLandedIsStuck :
    ({ withTransfer landing with session := { base.session with state := .opened, pending := 1 } } : State).session.state
        = .opened
      ∧ (withTransfer landing).line.queue.length < Config.queuePlaces := by decide +kernel
/-- 10 R167, R170: the loss of the last pending container ends the close. -/
theorem test_loss_ends_close :
    let s (pending count : Nat) : State :=
      { withTransfer landing with
        session := { base.session with state := .closing, pending := pending, count := count, reason := some .customer } }
    (after (.pitchMark false) (s 1 0)).session.state = .idle ∧ (after (.pitchMark false) (s 1 2)).session.state = .closed
      ∧ (after (.pitchMark false) (s 2 2)).session = { (s 2 2).session with pending := 1 }
      ∧ (after (.pitchMark false) (s 1 2)).noticeOf .sessionClosed = some (.sessionClosed 1048576 .customer 0 2 0) := by
  decide +kernel
theorem witness_EntryCheck :
    base.member = .synced ∧ base.entryAt 11#8 = .free
      ∧ (withEntryOf 11#8 (.loaded 2 1 .pet)).entryAt 11#8 = .loaded 2 1 .pet
      ∧ (withEntryOf 11#8 (.claimed 1 1)).entryAt 11#8 = .claimed base.station 1
      ∧ (withEntryOf 11#8 (.claimed 1 1)).hasRole 11#8 .givenUp = false := by decide +kernel
/-- The last place of the queue for a STRAY with a missed gate in the same mark, and for a RELEASE, with the last place of the
given-up list, with a head that misses (log 43). -/
theorem witness_EntryCheck_lastPlace :
    let queue (n : Nat) : Line := { base.line with queue := List.replicate n (sent (.release 5) 0 .waiting) }
    let stray : State := { (withEntryOf 172#8 (.loaded 2 1 .pet)).mapChannel (.gate 0) fun r => { r with state := .faulted } with
      host := { base.host with cfg := sorting }, line := queue 5 }
    let release : State := { withEntryOf 11#8 (.claimed 1 1) with
      line := queue 7, path := { base.path with hold := [{ item .ready with cleat := some 14#8, link := .held }] } }
    stray.line.queue.length < Config.queuePlacesOther ∧ release.line.queue.length < Config.queuePlaces
      ∧ (after (.pitchMark true) stray).line.queue = stray.line.queue ++ [sent (.stray 11) 0 .waiting]
      ∧ (after (.pitchMark false) release).line.queue = release.line.queue ++ [sent (.release 11) 0 .waiting] := by
  decide +kernel
theorem witness_GateCheck :
    (withHost { base.host with cfg := sorting }).host.cfg.sortDuty = 1 ∧ base.host.cfg.sortDuty = 0
      ∧ ((withEntryOf 172#8 (.loaded 2 1 .pet)).entryAt (11#8 - BitVec.ofNat 8 95)).loadedFor 1 = true
      ∧ (base.entryAt (11#8 - BitVec.ofNat 8 95)).loadedFor 1 = false
      ∧ ((base.mapChannel (.gate 0) fun r => { r with state := .faulted }).channel (.gate 0)).state = .faulted
      ∧ (withBin 1 { used := some 0, state := .opened, reportedFull := false }).bins[(0 : Gate).succ].state = .opened := by
  decide +kernel

/-- A READY head for cleat 14, which has lead 3 at the next pitch mark. -/
def readyHead : Container := { item .ready with cleat := some 14#8, link := .held, holdWait := none }

theorem witness_ReadyHeadFiresOrMisses :
    (withHead readyHead).path.hold = [readyHead] ∧ (14#8 - 11#8).toNat = base.host.cfg.commitLead
      ∧ ({ withHead readyHead with eyes := { base.eyes with transfer := true } } : State).eyes.transfer = true
      ∧ (withHead readyHead).path.cleared = true ∧ ((withHead readyHead).channel .flap).state = .off
      ∧ (withHead readyHead).eyes.transfer = false
      ∧ ({ withTransfer (item .stuck) with path := { (withTransfer (item .stuck)).path with hold := [readyHead] } } :
          State).path.transfer.isSome = true := by decide +kernel
theorem witness_ChosenCleatIsTheFirst :
    base.chosenCleat 10#8 = some 18#8
      ∧ ({ base with map := Vector.replicate 256 .foreign } : State).chosenCleat 10#8 = none
      ∧ (withHead (item .claiming)).member = .synced ∧ (withHead (item .claiming)).path.hold = [item .claiming]
      ∧ (item .claiming).bin = some 1 ∧ (item .claiming).link = .none ∧ base.line.condition ≠ .stuck
      ∧ base.path.transfer = none ∧ base.host.cfg.sortDuty = 0 ∧ base.belt.current = some 10#8
      ∧ ((item .claiming).holdWait.getD 0 < base.host.cfg.holdWait) ∧ ¬256 < base.host.cfg.holdWait
      ∧ (withBin 1 { used := some 999, state := .opened, reportedFull := false }).bins[1].state = .opened
      ∧ 999 + base.claimedCount 1 + 1 ≤ base.capacityOf 1 ∧ base.capacityOf 1 ≤ 1000 + base.claimedCount 1 := by
  decide +kernel
theorem test_claim_queued :
    let s : State := { withHead (item .claiming) with
      bins := (withBin 1 { used := some 0, state := .opened, reportedFull := false }).bins }
    (after (.pitchMark false) s).path.hold = [{ item .claiming with link := .queued, cleat := some 19#8, holdWait := some 0 }]
      ∧ (after (.pitchMark false) (withHead { item .claiming with holdWait := some 256 })).noticeOf .overflowRoute =
        some (.overflowRoute 7#8 1 .unknown) := by decide +kernel
theorem witness_ListeningRevolution :
    ({ base with member := .listening (.counting 255) } : State).member = .listening (.counting 255)
      ∧ base.belt.noSlip false ∧ ({ base.belt with pitchCount := 255 } : Belt).noSlip true :=
  ⟨rfl, fun _ => by decide, fun h => absurd h.2 (by decide)⟩
/-- 05 R89: the home mark of the revolution counts, and it may be the 256th pitch mark. -/
theorem test_home_mark_counts :
    let s (n : Nat) : State :=
      { base with member := .listening (.counting n), belt := { base.belt with pitchCount := 255, current := some 255 } }
    (after (.homeMark false) (s 254)).member = .listening (.counting 255)
      ∧ (after (.homeMark false) (s 255)).member = .synced := by decide +kernel

/-- 01 R20, R21, 05 R89: a gate missed, and a LOAD past its gate, between the 256th pitch mark of the revolution and the next
give no frame; after the next they do. -/
theorem test_duty_reports_from_next_mark :
    let s : State := { withEntryOf 172#8 (.loaded 2 1 .pet) with
      host := { base.host with cfg := sorting }, member := .listening (.counting 255), dutyReports := false,
      map := ((withEntryOf 172#8 (.loaded 2 1 .pet)).map.set 173 (.loaded 2 1 .pet)) }
    let first := after (.pitchMark false) s
    let second := after (.pitchMark false) first
    let missed (u : State) := (after (.heatStageChange .above160) u).line.queue
    let loaded (u : State) := (after (.loadTaken reception 2#4 172#8 1#4 1#4 5#16) u).line.queue
    first.member = .synced ∧ first.dutyReports = false ∧ missed first = [] ∧ loaded first = []
      ∧ second.dutyReports = true ∧ missed second = [sent (.misroute 173 1 0xFFFF) 0 .waiting]
      ∧ loaded second = [sent (.misroute 172 1 4) 0 .waiting] := by decide +kernel

-- The Station Line

theorem witness_FrameStarts :
    (withQueue (sent (.release 5) 0 .waiting)).line.condition = .quiet ∧ base.line.driver = .ready
      ∧ base.line.wake = .none ∧ allWaiting (withQueue (sent (.release 5) 0 .waiting)).line.queue
      ∧ FrameKind.allowedIn .release base.member.state = true
      ∧ FrameKind.allowedIn .release (MemberState.listening) = false
      ∧ ¬allWaiting (withQueue (sent (.release 5) 0 .won)).line.queue :=
  ⟨rfl, rfl, rfl, (by unfold allWaiting; decide), rfl, rfl, by unfold allWaiting; decide⟩
theorem test_open_before_hold :
    let hold : QueuedFrame := { sent (.binHold 8 .staff) 0 .waiting with behind := true }
    (after .frameStart (withLine { base.line with queue := [hold, sent (.binOpen 8) 1 .waiting] })).line.queue =
      [hold, sent (.binOpen 8) 1 .arbitrating] := by decide +kernel
theorem witness_WonFrameIsFilledIn :
    (withQueue (sent (.claim 20 1 0) 0 .arbitrating)).line.queue = [] ++ sent (.claim 20 1 0) 0 .arbitrating :: []
      ∧ allWaiting [] := ⟨rfl, allWaiting_nil⟩
theorem witness_LostAndObjectedFrames :
    (withQueue (sent (.join 1) 3 .won)).line.queue = [] ++ sent (.join 1) 3 .won :: []
      ∧ (sent (.join 1) 3 .won).noRetry = false ∧ 3 ≤ (sent (.join 1) 3 .won).attempts
      ∧ ¬3 ≤ (sent (.join 1) 2 .won).attempts ∧ (sent (.join 1) 0 .arbitrating).phase = .arbitrating
      ∧ base.receiving = true ∧ allWaiting base.line.queue :=
  ⟨rfl, rfl, by decide, by decide, rfl, by decide, allWaiting_nil⟩
theorem test_slots_driven :
    (after (.frameObjected true .good []) base).line.slot = .echo
      ∧ (after (.frameError .checkMismatch none none [true, true]) base).line.slot = .objection
      ∧ (after (.frameError .checkMismatch none none [true, true]) base).line.overloadTimer = 2 := by decide +kernel
/-- 02 R30: a mismatch found in COOL-OFF is not objected to. -/
theorem test_unobjected_mismatch :
    let s : State := withLine { base.line with driver := .coolOff }
    let u := after (.frameObjected false (.bad 4#4 2#4) []) s
    s.receiving = true ∧ u.line.slot = .none
      ∧ u.noticeOf .lineFault = some (.lineFault (.unobjected (some 4#4) (some 2#4))) := by decide +kernel
theorem witness_ErrorIsObjected :
    base.receiving = true ∧ allWaiting base.line.queue ∧ base.line.driver ≠ .coolOff
      ∧ (withLine { base.line with driver := .coolOff }).receiving = true
      ∧ (withLine { base.line with missing := true }).receiving = false
      ∧ (sent (.release 5) 2 .won).phase ≠ .waiting :=
  ⟨by decide, allWaiting_nil, by decide, by decide, by decide, by decide⟩
theorem witness_LineCondition :
    base.online = true ∧ base.line.condition = .quiet ∧ (withLine { base.line with condition := .busy }).online = true
      ∧ (withLine { base.line with condition := .stuck }).line.condition = .stuck
      ∧ (sent (.release 5) 3 .won).phase ≠ .waiting ∧ Configuration.default.deglitch = 0
      ∧ ({ Configuration.default with deglitch := 1 } : Configuration).deglitch = 1 ∧ 8 + 16 / 8 ≤ 16 := by decide
/-- 02 R23: the start bit and a frame's first bits on a wire of 16 samples for each bit, a glitch of one sample at the
front, with the filter on and off. -/
theorem test_deglitch :
    let wire := [false] ++ waveOf 16 [true, false, false, true]
    wireBits { Configuration.default with deglitch := 1 } 16 8 wire = [false, false, true]
      ∧ wireBits Configuration.default 16 8 wire = [true, false, false, true] := by decide +kernel
/-- 02 R23: one sample of drive in two bit times of rest, and one of rest in three bit times of drive, with the filter on. -/
theorem test_deglitched_runs :
    wireRuns { Configuration.default with deglitch := 1 } 16
        (List.replicate 10 true ++ List.replicate 1 false ++ List.replicate (16 * 2 - (10 + 1)) true
          ++ List.replicate 2 false ++ List.replicate 1 true ++ List.replicate (16 * 3 - (2 + 1)) false
          ++ List.replicate (16 * 1 + (16 / 8 - 1)) true) = [(.rest, 2), (.drive, 3), (.rest, 1)] := by decide +kernel
theorem witness_WakePulses :
    (withHost { base.host with rest := .deepRest }).host.rest = .deepRest ∧ base.host.rest ≠ .deepRest
      ∧ (withLine { base.line with wake := .waiting }).line.wake = .waiting ∧ base.member ≠ .conflict
      ∧ (withLine { base.line with wake := .driving }).line.wake = .driving := by decide
theorem witness_DriverOverloads :
    base.line.driver = .ready ∧ (withLine { base.line with overloadCount := 1 }).line.overloadCount < 2
      ∧ (withLine { base.line with overloadCount := 2 }).line.overloadCount = 2
      ∧ (withLine { base.line with driver := .faulted }).online = true
      ∧ (withLine { base.line with driver := .coolOff }).line.driver = .coolOff := by decide
/-- 02 R29, R30: a station whose frame has overloaded receives on, and applies the same frame sent by another. -/
theorem test_overload_receives :
    let t := after .driverOverload (withQueue (sent (.release 20) 0 .arbitrating))
    let u := after (.strayTaken reception 2#4 20#8) t
    t.line.driver = .coolOff ∧ t.receiving = true ∧ t.line.queue = [sent (.release 20) 1 .waiting]
      ∧ u.entryAt 20#8 = .foreign ∧ u.line.slot = .none := by decide +kernel

-- Taken frames

theorem base_hears : base.hears 12#4 ∧ base.hears 2#4 :=
  ⟨⟨by decide, by decide, by decide⟩, by decide, by decide, by decide⟩
theorem witness_ScreenedFrameRaisesMapConflict :
    senderInRange 0#4 = false ∧ senderInRange 13#4 = false ∧ senderInRange 12#4 = true ∧ 8 < (9#4).toNat
      ∧ 5 < (6#4).toNat ∧ base.receiving = true := by decide
/-- 02 R31: two fields of one frame out of range (log 58). -/
theorem test_two_fields_screened :
    (after (.binHoldTaken reception 2#4 9#4 3#4) base).notices[NoticeKind.mapConflict.index] =
      { detail := some (.mapConflict (.screen .binHold 2 .bin)), count := 1 } := by decide +kernel
theorem witness_ClaimTaken :
    base.entryAt 20#8 = .free ∧ (withEntryOf 20#8 .foreign).entryAt 20#8 ≠ .free := by decide +kernel

/-- A head whose CLAIM for cleat 18 has been won. -/
def claiming : Container := { item .claiming with link := .queued, cleat := some 18#8, holdWait := some 0 }

def claimSent : State :=
  { withHead claiming with line := { base.line with queue := [sent (.claim 18 1 5) 0 .won] } }

theorem witness_OwnClaimVerdict :
    claimSent.receiving = true ∧ claimSent.member = .synced ∧ 1 ≤ claimSent.station ∧ claimSent.station ≤ 12
      ∧ claimSent.line.queue = [] ++ sent (.claim 18 1 5) 0 .won :: [] ∧ claimSent.path.hold = [claiming]
      ∧ claiming.link = .queued ∧ claiming.cleat = some 18#8 ∧ claiming.bin = some 1
      ∧ claimSent.belt.current = some 10#8 := by decide +kernel
/-- The waiting CLAIM of a head at the leads where it stays (4) and where it is withdrawn (3, and past MaxLead). -/
theorem witness_ChosenCleatIsTheFirst_queued :
    let s (x : Cleat) : State :=
      { withHead { claiming with cleat := some x } with
        line := { base.line with queue := [sent (.claim x 1 5) 0 .waiting] } }
    (s 15#8).line.queue = [] ++ sent (.claim 15#8 1 5) 0 .waiting :: []
      ∧ base.host.cfg.commitLead < (15#8 - 11#8).toNat ∧ (15#8 - 11#8).toNat ≤ base.host.cfg.maxLead
      ∧ (14#8 - 11#8).toNat ≤ base.host.cfg.commitLead ∧ base.host.cfg.maxLead < (10#8 - 11#8).toNat
      ∧ (after (.pitchMark false) (s 15#8)).path.hold = [{ claiming with cleat := some 15#8, holdWait := some 1 }]
      ∧ (after (.pitchMark false) (s 14#8)).line.queue.all (fun g => g.frame != .claim 14#8 1 5) = true
      ∧ (after (.pitchMark false) (s 10#8)).line.queue.all (fun g => g.frame != .claim 10#8 1 5) = true := by
  decide +kernel
theorem test_own_claim_held :
    (after (.claimTaken reception 1#4 18#8 1#4 5#16) claimSent).entryAt 18#8 = .claimed 1 1
      ∧ (after (.claimTaken reception 1#4 18#8 1#4 5#16) claimSent).path.hold =
        [{ claiming with stage := .ready, link := .held, holdWait := none }] := by decide +kernel
/-- 03 R52, R53: the bounds at which an own CLAIM fits: one free place, and none. -/
theorem witness_OwnClaimVerdict_fits :
    (withBin 1 { used := some 5, state := .opened, reportedFull := false }).bins[1].state = .opened
      ∧ 999 + claimSent.claimedCount 1 + 1 ≤ claimSent.capacityOf 1 ∧ ¬1000 + claimSent.claimedCount 1 + 1 ≤ claimSent.capacityOf 1
      ∧ claimSent.entryAt 18#8 = .free
      ∧ (after (.claimTaken reception 1#4 18#8 1#4 999#16) claimSent).entryAt 18#8 = .claimed 1 1
      ∧ (after (.claimTaken reception 1#4 18#8 1#4 1000#16) claimSent).entryAt 18#8 = .free := by decide +kernel
theorem base_takes (k : FrameKind) (x : Subject) : base.takesFrom reception 2#4 k x (base.lineAfter reception) :=
  ⟨by decide, by decide, Or.inl ⟨by decide, rfl⟩⟩
/-- A frame of this station that is being sent and is taken. -/
theorem own_takes (f : Frame) :
    (withQueue (sent f 0 .won)).takesFrom reception 1#4 f.kind f.subject
      { (withQueue (sent f 0 .won)).lineAfter reception with queue := [] ++ [], slot := .none, aloneCount := 0 } :=
  ⟨rfl, rfl, Or.inr ⟨rfl, [], _, [], rfl, allWaiting_nil, allWaiting_nil, (fun h => by cases h), rfl, rfl, rfl⟩⟩
theorem witness_ReleaseAndStrayTaken :
    ((withEntryOf 20#8 (.claimed 2 1)).entryAt 20#8).claimedBy 2 = true
      ∧ ({ withHead { readyHead with cleat := some 20#8 } with map := (withEntryOf 20#8 (.claimed 1 1)).map } :
          State).ownClaim 20#8 = true := by decide +kernel
theorem witness_LoadTaken :
    base.entryAt 20#8 = .free ∧ (withEntryOf 20#8 (.claimed 2 1)).entryAt 20#8 = .claimed 2 1
      ∧ (withEntryOf 20#8 (.loaded 3 2 .can)).entryAt 20#8 ≠ .claimed 2 1
      ∧ (withHost { base.host with cfg := sorting }).host.cfg.sortDuty = 1 ∧ base.dutyReports = true
      ∧ (withEntryOf 20#8 .foreign).entryAt 20#8 = .foreign
      ∧ 256 - sorting.clearDistance ≤ (170#8 - 10#8).toNat ∧ (170#8 - 10#8).toNat ≤ 256 - sorting.gateDistance[0] := by
  decide +kernel
theorem witness_BinFramesTaken :
    (withBin 1 { used := some 0, state := .opened, reportedFull := false }).bins[1].used = some 0
      ∧ base.full 0 = base.bins[0].reportedFull ∧ (8 : BinNo) ≠ 0 := by decide +kernel
theorem witness_CountsTaken :
    base.ownDigest = some 0x1234#16 ∧ base.ownDigest ≠ some 0x1235#16 ∧ (1#4).toNat = base.station
      ∧ ({ base with member := .listening (.counting 0) } : State).member.state = .listening
      ∧ (withBin 1 { used := none, state := .held .staff, reportedFull := false }).heldBins = [1] := by decide +kernel
theorem test_own_counts_reassert :
    (after (.countsTaken reception 1#4 0x1234#16 (Vector.replicate 8 7#16))
      { withQueue (sent (.counts 0x1234 (Vector.replicate 8 7)) 0 .won) with
        bins := (withBin 1 { used := none, state := .held .staff, reportedFull := false }).bins }).line.queue =
      [sent (.binHold 1 .staff) 0 .waiting] := by decide +kernel

/-- Every bin Known. -/
def known : State :=
  { base with bins := Vector.ofFn fun b => { base.bins[b] with used := if b.val = 0 then none else some 5 } }

theorem witness_JoinsAndDuplicates :
    (∀ i : Fin 8, known.bins[i.succ].used.isSome = true) ∧ (∀ b : BinNo, known.full b = known.bins[b].reportedFull)
      ∧ known.line.queue.length < Config.queuePlacesOther ∧ known.member = .synced
      ∧ base.bins[(0 : Fin 8).succ].used = none ∧ (∀ b : BinNo, base.full b = base.bins[b].reportedFull) := by
  decide +kernel
theorem witness_JoinsAndDuplicates_own :
    ({ withQueue (sent (.join 0x1234) 0 .won) with member := .listening .joinPending } : State).receiving = true
      ∧ base.station = 1 ∧ allWaiting base.line.queue ∧ base.member = .synced
      ∧ ({ base with member := .listening .joinPending } : State).member.state = .listening :=
  ⟨by decide, by decide, allWaiting_nil, rfl, rfl⟩
/-- 04 R77 to R79, 05 R96: a bin frame for bin 0 is not applied, and a LISTENING station does not test its number. -/
theorem test_bin_zero_not_tested :
    let s : State := { base with member := .listening (.counting 3) }
    after (.binSetTaken reception 1#4 0#4 7#16) s = { s with line := s.lineAfter reception }
      ∧ after (.binHoldTaken reception 1#4 0#4 1#4) s = { s with line := s.lineAfter reception }
      ∧ after (.binOpenTaken reception 1#4 0#4) s = { s with line := s.lineAfter reception }
      ∧ (after (.binHoldTaken reception 1#4 1#4 1#4) s).member = .conflict := by decide +kernel
/-- 04 R75: the expected values of CLAIM, LOAD, MISROUTE and COUNTS. -/
theorem test_expected_counts :
    let s := withBin 1 { used := some 5, state := .opened, reportedFull := false }
    let raised (i : Instr) : Option NoticeDetail := (after i s).noticeOf .countMismatch
    raised (.claimTaken reception 2#4 20#8 1#4 5#16) = none
      ∧ raised (.claimTaken reception 2#4 20#8 1#4 6#16) = some (.countMismatch 1 5 5 6 .claim 2)
      ∧ raised (.loadTaken reception 2#4 20#8 1#4 1#4 6#16) = none
      ∧ raised (.loadTaken reception 2#4 20#8 1#4 1#4 5#16) = some (.countMismatch 1 5 6 5 .load 2)
      ∧ raised (.misrouteTaken reception 2#4 20#8 1#4 5#16) = some (.countMismatch 1 5 4 5 .misroute 2)
      ∧ raised (.countsTaken reception 2#4 0x1234#16 (Vector.replicate 8 7#16)) =
          some (.countMismatch 1 5 5 7 .counts 2) := by decide +kernel

-- Host transactions

theorem base_awake : base.awake := ⟨by decide, by decide⟩
theorem witness_MapIsRead :
    base.storeBusy = false ∧ (32 < 33) ∧ (255 : Nat) < 256 ∧ (withHost { base.host with rest := .doze }).storeBusy = false := by
  decide
theorem test_map_read :
    (after (.readMap 250 10) (withEntryOf 3#8 .foreign)).host.answer =
      .done (.map (some 10#8) (([250, 251, 252, 253, 254, 255, 0, 1, 2] : List Cleat).map (fun x => (x, .free))
        ++ [(3#8, .foreign)])) := by decide +kernel
theorem witness_RequestsTurnedAway :
    (withArticle { base.article with access := some { request := .read 0 1, stage := .running } }).storeBusy = true
      ∧ isTransaction .emptyTransaction = true ∧ needsStart .clearJam = true ∧ State.reset.host.started = false
      ∧ ([1, 0, 140, 0] : List Byte).length < 4 + 256 * (0#8).toNat + (140#8).toNat
      ∧ 4 + 256 * (0#8).toNat + (0#8).toNat ≤ ([2, 0, 0, 0] : List Byte).length := by
  decide
theorem test_shifted_bytes :
    shiftedBytes (.refused .busy) [] 7 = [2, 2, 0, 0, crc8 [2, 2, 0, 0], 0, 0]
      ∧ shiftedBytes (.refused .busy) [] 2 = [2, 2] := by decide +kernel
theorem reset_awake : State.reset.awake := ⟨by decide, by decide⟩
theorem witness_ConfigurationIsTaken : State.reset.host.started = false ∧ base.host.started = true := by decide
/-- 11 R180: step 1 with both defaults, step 2 with step 1 again, and step 3 with step 1 again. -/
theorem test_second_pass :
    let settled (commit low high clear : Nat) : Nat × Nat × Nat :=
      let k := { Configuration.default with
        commitLead := commit, minLead := low, maxLead := high, clearDistance := clear }.taken
      (k.commitLead, k.minLead, k.maxLead)
    settled 8 5 48 96 = (3, 8, 48) ∧ settled 8 60 20 96 = (3, 8, 48) ∧ settled 8 56 60 200 = (3, 8, 55)
      ∧ settled 3 8 120 200 = (3, 8, 55) := by decide +kernel
theorem witness_StartListens :
    (withHost { base.host with started := false }).host.configured = true
      ∧ (withHost { base.host with started := false }).pathEmpty = true
      ∧ (withHost { base.host with started := false }).session.state = .idle := by decide
theorem witness_SessionIsClosed :
    base.host.started = true ∧ base.storeBusy = false ∧ base.session.state = .idle
      ∧ (withSession { base.session with state := .opened, count := 1 }).session.pending = 0
      ∧ (withSession { base.session with state := .opened, pending := 1 }).session.state = .opened
      ∧ (withSession { base.session with state := .opened, count := 1, sequence := 1048574 }).session.sequence + 1 =
        Config.lastSequence := by decide

/-- A session CLOSED with a voucher. -/
def closedSession : Session :=
  { base.session with state := .closed, count := 1, reason := some .customer, number := some 1048576, sequence := 1 }

theorem witness_VoucherIsTaken :
    (withSession closedSession).session.state = .closed ∧ closedSession.number = some 1048576
      ∧ closedSession.reason = some .customer ∧ base.session.state ≠ .closed
      ∧ (withSession { base.session with state := .opened, idleTimer := some 60000 }).session.idleTimer.isSome = true := by
  decide

-- Articles

def querying : State := withArticle { base.article with lookup := .querying article.code 7#8, queryTimer := some 0 }

/-- The bytes of the article's record. -/
def articleBytes : EntryBytes :=
  #v[0x04, 0xF4, 0xB1, 0xB5, 0x9D, 0xE4, 0, 25, 1, 1, 0, 20, 0, 60, 2, 0]

theorem witness_QueryIsAnswered :
    querying.article.lookup = .querying article.code 7#8 ∧ querying.host.started = true
      ∧ querying.article.queryTimer.isSome = true ∧ malformedField (Vector.replicate 16 0#8) ≠ none := by decide +kernel
theorem witness_QueryIsAnswered_idle : ∀ q u, base.article.lookup ≠ .querying q u := fun _ _ h => by cases h
theorem witness_FullDecisionOrder :
    (withEntry (item .classifying)).path.entry = some (item .classifying) ∧ (item .classifying).stage = .classifying
      ∧ (base.session.lines.map TallyLine.code).Nodup := ⟨rfl, rfl, List.nodup_nil⟩
theorem witness_DecisionTakesEffect :
    (withEntry (item .classifying)).entryRuns ∧ base.path.hold.length < 4 ∧ base.session.state = .idle
      ∧ base.scan.filtered = false ∧ (withSession { base.session with state := .closing }).session.state = .closing :=
  ⟨⟨by decide, by decide⟩, by decide, rfl, rfl, rfl⟩
theorem test_accepted :
    (after (.readTimeExpired) { withEntry (item .scanning) with
        path := { (withEntry (item .scanning)).path with readTimer := some 1000, window := true }
        scan := { base.scan with record := some { averages := [], weight := none, bars := none, metal := none, overrun := false } }
        article := base.article.fill article
        bins := known.bins }).path.entry = some { item .waitingHold with article := some article } := by decide +kernel

-- The path

theorem witness_ApertureEye :
    base.readyToTake ∧ base.eyes.aperture = false ∧ base.host.rest ≠ .deepRest
      ∧ (withHost { base.host with rest := .deepRest }).host.rest = .deepRest
      ∧ (withSession { base.session with sequence := 1048575 }).session.sequence = Config.lastSequence
      ∧ (withEyes { base.eyes with aperture := true }).eyes.aperture = true :=
  ⟨⟨rfl, rfl, (fun _ h => by cases h), Or.inr ⟨rfl, by decide⟩, rfl, rfl, rfl⟩, by decide, by decide, by decide,
   by decide, by decide⟩
theorem witness_ApertureEye_offered :
    ({ withEntry (item (.returning .offered)) with eyes := { base.eyes with aperture := true } } : State).path.entry =
      some (item (.returning .offered)) := rfl
theorem witness_ScanEye :
    (withEntry (Container.entering 7#8)).eyes.scan = false ∧ base.online = true ∧ base.scan.gap = none
      ∧ base.scan.filtered = false ∧ (withScan { base.scan with gap := some 20, filtered := true }).scan.gap = some 20
      ∧ ({ withEntry (item .scanning) with scan := { base.scan with gap := some 20, filtered := true } } :
          State).path.entry = some (item .scanning)
      ∧ (withEntry (item .scanning)).entryRuns := 
  ⟨by decide, by decide, by decide, by decide, by decide, rfl, by decide, by decide⟩
/-- A walk for the code of a container at the scan position. -/
def sought : State :=
  { withEntry (item .classifying) with
    scan := { base.scan with gap := some 20, filtered := true }
    article := { base.article with
      lookup := .walking { code := article.code, tag := 7#8, phase := .primary, revoked := false, withdrawn := false } } }
theorem witness_ScanEye_filter :
    base.path.entry = none ∧ base.eyes.aperture = false ∧ sought.scan.gap = some 20
      ∧ sought.path.entry = some (item .classifying)
      ∧ (after .scanGapExpired sought).article.lookup = .walking
          { code := article.code, tag := 7#8, phase := .primary, revoked := false, withdrawn := true }
      ∧ (after .scanGapExpired sought).path.entry = none := by decide +kernel
/-- 06 R110: a container backed out is OFFERED at the end of the gap time and at the aperture eye. -/
theorem witness_ScanEye_backing :
    let s (aperture filtered : Bool) : State :=
      { withPath { base.path with entry := some (item (.returning .backing)), entryTimer := some 9 } with
        eyes := { base.eyes with aperture := aperture }
        scan := { base.scan with filtered := filtered, gap := if filtered then some 20 else none } }
    (s true true).scan.gap = some 20 ∧ (s true true).host.rest = .active
      ∧ (after .scanGapExpired (s true true)).path.entry = some (item (.returning .offered))
      ∧ (after .scanGapExpired (s false true)).path.entry = some (item (.returning .backing))
      ∧ (after .apertureBlocked (s false false)).path.entry = some (item (.returning .offered))
      ∧ (after .apertureBlocked (s false true)).path.entry = some (item (.returning .backing)) := by decide +kernel
theorem witness_ScanEye_handover :
    let s (aperture : Bool) : State :=
      { withPath { base.path with entry := some (item .waitingHold), entryTimer := some 0 } with
        eyes := { base.eyes with aperture := aperture }
        scan := { base.scan with filtered := true, gap := some 20 }
        session := { base.session with state := .opened } }
    (s true).member = .synced ∧ (s true).host.rest = .active ∧ (s true).path.transfer = none
      ∧ ((s true).channel .entry).state = .off
      ∧ (after .scanGapExpired (s false)).path.entry = none
      ∧ (after .scanGapExpired (s true)).path.entry = some (.entering base.path.tagCounter) := by decide +kernel
theorem witness_TransferEyeAndPathTimers :
    base.eyes.transfer = false ∧ (withEyes { base.eyes with transfer := true }).eyes.transfer = true
      ∧ (withPath { base.path with entry := some (item .entering), entryTimer := some 3000 }).path.entryTimer = some 3000
      ∧ (withPath { base.path with entry := some (item (.returning .backing)), entryTimer := some 0 }).scan.filtered = false
      ∧ (withPath { base.path with entry := some (item .scanning), readTimer := some 1000 }).path.readTimer = some 1000
      ∧ base.scan.record = none := by decide

-- The Scan Unit and the Article Unit

def scanning : State := withScan { base.scan with program := .scanning }

theorem witness_ScanRecordIsBuilt :
    scanning.scan.program = .scanning ∧ scanning.path.entry = none ∧ scanning.scan.overrunPending = false
      ∧ scanning.article.lookup = .idle
      ∧ ((base.article.fill article).cache[cacheSetOf article.code]).ways[(0 : Fin 4)] = some article
      ∧ ({ withEntry (item .scanning) with scan := scanning.scan } : State).path.entry = some (item .scanning)
      ∧ (item .scanning).code = some article.code ∧ (item .scanning).secondCode = false := by decide +kernel
/-- 06 R105, R107: the window closed before the scan completes, without a code, with a second code, with an overrun. -/
theorem test_first_tests_after_window :
    let s (code : Option Code) (second overrun : Bool) : State :=
      { withEntry { item .scanning with code := code, secondCode := second } with
        scan := { base.scan with program := .scanning, overrunPending := overrun } }
    let reason (u : State) := (after (.containerScanComplete (Vector.replicate 4 (Vector.replicate 6 0#10))) u).path.entry.bind
      Container.reject
    (s none false false).path.window = false ∧ reason (s none false true) = some .noCode
      ∧ reason (s (some 7#48) true true) = some .mixed ∧ reason (s (some 7#48) false true) = some .doubleEntry := by
  decide +kernel
theorem witness_ScanRecordIsBuilt_miss :
    ∀ (w : Fin 4) a, (base.article.cache[cacheSetOf article.code]).ways[w] = some a → a.code ≠ article.code := by
  have h : ∀ w : Fin 4, (base.article.cache[cacheSetOf article.code]).ways[w] = none := by decide +kernel
  intro w a e
  rw [h w] at e
  cases e
theorem witness_SupplyIsJudged :
    base.scan.program = .watching ∧ scanning.scan.program ≠ .watching ∧ base.cutCondition = false
      ∧ base.scan.reference = .good ∧ (withScan { base.scan with supply := .cutoff }).scan.supply = .cutoff := by decide
/-- A station whose GATE1 holds open for cleat 20. -/
def gateOpen : State :=
  { base.mapChannel (.gate 0) ChannelRecord.request with
    gates := base.gates.set 0 (some { cleat := 20#8, missed := false }) }
theorem witness_gatesMissed :
    gateOpen.gates[(0 : Gate)] = some { cleat := 20#8, missed := false }
      ∧ (gateOpen.channel (.gate 0)).state.driven = true
      ∧ (∀ k : Gate, k ≠ 0 → (gateOpen.channel (.gate k)).state.driven = false) ∧ gateOpen.dutyReports = true
      ∧ gateOpen.line.queue.length < Config.queuePlacesOther ∧ gateOpen.cutCondition = false := by decide +kernel
theorem test_cut_gate_is_missed :
    (after (.heatStageChange .above160) gateOpen).line.queue = [sent (.misroute 20 1 0xFFFF) 0 .waiting] := by
  decide +kernel
/-- 09 R162: the channels that a recovery releases. -/
theorem test_supply_recovers :
    let s : State := { (base.mapChannel .hold fun r => { r with state := .cut, standing := true }).mapChannel .flap
      (fun r => { r with state := .cut, coolOff := some 5 }) with scan := { base.scan with supply := .cutoff } }
    let u := after (.watchResult (Vector.replicate 4 700#10) (Vector.replicate 4 511#10)) s
    s.cutCondition = true ∧ s.heat ≠ .hot ∧ u.scan.supply = .normal ∧ (u.channel .hold).state = .running
      ∧ (u.channel .flap).state = .coolOff ∧ (u.channel .entry).state = .off := by decide +kernel
theorem test_supply_cut :
    let t := after (.watchResult (Vector.replicate 4 530) (Vector.replicate 4 480)) base
    t.scan.supply = .cutoff ∧ (t.channel .flap).state = .cut ∧ t.noticeOf .supply =
      some (.supply .cutoff .normal .cutoff 530 480) := by decide +kernel

/-- A message of seven to fourteen digits in hand. -/
def collected (ds : List Byte) : State := { base with reader := { run := .running, assembly := .collecting ds } }

theorem witness_CodesAreRead :
    (collected (List.replicate 16 0x35#8)).reader.assembly = .collecting (List.replicate 16 0x35#8)
      ∧ ¬(List.replicate 16 0x35#8).length < 16 ∧ base.reader.run = .running ∧ base.reader.assembly = .idle
      ∧ (List.replicate 14 0x39#8).length ≤ 14 ∧ (List.replicate 8 0x30#8).foldl (fun n d => 10 * n + (d.toNat - 0x30)) 0 = 0
      ∧ State.reset.reader.run ≠ .running := by decide +kernel
theorem test_error_positions :
    let held (n : Nat) : State := collected (List.replicate n 0x35#8)
    (after (.codeReaderCharacter 0x41#8 false true) (held 15)).reader.assembly = .discarding .nonDigit 16
      ∧ (after (.codeReaderCharacter 0x41#8 false true) (held 15)).draws = 0
      ∧ (after (.codeReaderCharacter 0x41#8 false true) (held 16)).draws = 1
      ∧ (after (.codeReaderCharacter 0x35#8 false true) (held 16)).draws = 1
      ∧ (after (.codeReaderCharacter 0x0D#8 true true) (held 16)).draws = 0
      ∧ (after (.codeReaderCharacter 0x0D#8 false true) (held 16)).draws = 1 := by decide +kernel
/-- 06 R105: a code read after the Container Scan has completed. -/
theorem witness_CodesAreRead_afterScan :
    let r : ScanRecord := { averages := [], weight := none, bars := none, metal := none, overrun := false }
    let ds := List.replicate 8 0x31#8
    let s : State := { collected ds with
      scan := { base.scan with record := some r }
      path := { base.path with entry := some { item .scanning with code := none }, window := true, readTimer := some 5 } }
    s.scan.record = some r ∧ ds.foldl (fun n d => 10 * n + (d.toNat - 0x30)) 0 = 11111111
      ∧ (after (.codeReaderCharacter 0x0D#8 true true) s).path = { s.path with
          entry := some { item .scanning with code := some 11111111#48, stage := .classifying }
          window := false, readTimer := none } := by decide +kernel
theorem witness_CodesAreRead_characters :
    goodCharacter 0x0D#8 true true ∧ goodCharacter 0x35#8 false true ∧ ¬goodCharacter 0x35#8 true true
      ∧ ¬goodCharacter 0x35#8 false false :=
  ⟨⟨rfl, by decide⟩, ⟨rfl, by decide⟩, (fun h => absurd h.2 (by decide)), fun h => absurd h.1 (by decide)⟩

/-- 07 R130: at 19200 samples a second, a receiver that begins to run, the character "4" and one without its stop bit. -/
theorem test_reader_input :
    readerCommands Configuration.default 19200
        (List.replicate 20 true ++ (characterBits 0x34#8 true true ++ characterBits 0x30#8 false false).flatMap
          (List.replicate 2) ++ [false, true]) =
      [.readerMarkLevelReached, .codeReaderCharacter 0x34#8 true true, .codeReaderCharacter 0x30#8 false false] := by
  decide +kernel

def walk : Walk := { code := article.code, tag := 7#8, phase := .primary, revoked := false, withdrawn := false }
def walking (w : Walk) : State := withArticle { base.article with lookup := .walking w }

/-- A group with the article at its start entry and nothing else. -/
def foundGroup : GroupBytes := (Vector.replicate 8 (Vector.replicate 16 0#8)).set (startEntry article.code) articleBytes
  (Nat.mod_lt _ (by decide))

theorem witness_WalkDecides :
    (walking walk).article.lookup = .walking walk ∧ walk.phase ≠ .waitingPort ∧ walk.phase = .primary
      ∧ entryCode foundGroup[(Fin.ofNat 8 (article.code.toNat + 0))] = article.code
      ∧ readBurst foundGroup article.code = .found article
      ∧ (∀ i : Fin 8, entryCode (Vector.replicate 8 (Vector.replicate 16 0xFF#8) : GroupBytes)[i] ≠ 0)
      ∧ (∀ i : Fin 8, entryCode (Vector.replicate 8 (Vector.replicate 16 0xFF#8) : GroupBytes)[i] ≠ article.code)
      ∧ entryCode foundGroup[(Fin.ofNat 8 (article.code.toNat + 1))] = 0
      ∧ base.host.cfg.hostQueries = 0 := by decide +kernel
theorem test_withdrawn_walk_fills :
    let t := after (.walkGroupRead foundGroup) (walking { walk with withdrawn := true })
    (t.article.setFor article.code).ways[0] = some article ∧ t.path = base.path ∧ t.article.lookup = .idle := by
  decide +kernel
theorem test_walk_found :
    (after (.walkGroupRead foundGroup) (walking walk)).article.lookup = .idle
      ∧ ((after (.walkGroupRead foundGroup) (walking walk)).article.setFor article.code).ways[0] = some article := by
  decide +kernel
theorem witness_CacheFillsAndRevokes : (CacheSet.initial).oneWayPerCode ∧ (CacheSet.initial.fill article).oneWayPerCode := by
  refine ⟨?_, ?_⟩
  · intro v w a b h
    have e : ∀ v : Fin 4, CacheSet.initial.ways[v] = none := by decide
    rw [e v] at h
    cases h
  · intro v w a b h1 h2 _
    have e : ∀ v : Fin 4, v ≠ 0 → (CacheSet.initial.fill article).ways[v] = none := by decide
    rcases eq_or_ne v 0 with hv | hv
    · rcases eq_or_ne w 0 with hw | hw
      · rw [hv, hw]
      · rw [e w hw] at h2; cases h2
    · rw [e v hv] at h1; cases h1
theorem witness_StoreIsAccessed :
    (128 * 3) / 128 = (128 * 3 + 128 - 1) / 128 ∧ 127 / 128 ≠ (127 + 2 - 1) / 128
      ∧ (withArticle { base.article with access := some ⟨.read 0 1, .running⟩ }).article.access = some ⟨.read 0 1, .running⟩
      ∧ (withArticle { base.article with access := some ⟨.write 0 [1], .polling⟩, busyTimer := some 50 }).article.busyTimer.isSome
        = true ∧ base.host.restartPending = false ∧ base.article.walkRunning = false := by decide
/-- 08 R140, R142: the walk of the worked example reads from its start entry 3 to entry 7 and then from entry 0. -/
theorem test_port_bytes :
    (walking { walk with code := 0x03A4CEEFADAB#48 }).portTransactions (Vector.replicate 8 (Vector.replicate 16 0#8)) =
        [.read (224 * 128 + 48) 80, .read (224 * 128) 48]
      ∧ (StoreTransaction.read 28720 80).bytesSent 1 = [some 0x0B, some 0, some 0x70, some 0x30, none] := by decide +kernel

-- The bins, rest and RESTART

theorem witness_BinRequestsAreQueued :
    base.member = .synced ∧ State.reset.member ≠ .synced ∧ base.line.queue.length < 6
      ∧ (withQueue (sent (.binHold 8 .staff) 0 .won)).queues .binHold (.bin 8)
      ∧ 6 ≤ (withLine { base.line with queue := List.replicate 6 (sent (.release 5) 0 .waiting) }).line.queue.length
      ∧ ∃ g ∈ (withQueue (sent (.binOpen 8) 0 .won)).line.queue, g.frame = .binOpen 8 ∧ g.phase ≠ .waiting :=
  ⟨by decide, by decide, by decide, ⟨_, List.mem_singleton.mpr rfl, rfl, rfl⟩, by decide,
   _, List.mem_singleton.mpr rfl, rfl, by decide⟩
theorem test_bin_hold_queued :
    (after (.binHold 8) (withQueue (sent (.binOpen 8) 0 .waiting))).line.queue = [sent (.binHold 8 .staff) 0 .waiting]
      ∧ (after (.binHold 8) base).host.answer = .done .none := by decide +kernel
theorem witness_RestLevels :
    (withHost { base.host with offered := true }).host.offered = true ∧ endsDoze .grantDoze = true
      ∧ (withHost { base.host with dozeTimer := some 120000 }).host.dozeTimer.isSome = true
      ∧ (withHost { base.host with rest := .doze }).storeBusy = false
      ∧ base.path.hold = [] ∧ base.member ≠ .conflict := by decide
theorem witness_RestLevels_awake :
    (withHost { base.host with offered := true }).awake ∧ (withHost { base.host with rest := .deepRest }).awake :=
  ⟨⟨by decide, by decide⟩, by decide, by decide⟩

def writing (stage : AccessStage) : State :=
  { base with
    article := { base.article with access := some ⟨.write 0 [1], stage⟩ }
    host := { base.host with restartPending := true } }

theorem witness_RestartEmptiesTheStation :
    base.host.started = true ∧ (writing .running).article.writeRunning = true
      ∧ (writing .waiting).storeBusy = true ∧ (writing .waiting).article.writeRunning = false
      ∧ (writing .polling).host.restartPending = true
      ∧ ((writing .polling).mapArticle fun u => { u with busyTimer := some 50 }).article.busyTimer.isSome = true := by decide
/-- 10 R171, R174: RESTART closes the session with the last voucher number, and with one before it. -/
theorem test_restart_last_number :
    let s (sequence : Nat) : State :=
      withSession { base.session with state := .opened, count := 1, sequence := sequence }
    (after .restart (s 1048574)).noticeOf .vouchersExhausted = some (.vouchersExhausted 2097150)
      ∧ (after .restart (s 1048573)).noticeOf .vouchersExhausted = none
      ∧ Config.lastSequence = 1048575 := by decide +kernel
theorem test_restart :
    (after .restart base).member = .listening .waitingHome ∧ (after .restart base).host.answer = .done .none := by
  decide +kernel
theorem witness_FaultsAndJamsAreCleared :
    (withLine { base.line with driver := .faulted }).line.driver = .faulted
      ∧ (base.mapChannel (.gate 7) fun r => { r with state := .faulted }).channel (.gate 7) =
        { ChannelRecord.initial with state := .faulted }
      ∧ (withTransfer (item .stuck)).hasStuck = true ∧ base.hasStuck = false := by decide +kernel

-- The Drive Unit

theorem witness_ChannelsFollowTheirLoad :
    let limited := base.mapChannel .flap fun r =>
      { r with state := .limiting, grace := some 50, standing := true, retry := 1 }
    (limited.channel .flap).state = .limiting ∧ (limited.channel .flap).retry < 2
      ∧ (base.driveSetting .flap).faultResponse = 1
      ∧ (limited.channel .flap).grace.isSome = true := by decide +kernel
theorem test_third_fault_is_faulted :
    let limited := base.mapChannel .hold fun r =>
      { r with state := .limiting, grace := some 100, standing := true, retry := 2 }
    let t := after (.graceTimeExpired .hold) limited
    (t.channel .hold).state = .faulted ∧ (t.channel .hold).cause = some .retries
      ∧ t.noticeOf .driveFault = some (.driveFault .hold .retries 3 2000 100 none true) := by decide +kernel
theorem witness_ChannelsFollowTheirLoad_gate :
    gateOpen.gates[(0 : Gate)] = some { cleat := 20#8, missed := false } ∧ gateOpen.member = .synced
      ∧ gateOpen.dutyReports = true ∧ gateOpen.line.queue.length < 5
      ∧ ({ gateOpen with dutyReports := false } : State).dutyReports = false := by decide +kernel
theorem witness_ChannelsFollowTheirLoad_timers :
    let cooling := base.mapChannel .entry fun r => { r with state := .coolOff, coolOff := some 250 }
    let clean := base.mapChannel .entry fun r => { r with state := .running, clean := true, cleanRun := some 2000 }
    (cooling.channel .entry).coolOff.isSome = true ∧ (clean.channel .entry).cleanRun.isSome = true
      ∧ ({ base with drives := { base.drives with flapTimer := some 80, flap := base.drives.flap.begin } } :
          State).drives.flapTimer.isSome = true := by decide +kernel
theorem witness_HeatCutsTheDrives :
    base.heat = .normal ∧ base.scan.supply ≠ .cutoff ∧ ({ base with heat := .hot } : State).heat = .hot
      ∧ ({ base with heat := .warm } : State).heat ≠ .hot := by decide
theorem test_hot_cuts :
    ((after (.heatStageChange .above160) base).channel (.gate 0)).state = .cut
      ∧ ((after (.heatStageChange .below140) (after (.heatStageChange .above160) base)).channel (.gate 0)).state = .off := by
  decide +kernel

end Tests
end Sys2Proof
end

section
/-! PROOF. O34, READ MAP (01 R13). The request first ends a Doze (11 R177, R186), which may take the container that waits
at the aperture; that leaves the belt, the map, the bins, the line and the membership as they stand, so the answer is the
map at the moment the request is taken. -/
namespace Sys2Proof
namespace Machine

/-- `t` keeps of `s` what the station shares with the line: the map, the belt, the bins, the Line Controller and the
membership. -/
structure SharedKept (s t : State) : Prop where
  map : t.map = s.map
  belt : t.belt = s.belt
  bins : t.bins = s.bins
  line : t.line = s.line
  member : t.member = s.member

namespace SharedKept

theorem refl (s : State) : SharedKept s s := ⟨rfl, rfl, rfl, rfl, rfl⟩

theorem trans {s t u : State} (a : SharedKept s t) (b : SharedKept t u) : SharedKept s u :=
  ⟨b.map.trans a.map, b.belt.trans a.belt, b.bins.trans a.bins, b.line.trans a.line, b.member.trans a.member⟩

theorem ite {s t u : State} {p : Prop} [Decidable p] (a : SharedKept s t) (b : SharedKept s u) :
    SharedKept s (if p then t else u) := by split <;> assumption

end SharedKept

-- Updates of one block

theorem State.raise_sharedKept (s : State) (d : NoticeDetail) : SharedKept s (s.raise d) := ⟨rfl, rfl, rfl, rfl, rfl⟩

theorem State.mapPath_sharedKept (s : State) (f : Path → Path) : SharedKept s (s.mapPath f) :=
  ⟨rfl, rfl, rfl, rfl, rfl⟩

theorem State.mapSession_sharedKept (s : State) (f : Session → Session) : SharedKept s (s.mapSession f) :=
  ⟨rfl, rfl, rfl, rfl, rfl⟩

theorem State.mapChannel_sharedKept (s : State) (c : Channel) (f : ChannelRecord → ChannelRecord) :
    SharedKept s (s.mapChannel c f) := ⟨rfl, rfl, rfl, rfl, rfl⟩

theorem SharedKept.scan (s : State) (u : ScanUnit) : SharedKept s { s with scan := u } := ⟨rfl, rfl, rfl, rfl, rfl⟩

theorem SharedKept.hostReader (s : State) (h : HostPort) (r : Reader) :
    SharedKept s { s with host := h, reader := r } := ⟨rfl, rfl, rfl, rfl, rfl⟩

theorem SharedKept.host (s : State) (h : HostPort) : SharedKept s { s with host := h } := .hostReader s h s.reader

-- The session

theorem State.assignNumber_sharedKept (s : State) : SharedKept s s.assignNumber :=
  have closed : SharedKept s _ := (s.mapSession_sharedKept _).trans (State.raise_sharedKept ..)
  .ite (closed.trans (State.raise_sharedKept ..)) closed

theorem State.endClose_sharedKept (s : State) : SharedKept s s.endClose :=
  .ite (.ite s.assignNumber_sharedKept (s.mapSession_sharedKept _)) (.refl s)

theorem State.losePending_sharedKept (s : State) : SharedKept s s.losePending :=
  (s.mapSession_sharedKept _).trans (State.endClose_sharedKept _)

theorem State.clearUndecided_sharedKept (s : State) : SharedKept s s.clearUndecided :=
  (s.mapSession_sharedKept _).trans (State.endClose_sharedKept _)

-- Taking a container (06 R103, R104, R114)

theorem State.endReport_sharedKept (s : State) (before : Stage) : SharedKept s (s.endReport before) :=
  .ite s.losePending_sharedKept (.ite s.clearUndecided_sharedKept (.refl s))

theorem State.jamEntry_sharedKept (s : State) (c : Container) (cause : JamCause) (channel : Option Channel) :
    SharedKept s (s.jamEntry c cause channel) :=
  (((s.mapPath_sharedKept _).trans (State.mapChannel_sharedKept ..)).trans (State.mapPath_sharedKept ..)).trans
    ((State.endReport_sharedKept ..).trans (State.raise_sharedKept ..))

theorem State.checkEntryDrive_sharedKept (s : State) : SharedKept s s.checkEntryDrive := by
  unfold State.checkEntryDrive
  refine .ite ?_ (.refl s)
  split
  · exact s.jamEntry_sharedKept ..
  · exact .refl s

theorem State.startMove_sharedKept (s : State) (d : Direction) : SharedKept s (s.startMove d) :=
  ((s.mapChannel_sharedKept ..).trans (State.mapPath_sharedKept ..)).trans (State.checkEntryDrive_sharedKept _)

theorem State.trigger_sharedKept (s : State) : SharedKept s s.trigger := by
  unfold State.trigger
  refine .ite (.scan s _) ?_
  split
  · exact .scan s _
  · exact .refl s

theorem State.requestScan_sharedKept (s : State) : SharedKept s s.requestScan :=
  .ite s.trigger_sharedKept (.ite (.scan s _) (.refl s))

theorem State.enterScanning_sharedKept (s : State) (c : Container) : SharedKept s (s.enterScanning c) :=
  (((s.mapChannel_sharedKept ..).trans (State.mapPath_sharedKept ..)).trans (State.mapPath_sharedKept ..)).trans
    (State.requestScan_sharedKept _)

theorem State.scanEyeSeen_sharedKept (s : State) : SharedKept s s.scanEyeSeen := by
  unfold State.scanEyeSeen
  split
  · exact .ite (s.enterScanning_sharedKept _) (.refl s)
  · exact .refl s

theorem State.tryStart_sharedKept (s : State) : SharedKept s s.tryStart :=
  have begun : SharedKept s _ := ((s.mapPath_sharedKept _).trans (State.mapPath_sharedKept ..)).trans
    ((State.mapSession_sharedKept ..).trans (State.startMove_sharedKept _ .forward))
  .ite (.ite (begun.trans (State.scanEyeSeen_sharedKept _)) begun) (.refl s)

-- The return from Doze (11 R177, R185, R186)

theorem State.testDoze_sharedKept (s : State) : SharedKept s s.testDoze :=
  .ite (.ite (.host s _) (.refl s)) (.host s _)

theorem State.returnActive_sharedKept (s : State) : SharedKept s s.returnActive :=
  ((SharedKept.hostReader s _ _).trans (State.tryStart_sharedKept _)).trans (State.testDoze_sharedKept _)

theorem State.endDoze_sharedKept (s : State) : SharedKept s s.endDoze := .ite s.returnActive_sharedKept (.refl s)

theorem State.readied_sharedKept (s : State) (endsDoze : Bool) : SharedKept s (s.readied endsDoze) :=
  .ite ((SharedKept.host s _).trans (State.endDoze_sharedKept _)) (.host s _)

theorem State.readied_of_not_doze (s : State) (endsDoze : Bool) (h : s.host.rest ≠ .doze) :
    s.readied endsDoze = s.shiftOut := by
  have stays : s.shiftOut.endDoze = s.shiftOut := if_neg h
  rw [State.readied, stays, ite_self]

-- READ MAP (01 R13)

/-- The answer to READ MAP in a state. -/
def State.mapAnswer (s : State) (first count : Nat) : Answer :=
  if first < 256 ∧ 1 ≤ count ∧ count ≤ 32 then .done (.map s.belt.current (s.mapRecords first count))
  else .refused .range

theorem mapRequest_eq (s : State) (first count : Nat) :
    mapRequest first count s = (s, some (s.mapAnswer first count)) := by
  unfold mapRequest State.mapAnswer
  split <;> rfl

/-- The answer rests on the map and the Belt Tracker alone. -/
theorem SharedKept.mapAnswer_eq {s t : State} (k : SharedKept s t) (first count : Nat) :
    t.mapAnswer first count = s.mapAnswer first count := by
  simp only [State.mapAnswer, State.mapRecords, State.entryAt, k.map, k.belt]

/-- READ MAP places the answer of the state in which it is found, whatever the end of a Doze does. -/
theorem exec_readMap (s : State) (first count : Nat) (free : s.storeBusy = false) :
    exec (.readMap first count) s = .next ((s.readied true).setAnswer (s.mapAnswer first count)) := by
  have answer := (s.readied_sharedKept true).mapAnswer_eq first count
  simp [exec, execReadMap, State.transact, free, State.judge, State.handle, mapRequest_eq, answer]

theorem State.mapAnswer_of_bad_count (s : State) (first count : Nat) (h : count = 0 ∨ 32 < count) :
    s.mapAnswer first count = .refused .range := if_neg (by omega)

theorem State.mapAnswer_of_good_count (s : State) (first count : Nat) (hf : first < 256) (h1 : 1 ≤ count)
    (h32 : count ≤ 32) : s.mapAnswer first count = .done (.map s.belt.current (s.mapRecords first count)) :=
  if_pos ⟨hf, h1, h32⟩

theorem State.mapRecords_length (s : State) (first count : Nat) : (s.mapRecords first count).length = count := by
  simp [State.mapRecords]

theorem State.mapRecords_getElem? (s : State) (first : Nat) {count i : Nat} (h : i < count) :
    (s.mapRecords first count)[i]? = some (BitVec.ofNat 8 (first + i), s.entryAt (BitVec.ofNat 8 (first + i))) := by
  simp [State.mapRecords, h]

/-- Settles O34: the answer is that of the state before, since the end of a Doze keeps the map and the belt. -/
theorem mapIsRead : Obligations.MapIsRead := by
  intro s first count free
  have kept := s.readied_sharedKept true
  refine ⟨_, exec_readMap s first count free, s.mapAnswer_of_bad_count first count, fun hf h1 h32 => ?_,
    fun awake => ?_, kept.map, kept.belt, kept.bins, kept.line, kept.member⟩
  · exact ⟨s.mapRecords first count, s.mapAnswer_of_good_count first count hf h1 h32, s.mapRecords_length first count,
      fun i hi => s.mapRecords_getElem? first hi⟩
  · rw [s.readied_of_not_doze true awake]
    rfl

end Machine
end Sys2Proof
end

section
/-! PROOF. O19, the win of a frame (02 R37, R33). The frame being sent is the one the win changes, in its place, and what is
filled in is read from the Bin Table of the state at the win; one equation for each used field says what is read. -/
namespace Sys2Proof
namespace Machine

theorem State.loadUsed_eq (s : State) (b : BinNo) :
    s.loadUsed b = if b = 0 then 0 else usedWord (s.bins[b].used.map fun u => min 65534 (u + 1)) := by
  simp only [State.loadUsed, Fin.val_eq_zero_iff, State.usedOf, Config.usedLimit]

theorem State.claimUsed_eq (s : State) (b : BinNo) :
    s.claimUsed b = if b = 0 then 0 else usedWord s.bins[b].used := by
  simp only [State.claimUsed, Fin.val_eq_zero_iff, State.usedOf]

theorem State.misrouteUsed_eq (s : State) (b : BinNo) :
    s.misrouteUsed b = usedWord (s.bins[b].used.map fun u => u - 1) := rfl

/-- The used counts of bins 1 to 8 as a COUNTS frame carries them (02 R37). -/
def State.countsUsed (s : State) : Vector Word16 8 := Vector.ofFn fun i => usedWord (s.usedOf i.succ)

theorem State.countsUsed_getElem (s : State) (i : Fin 8) : s.countsUsed[i] = usedWord s.bins[i.succ].used := by
  simp [State.countsUsed, State.usedOf]

theorem State.fill_counts (s : State) (d : Word16) (w : Vector Word16 8) :
    s.fill (.counts d w) = .counts d s.countsUsed := rfl

/-- The kinds without a used field that is filled in at the win (02 R37). -/
theorem State.fill_eq_self (s : State) {f : Frame} (h : f.kind = .release ∨ f.kind = .stray ∨ f.kind = .binHold
    ∨ f.kind = .binOpen ∨ f.kind = .binSet ∨ f.kind = .join) : s.fill f = f := by
  cases f with
  | load | claim | misroute | counts => simp [Frame.kind] at h
  | release | stray | binHold | binOpen | binSet | join => rfl

/-- The win changes the frame in its arbitration field, and the others stay as they are. -/
theorem exec_arbitrationWon {s : State} {pre post : List QueuedFrame} {g : QueuedFrame}
    (q : s.line.queue = pre ++ g :: post) (hp : allWaiting pre) (hq : allWaiting post) (hg : g.phase = .arbitrating) :
    exec .arbitrationWon s = .next (s.setQueue (pre ++ s.win g :: post)) := by
  have sent : g.phase ≠ .waiting := by simp [hg]
  have arbitrates : s.arbitrating = true := by simp [State.arbitrating, State.inFlight_split q hp sent, hg]
  simp only [exec, execArbitrationWon, arbitrates, if_true, State.mapInFlight_split q hp hq sent]

/-- Settles O19: the won frame is the queued one, filled in from the Bin Table of the state at the win. -/
theorem wonFrameIsFilledIn : Obligations.WonFrameIsFilledIn := by
  intro s pre post g q hp hq hg
  refine ⟨s.fill g.frame, exec_arbitrationWon q hp hq hg, fun x b m w load => ?_, fun x b w claim => ?_,
    fun x b w misroute => ?_, fun d w counts => ?_, s.fill_eq_self⟩
  · rw [load]
    refine congrArg (Frame.load x b m) ((s.loadUsed_eq b).trans ?_)
    cases s.bins[b].used <;> rfl
  · rw [claim]
    exact congrArg (Frame.claim x b) (s.claimUsed_eq b)
  · rw [misroute]
    refine congrArg (Frame.misroute x b) ((s.misrouteUsed_eq b).trans ?_)
    cases s.bins[b].used <;> rfl
  · rw [counts]
    exact ⟨s.countsUsed, s.fill_counts d w, s.countsUsed_getElem⟩

end Machine
end Sys2Proof
end

section
/-! PROOF. O43, the full decision (06 R107, R108). The checks of the statement form a list, cut as the model cuts its own:
checks 1 to 3 of the record, checks 4 to 8 of the article, check 9 of its bin. Each function of the model that names a
reject reason is shown to name the first of its checks that fails, and the three are put together along the list. -/
namespace Sys2Proof
namespace Machine

-- The first check of a list that fails

/-- The reason is that of the first check of the list that fails; none when every check passes. A check stands with the
condition on which it fails. -/
def FirstFailing : List (RejectReason × Prop) → Option RejectReason → Prop
  | [], reason => reason = none
  | (r, fails) :: rest, reason => (fails → reason = some r) ∧ (¬fails → FirstFailing rest reason)

namespace FirstFailing

theorem ite {r : RejectReason} {p fails : Prop} [Decidable p] {rest : List (RejectReason × Prop)}
    {reason : Option RejectReason} (tests : p ↔ fails) (next : ¬fails → FirstFailing rest reason) :
    FirstFailing ((r, fails) :: rest) (if p then some r else reason) :=
  ⟨fun f => if_pos (tests.mpr f), fun f => by rw [if_neg (mt tests.mp f)]; exact next f⟩

theorem append {xs ys : List (RejectReason × Prop)} {x y : Option RejectReason} (first : FirstFailing xs x)
    (next : x = none → FirstFailing ys y) : FirstFailing (xs ++ ys) (x.or y) := by
  induction xs with
  | nil =>
    obtain rfl : x = none := first
    exact next rfl
  | cons check rest ih =>
    obtain ⟨now, later⟩ := first
    exact ⟨fun f => by rw [now f, Option.some_or], fun f => ih (later f)⟩

theorem eq_some {pre post : List (RejectReason × Prop)} {r : RejectReason} {fails : Prop} {reason : Option RejectReason}
    (first : FirstFailing (pre ++ (r, fails) :: post) reason) (passed : ∀ q ∈ pre, ¬q.2) (f : fails) :
    reason = some r := by
  induction pre with
  | nil =>
    obtain ⟨now, _⟩ := first
    exact now f
  | cons check rest ih =>
    obtain ⟨_, later⟩ := first
    obtain ⟨passedNow, passedLater⟩ := List.forall_mem_cons.mp passed
    exact ih (later passedNow) passedLater

theorem eq_none {checks : List (RejectReason × Prop)} {reason : Option RejectReason}
    (first : FirstFailing checks reason) (passed : ∀ q ∈ checks, ¬q.2) : reason = none := by
  induction checks with
  | nil => exact first
  | cons check rest ih =>
    obtain ⟨_, later⟩ := first
    obtain ⟨passedNow, passedLater⟩ := List.forall_mem_cons.mp passed
    exact ih (later passedNow) passedLater

end FirstFailing

-- The checks of R108, as the statement writes them

/-- Checks 1 to 3, of the record. -/
def State.recordChecks (s : State) (c : Container) : List (RejectReason × Prop) :=
  [(.noCode, c.code = none),
   (.mixed, c.secondCode = true),
   (.doubleEntry, ∃ r, s.scan.record = some r ∧ r.overrun = true)]

/-- A measure of the scan record differs from the article (check 6). -/
def ScanRecord.Differs (r : ScanRecord) (a : Article) : Prop :=
  (∃ w, r.weight = some w ∧ ¬(a.weightMin ≤ w ∧ w ≤ a.weightMax))
    ∨ (∃ n, r.bars = some n ∧ n ≠ a.heightClass) ∨ (∃ m, r.metal = some m ∧ m ≠ a.flags.getLsbD 0)

/-- The prospective total or the prospective count of the code's line would pass its limit (check 8). -/
def State.PastLimit (s : State) (a : Article) (code : Code) : Prop :=
  500000 < s.session.total + (s.accepted.filterMap Container.value).sum + a.deposit
    ∨ 999 < ((s.session.lines.filter fun l => l.code == code).map TallyLine.count).sum
        + (s.accepted.filterMap Container.code).count code + 1

/-- Checks 4 to 8, of the answer of the Article Unit. -/
def State.answerChecks (s : State) (c : Container) (answer : Option Article) : List (RejectReason × Prop) :=
  [(.unknown, answer = none),
   (.noDeposit, ∃ a, answer = some a ∧ a.deposit = 0),
   (.profile, ∃ a r, answer = some a ∧ s.scan.record = some r ∧ r.Differs a),
   (.sessionFull, ∃ code, c.code = some code ∧ code ∉ s.prospectiveCodes ∧ 24 ≤ s.prospectiveCodes.length),
   (.limit, ∃ a code, answer = some a ∧ c.code = some code ∧ s.PastLimit a code)]

/-- The records of the hold queue and the transfer slot for the bin whose cleat is not CLAIMED for it (check 9). -/
def State.uncoveredRecords (s : State) (b : BinNo) : List Container :=
  (s.path.hold ++ s.path.transfer.toList).filter fun h =>
    h.bin == some b && !(h.cleat.any fun x => s.entryAt x == .claimed s.station b)

/-- Check 9, of the article's bin. -/
def State.binChecks (s : State) (answer : Option Article) : List (RejectReason × Prop) :=
  [(.binHeld, ∃ a, answer = some a ∧ a.bin ≠ 0 ∧ s.bins[a.bin].state ≠ .opened),
   (.binUnknown, ∃ a, answer = some a ∧ a.bin ≠ 0 ∧ s.bins[a.bin].used = none),
   (.binFull, ∃ a u, answer = some a ∧ a.bin ≠ 0 ∧ s.bins[a.bin].used = some u ∧
      s.capacityOf a.bin < u + s.claimedCount a.bin + (s.uncoveredRecords a.bin).length + 1)]

-- What the model's tests say

theorem Entry.claimedByFor_eq (station : Nat) (b : BinNo) (e : Entry) :
    e.claimedByFor station b = (e == .claimed station b) := by
  rw [Bool.eq_iff_iff, beq_iff_eq]
  cases e <;> simp [Entry.claimedByFor, Entry.claimedBy, Entry.claimedFor]

theorem State.uncovered_eq (s : State) (b : BinNo) : s.uncovered b = (s.uncoveredRecords b).length := by
  simp only [State.uncovered, State.uncoveredRecords, Entry.claimedByFor_eq, List.countP_eq_length_filter]

theorem ScanRecord.not_fits_iff (r : ScanRecord) (a : Article) : (!r.fits a) = true ↔ r.Differs a := by
  simp only [ScanRecord.fits, Bool.not_eq_true', Bool.and_eq_false_iff, Option.all_eq_false, decide_eq_false_iff_not,
    beq_eq_false_iff_ne, or_assoc]
  rfl

theorem State.not_fits_iff (s : State) (a : Article) :
    (s.scan.record.any fun r => !r.fits a) = true ↔ ∃ r, s.scan.record = some r ∧ r.Differs a := by
  simp only [Option.any_eq_true, ScanRecord.not_fits_iff]

theorem State.sessionFull_iff (s : State) (code : Code) :
    (!s.prospectiveCodes.contains code && decide (Config.tallyLimit ≤ s.prospectiveCodes.length)) = true
      ↔ code ∉ s.prospectiveCodes ∧ 24 ≤ s.prospectiveCodes.length := by
  rw [Bool.and_eq_true, decide_eq_true_iff, Bool.not_eq_true', List.contains_eq_mem, decide_eq_false_iff_not]
  rfl

theorem State.pastLimit_iff (s : State) (a : Article) (code : Code) :
    (decide (Config.totalLimit < s.prospectiveTotal + a.deposit)
      || decide (Config.lineLimit < s.prospectiveCount code + 1)) = true ↔ s.PastLimit a code := by
  rw [Bool.or_eq_true, decide_eq_true_iff, decide_eq_true_iff]
  rfl

theorem State.mem_prospectiveCodes (s : State) (code : Code) :
    code ∈ s.prospectiveCodes ↔ (∃ l ∈ s.session.lines, l.code = code) ∨ ∃ h ∈ s.accepted, h.code = some code := by
  have tallied : code ∈ s.session.lines.map TallyLine.code ↔ ∃ l ∈ s.session.lines, l.code = code := List.mem_map
  have pending : code ∈ s.pendingCodes ↔ ∃ h ∈ s.accepted, h.code = some code := List.mem_filterMap
  rw [← tallied, ← pending, State.prospectiveCodes, List.mem_append, List.mem_dedup, List.mem_filter]
  by_cases onLine : code ∈ s.session.lines.map TallyLine.code
  · simp only [onLine, true_or]
  · simp only [onLine, false_or, List.contains_eq_mem, decide_false, Bool.not_false, and_true]

theorem State.prospectiveCodes_nodup (s : State) (lines : (s.session.lines.map TallyLine.code).Nodup) :
    s.prospectiveCodes.Nodup := by
  refine lines.append (List.nodup_dedup _) fun code tallied pending => ?_
  obtain ⟨_, new⟩ := List.mem_filter.mp (List.mem_dedup.mp pending)
  rw [List.contains_iff_mem.mpr tallied] at new
  cases new

-- Each function of the model that names a reason names the first of its checks

theorem State.firstReject_firstFailing (s : State) (c : Container) :
    FirstFailing (s.recordChecks c) (s.firstReject c) :=
  .ite Option.isNone_iff_eq_none fun _ => .ite .rfl fun _ => .ite (Option.any_eq_true ..) fun _ => rfl

theorem State.binReject_firstFailing (s : State) (a : Article) :
    FirstFailing (s.binChecks (some a)) (s.binReject a.bin) := by
  unfold State.binReject State.binChecks
  by_cases zero : a.bin = 0
  · simp [FirstFailing, zero]
  · rw [if_neg (by rwa [Fin.val_eq_zero_iff])]
    refine .ite (by simp [zero]) fun _ => ?_
    cases used : s.usedOf a.bin with
    | none => exact ⟨fun _ => rfl, fun known => absurd ⟨a, rfl, zero, used⟩ known⟩
    | some u =>
      refine ⟨fun ⟨_, found, _, unknown⟩ => ?_, fun _ => .ite ⟨fun full => ?_, fun ⟨_, _, found, _, known, full⟩ => ?_⟩
        fun _ => rfl⟩
      · cases found
        cases used.symm.trans unknown
      · rw [State.uncovered_eq] at full
        exact ⟨a, u, rfl, zero, used, full⟩
      · cases found
        cases used.symm.trans known
        rwa [State.uncovered_eq]

theorem State.articleReject_firstFailing (s : State) {c : Container} {code : Code} (read : c.code = some code)
    (answer : Option Article) :
    FirstFailing (s.answerChecks c answer ++ s.binChecks answer) (s.articleReject code answer) := by
  cases answer with
  | none => exact ⟨fun _ => rfl, fun found => absurd rfl found⟩
  | some a =>
    refine ⟨nofun, fun _ => ?_⟩
    refine .ite (by simp) fun _ => .ite ((s.not_fits_iff a).trans (by simp)) fun _ => ?_
    refine .ite ((s.sessionFull_iff code).trans (by simp [read])) fun _ => ?_
    exact .ite ((s.pastLimit_iff a code).trans (by simp [read])) fun _ => s.binReject_firstFailing a

-- The decision

/-- The reject reason of the decision, none when the record is accepted. -/
def State.decisionReason (s : State) (c : Container) (answer : Option Article) : Option RejectReason :=
  (s.firstReject c).or (s.articleReject (c.code.getD 0) answer)

theorem State.firstReject_none {s : State} {c : Container} (passed : s.firstReject c = none) :
    ∃ code, c.code = some code := by
  cases read : c.code with
  | none => simp [State.firstReject, read] at passed
  | some code => exact ⟨code, rfl⟩

theorem State.decisionReason_firstFailing (s : State) (c : Container) (answer : Option Article) :
    FirstFailing (s.recordChecks c ++ (s.answerChecks c answer ++ s.binChecks answer)) (s.decisionReason c answer) := by
  refine (s.firstReject_firstFailing c).append fun passed => ?_
  obtain ⟨code, read⟩ := State.firstReject_none passed
  rw [read]
  exact s.articleReject_firstFailing read answer

theorem State.decideFor_reject {s : State} {d : Container} {answer : Option Article} {r : RejectReason}
    (reason : s.decisionReason d answer = some r) : s.decideFor d answer = s.reject d r := by
  simp only [State.decisionReason, Option.or_eq_some_iff] at reason
  unfold State.decideFor
  obtain first | ⟨first, later⟩ := reason
  · rw [first]
  · rw [first, later]

theorem State.decideFor_accept {s : State} {d : Container} {answer : Option Article}
    (reason : s.decisionReason d answer = none) : ∃ a, answer = some a ∧ s.decideFor d answer = s.accept d a := by
  obtain ⟨first, later⟩ := Option.or_eq_none_iff.mp reason
  cases answer with
  | none => cases later
  | some a =>
    refine ⟨a, rfl, ?_⟩
    unfold State.decideFor
    rw [first, later]

theorem State.fullDecision_classifying {s : State} {c : Container} (entry : s.path.entry = some c)
    (stage : c.stage = .classifying) (answer : Option Article) :
    s.fullDecision answer = s.decideFor { c with article := answer } answer := by
  simp only [State.fullDecision, entry, if_pos stage]

/-- Settles O43: the reason the model decides by is that of the first failing check of the statement's list. -/
theorem fullDecisionOrder : Obligations.FullDecisionOrder := by
  intro s c answer entry stage checks
  have decides := State.fullDecision_classifying entry stage answer
  have first : FirstFailing checks (s.decisionReason { c with article := answer } answer) :=
    s.decisionReason_firstFailing { c with article := answer } answer
  refine ⟨fun pre r p post split passed fails => ?_, fun passed => ?_, s.mem_prospectiveCodes, s.prospectiveCodes_nodup⟩
  · rw [split] at first
    rw [decides]
    exact State.decideFor_reject (first.eq_some passed fails)
  · rw [decides]
    exact State.decideFor_accept (first.eq_none passed)

end Machine
end Sys2Proof
end

section
/-! PROOF. O52, the places of a code (08 R136). The hash is read as a number from its three parts. Its exclusive or with
0xFFFF is its complement below 2^16, and G divides 2^16, so the complement carries over to the groups: the secondary group
is the primary one reflected in 0 to G - 1. No group is its own reflection, because G is even. -/
namespace Sys2Proof

namespace Configuration

/-- The four table sizes (08 R135). -/
theorem groups_cases (cfg : Configuration) :
    cfg.groups = 256 ∨ cfg.groups = 1024 ∨ cfg.groups = 4096 ∨ cfg.groups = 16384 := by
  unfold groups
  match cfg.tableGroups with
  | 0 => exact .inl rfl
  | 1 => exact .inr (.inl rfl)
  | 2 => exact .inr (.inr (.inl rfl))
  | _ + 3 => exact .inr (.inr (.inr rfl))

theorem groups_dvd (cfg : Configuration) : cfg.groups ∣ 2 ^ 16 := by
  obtain size | size | size | size := cfg.groups_cases <;> rw [size] <;> decide

theorem two_dvd_groups (cfg : Configuration) : 2 ∣ cfg.groups := by
  obtain size | size | size | size := cfg.groups_cases <;> rw [size] <;> decide

end Configuration

namespace Machine

/-- h1 as the exclusive or of the parts *a*, *b* and *e* (08 R136). -/
theorem codeHash_toNat (code : Code) :
    (codeHash code).toNat = ((code.toNat / 2 ^ 32) ^^^ (code.toNat / 2 ^ 16 % 2 ^ 16)) ^^^ (code.toNat % 2 ^ 16) := by
  have high : code.toNat / 2 ^ 32 < 2 ^ 16 := Nat.div_lt_of_lt_mul code.isLt
  simp only [codeHash, BitVec.toNat_xor, BitVec.extractLsb'_toNat, Nat.shiftRight_eq_div_pow, Nat.mod_eq_of_lt high,
    Nat.pow_zero, Nat.div_one]

theorem secondaryGroup_eq_xor_mod (G : Nat) (code : Code) :
    secondaryGroup G code = ((codeHash code).toNat ^^^ 0xFFFF) % G := by
  rw [secondaryGroup, BitVec.toNat_xor]
  rfl

/-- The start entry needs the low part of the code alone (08 R136). -/
theorem startEntry_eq_low_mod (code : Code) : startEntry code = code.toNat % 2 ^ 16 % 8 :=
  (Nat.mod_mod_of_dvd code.toNat (by decide)).symm

theorem cacheSetOf_val (code : Code) : (cacheSetOf code).val = (codeHash code).toNat % 64 := rfl

theorem codeHash_xor_ones (code : Code) : (codeHash code ^^^ 0xFFFF#16).toNat = 2 ^ 16 - ((codeHash code).toNat + 1) := by
  have complement : codeHash code ^^^ 0xFFFF#16 = ~~~codeHash code := BitVec.xor_allOnes
  rw [complement, BitVec.toNat_not, Nat.sub_sub, Nat.add_comm]

/-- The low bits inverted: in a table whose G divides 2^16, the secondary group is the reflection of the primary one. -/
theorem secondaryGroup_eq_inverted {G : Nat} (divides : G ∣ 2 ^ 16) (code : Code) :
    secondaryGroup G code = G - 1 - primaryGroup G code := by
  obtain ⟨k, size⟩ := divides
  have inRange : (codeHash code).toNat < G * k := size ▸ (codeHash code).isLt
  calc secondaryGroup G code
      = (G * k - ((codeHash code).toNat + 1)) % G := by rw [secondaryGroup, codeHash_xor_ones, size]
    _ = G - (primaryGroup G code + 1) := Nat.mul_sub_mod inRange
    _ = G - 1 - primaryGroup G code := by rw [Nat.add_comm, Nat.sub_sub]

theorem primaryGroup_add_secondaryGroup {G : Nat} (divides : G ∣ 2 ^ 16) (code : Code) :
    primaryGroup G code + 1 + secondaryGroup G code = G := by
  have below : primaryGroup G code < G := Nat.mod_lt _ (Nat.pos_of_dvd_of_pos divides (by decide))
  rw [secondaryGroup_eq_inverted divides, Nat.sub_sub, Nat.add_comm 1]
  exact Nat.add_sub_of_le below

theorem secondaryGroup_ne_primaryGroup {G : Nat} (divides : G ∣ 2 ^ 16) (even : 2 ∣ G) (code : Code) :
    secondaryGroup G code ≠ primaryGroup G code := by
  intro same
  have odd : 2 * primaryGroup G code + 1 = G := by
    rw [Nat.two_mul, Nat.add_right_comm]
    simpa only [same] using primaryGroup_add_secondaryGroup divides code
  exact Nat.two_not_dvd_two_mul_add_one (primaryGroup G code) (even.trans (dvd_of_eq odd.symm))

/-- Settles O52: every table size is even and divides 2^16, so the complement of the hash gives the reflected group. -/
theorem placesOfACode : Obligations.PlacesOfACode := by
  intro code cfg a b e h1 G
  have hash : (codeHash code).toNat = h1 := codeHash_toNat code
  refine ⟨?_, ?_, ?_, startEntry_eq_low_mod code, ?_, cfg.groups_cases, secondaryGroup_eq_inverted cfg.groups_dvd code,
    secondaryGroup_ne_primaryGroup cfg.groups_dvd cfg.two_dvd_groups code⟩
  · exact hash.symm.trans_lt (codeHash code).isLt
  · rw [primaryGroup, hash]
  · rw [secondaryGroup_eq_xor_mod, hash]
  · rw [cacheSetOf_val, hash]

end Machine
end Sys2Proof
end

section
/-! PROOF. O40, CLOSE SESSION (10 R169, R170). The close that begins in OPEN takes one of three courses, each with its
equation: it waits, it ends empty, or it ends with a number (R171). A request in IDLE may first end a Doze, whose new
container opens no session: only the end of a close changes the session's state there, and in IDLE no close runs. -/
namespace Sys2Proof
namespace Machine

-- A raised notice (11 R182)

theorem noticeKindAt_index (k : NoticeKind) : noticeKindAt k.index = k := by cases k <;> rfl

theorem NoticeKind.index_injective : Function.Injective NoticeKind.index :=
  Function.LeftInverse.injective noticeKindAt_index

theorem State.raise_noticeOf_same (s : State) (d : NoticeDetail) : (s.raise d).noticeOf d.kind = some d := by
  simp [State.noticeOf, State.raise, NoticeRecord.raised]

theorem State.raise_notices_other (s : State) (d : NoticeDetail) {k : NoticeKind} (other : k ≠ d.kind) :
    (s.raise d).notices[k.index] = s.notices[k.index] := by
  have apart : d.kind.index.val ≠ k.index.val := fun same =>
    other (NoticeKind.index_injective (Fin.ext same)).symm
  simp [State.raise, Vector.getElem_set_ne _ _ apart]

theorem State.raise_noticeOf_other (s : State) (d : NoticeDetail) {k : NoticeKind} (other : k ≠ d.kind) :
    (s.raise d).noticeOf k = s.noticeOf k := congrArg NoticeRecord.detail (s.raise_notices_other d other)

-- The voucher number (10 R171)

/-- The end of a close with count 1 or more, before the exhausted sequence is reported (10 R170). -/
def State.numbered (s : State) : State :=
  (s.mapSession fun n => { n with
    state := .closed, number := some (s.voucherNumber n.sequence), sequence := n.sequence + 1 }).raise
    (.sessionClosed (s.voucherNumber s.session.sequence) (s.session.reason.getD .customer) s.session.total
      s.session.count s.session.lines.length)

theorem State.assignNumber_eq (s : State) :
    s.assignNumber = if s.session.sequence + 1 = Config.lastSequence then
      s.numbered.raise (.vouchersExhausted (s.voucherNumber s.session.sequence)) else s.numbered := by
  have exhausted : s.numbered.exhausted = true ↔ s.session.sequence + 1 = Config.lastSequence := beq_iff_eq
  rw [← if_congr exhausted rfl rfl]
  rfl

theorem State.assignNumber_session (s : State) : s.assignNumber.session = { s.session with
    state := .closed, number := some (s.voucherNumber s.session.sequence), sequence := s.session.sequence + 1 } := by
  rw [State.assignNumber_eq]
  split <;> rfl

theorem State.assignNumber_sessionClosed (s : State) : s.assignNumber.noticeOf .sessionClosed =
    some (.sessionClosed (s.voucherNumber s.session.sequence) (s.session.reason.getD .customer) s.session.total
      s.session.count s.session.lines.length) := by
  have apart : NoticeKind.sessionClosed ≠ .vouchersExhausted := nofun
  have raised : s.numbered.noticeOf .sessionClosed = _ := State.raise_noticeOf_same ..
  rw [State.assignNumber_eq]
  split
  · exact (State.raise_noticeOf_other _ _ apart).trans raised
  · exact raised

theorem State.assignNumber_vouchersExhausted (s : State) (last : s.session.sequence + 1 = Config.lastSequence) :
    s.assignNumber.noticeOf .vouchersExhausted =
      some (.vouchersExhausted (s.voucherNumber s.session.sequence)) := by
  rw [State.assignNumber_eq, if_pos last]
  exact State.raise_noticeOf_same ..

theorem State.assignNumber_sameNoticesBut (s : State) :
    s.sameNoticesBut [.sessionClosed, .vouchersExhausted] s.assignNumber := by
  intro k outside
  obtain ⟨notClosed, notExhausted⟩ : k ≠ .sessionClosed ∧ k ≠ .vouchersExhausted := by simpa using outside
  have kept : s.numbered.notices[k.index] = s.notices[k.index] := State.raise_notices_other _ _ notClosed
  rw [State.assignNumber_eq]
  split
  · exact (State.raise_notices_other _ _ notExhausted).trans kept
  · exact kept

theorem State.assignNumber_drives (s : State) : s.assignNumber.drives = s.drives := by
  rw [State.assignNumber_eq]
  split <;> rfl

-- The close (10 R169, R170)

theorem State.endClose_of_not_closing {s : State} (notClosing : s.session.state ≠ .closing) : s.endClose = s :=
  if_neg fun ⟨closing, _⟩ => notClosing closing

@[simp] theorem State.endClose_drives (s : State) : s.endClose.drives = s.drives := by
  unfold State.endClose
  split
  · split
    · exact s.assignNumber_drives
    · rfl
  · rfl

theorem State.beginClose_sharedKept (s : State) (r : CloseReason) : SharedKept s (s.beginClose r) :=
  (s.mapSession_sharedKept _).trans (State.endClose_sharedKept _)

theorem State.beginClose_path (s : State) (r : CloseReason) : (s.beginClose r).path = s.path :=
  State.endClose_path _

theorem State.beginClose_drives (s : State) (r : CloseReason) : (s.beginClose r).drives = s.drives :=
  State.endClose_drives _

/-- The session of a close that has begun (10 R169). -/
def Session.closeBegun (r : CloseReason) (n : Session) : Session :=
  { n with state := .closing, reason := some r, idleTimer := none }

theorem State.beginClose_of_waiting {s : State} (r : CloseReason)
    (waits : ¬(s.session.pending = 0 ∧ s.session.undecided = false)) :
    s.beginClose r = s.mapSession (Session.closeBegun r) :=
  if_neg fun ⟨_, done⟩ => waits done

theorem State.beginClose_of_credited {s : State} (r : CloseReason) (nonePending : s.session.pending = 0)
    (decided : s.session.undecided = false) (one : 1 ≤ s.session.count) :
    s.beginClose r = (s.mapSession (Session.closeBegun r)).assignNumber :=
  (if_pos ⟨rfl, nonePending, decided⟩).trans (if_pos one)

theorem State.beginClose_of_empty {s : State} (r : CloseReason) (nonePending : s.session.pending = 0)
    (decided : s.session.undecided = false) (empty : s.session.count = 0) :
    s.beginClose r = (s.mapSession (Session.closeBegun r)).mapSession Session.emptied :=
  (if_pos ⟨rfl, nonePending, decided⟩).trans (if_neg (Nat.not_le_of_lt (Nat.lt_one_iff.mpr empty)))

-- The session's state while no close runs

theorem State.losePending_session_state {s : State} (notClosing : s.session.state ≠ .closing) :
    s.losePending.session.state = s.session.state := by
  rw [State.losePending, State.endClose_of_not_closing (by exact notClosing)]
  rfl

theorem State.clearUndecided_session_state {s : State} (notClosing : s.session.state ≠ .closing) :
    s.clearUndecided.session.state = s.session.state := by
  rw [State.clearUndecided, State.endClose_of_not_closing (by exact notClosing)]
  rfl

theorem State.endReport_session_state {s : State} (notClosing : s.session.state ≠ .closing) (before : Stage) :
    (s.endReport before).session.state = s.session.state := by
  unfold State.endReport
  split
  · exact State.losePending_session_state notClosing
  · split
    · exact State.clearUndecided_session_state notClosing
    · rfl

theorem State.jamEntry_session_state {s : State} (notClosing : s.session.state ≠ .closing) (c : Container)
    (cause : JamCause) (channel : Option Channel) :
    (s.jamEntry c cause channel).session.state = s.session.state :=
  State.endReport_session_state (s := s.emptyEntry.stopEntry.setEntryRecord { c with stage := .stuck })
    notClosing c.stage

theorem State.checkEntryDrive_session_state {s : State} (notClosing : s.session.state ≠ .closing) :
    s.checkEntryDrive.session.state = s.session.state := by
  unfold State.checkEntryDrive
  split
  · split
    · exact State.jamEntry_session_state notClosing ..
    · rfl
  · rfl

theorem State.startMove_session_state {s : State} (notClosing : s.session.state ≠ .closing) (d : Direction) :
    (s.startMove d).session.state = s.session.state :=
  State.checkEntryDrive_session_state (s := (s.requestEntry d).mapPath fun p => { p with entryTimer := some 0 })
    notClosing

@[simp] theorem State.trigger_session (s : State) : s.trigger.session = s.session := by
  unfold State.trigger
  split
  · rfl
  · split <;> rfl

@[simp] theorem State.requestScan_session (s : State) : s.requestScan.session = s.session := by
  unfold State.requestScan
  split
  · exact s.trigger_session
  · split <;> rfl

@[simp] theorem State.scanEyeSeen_session (s : State) : s.scanEyeSeen.session = s.session := by
  unfold State.scanEyeSeen
  split
  · split
    · exact State.requestScan_session _
    · rfl
  · rfl

/-- A new record raises the undecided mark; ENTRY in trouble, which jams it at once, lowers the mark again. -/
theorem State.tryStart_session_state {s : State} (notClosing : s.session.state ≠ .closing) :
    s.tryStart.session.state = s.session.state := by
  simp only [State.tryStart]
  split
  · have moved := State.startMove_session_state (d := .forward)
      (s := ((s.setEntryRecord (.entering s.path.tagCounter)).mapPath fun p =>
        { p with tagCounter := p.tagCounter + 1 }).setUndecided) notClosing
    split
    · exact (congrArg Session.state (State.scanEyeSeen_session _)).trans moved
    · exact moved
  · rfl

/-- The test of the doze condition changes the Host Port alone. -/
theorem State.testDoze_eq (s : State) : ∃ h : HostPort, s.testDoze = { s with host := h } := by
  unfold State.testDoze
  split
  · split
    · exact ⟨{ s.host with dozeTimer := some 0 }, rfl⟩
    · exact ⟨s.host, rfl⟩
  · exact ⟨{ s.host with dozeTimer := none, offered := false }, rfl⟩

theorem State.testDoze_session (s : State) : s.testDoze.session = s.session := by
  obtain ⟨_, same⟩ := s.testDoze_eq
  rw [same]

theorem State.readied_session_state {s : State} (notClosing : s.session.state ≠ .closing) (endsDoze : Bool) :
    (s.readied endsDoze).session.state = s.session.state := by
  unfold State.readied State.endDoze State.returnActive
  split
  · split
    · rw [State.testDoze_session]
      exact State.tryStart_session_state notClosing
    · rfl
  · rfl

-- CLOSE SESSION (10 R169)

theorem exec_closeSession {s : State} (started : s.host.started = true) (free : s.storeBusy = false) :
    exec .closeSession s = .next ((s.readied true).handle closeRequest) := by
  have readied : (s.readied true).host.started = true := (s.readied_steady true).started.trans started
  simp [exec, execCloseSession, State.transact, State.judge, free, readied]

theorem State.handle_closeRequest_idle {s : State} (idle : s.session.state = .idle) :
    s.handle closeRequest = s.setAnswer (.refused .none) := by
  simp [State.handle, closeRequest, idle]

theorem State.handle_closeRequest_closing {s : State} (closing : s.session.state = .closing) :
    s.handle closeRequest = s.setAnswer (.done .none) := by
  simp [State.handle, closeRequest, closing]

theorem State.handle_closeRequest_closed {s : State} (closed : s.session.state = .closed) :
    s.handle closeRequest = s.setAnswer (.refused .state) := by
  simp [State.handle, closeRequest, closed]

theorem State.handle_closeRequest_opened {s : State} (opened : s.session.state = .opened) :
    ∃ h, h.answer = .done .none ∧ s.handle closeRequest = { s.beginClose .customer with host := h } := by
  obtain ⟨h, tested⟩ := (s.beginClose .customer).testDoze_eq
  refine ⟨{ h with answer := .done .none }, rfl, ?_⟩
  simp [State.handle, closeRequest, opened, tested, State.setAnswer]

/-- Settles O40: the request is judged in the state it is found in, and the close begun in OPEN takes the course that
its pending count, its undecided mark and its count give. -/
theorem sessionIsClosed : Obligations.SessionIsClosed := by
  intro s started free
  have taken := exec_closeSession started free
  have judged (awake : s.host.rest ≠ .doze) : exec .closeSession s = .next (s.shiftOut.handle closeRequest) := by
    rw [taken, s.readied_of_not_doze true awake]
  refine ⟨fun idle => ?_, fun awake opened => ?_, fun awake closing => ?_, fun awake closed => ?_⟩
  · have stays : (s.readied true).session.state = .idle :=
      (State.readied_session_state (by simp [idle]) true).trans idle
    refine ⟨_, taken.trans (congrArg _ (State.handle_closeRequest_idle stays)), rfl, stays, fun awake => ?_⟩
    rw [s.readied_of_not_doze true awake]
    rfl
  · obtain ⟨h, answer, closes⟩ := State.handle_closeRequest_opened (s := s.shiftOut) opened
    have kept := s.shiftOut.beginClose_sharedKept .customer
    refine ⟨_, (judged awake).trans (congrArg _ closes), answer, fun waits => ?_, fun pending decided one => ?_,
      fun pending decided empty => ?_, s.shiftOut.beginClose_path _, s.shiftOut.beginClose_drives _, kept.line,
      kept.bins, kept.map⟩
    · rw [State.beginClose_of_waiting (s := s.shiftOut) .customer waits]
      exact ⟨rfl, rfl⟩
    · rw [State.beginClose_of_credited (s := s.shiftOut) .customer pending decided one]
      exact ⟨State.assignNumber_session _, State.assignNumber_sessionClosed _,
        State.assignNumber_vouchersExhausted (s.shiftOut.mapSession (Session.closeBegun .customer)),
        State.assignNumber_sameNoticesBut _⟩
    · rw [State.beginClose_of_empty (s := s.shiftOut) .customer pending decided empty]
      refine ⟨?_, rfl⟩
      simp [Session.emptied, Session.closeBegun, pending, empty]
  · rw [judged awake, State.handle_closeRequest_closing (by exact closing)]
    rfl
  · rw [judged awake, State.handle_closeRequest_closed (by exact closed)]
    rfl

end Machine
end Sys2Proof
end

section
/-! PROOF. O38, SET CONFIGURATION (11 R179, R180). Each step of the second pass changes the leads, the gate distances or
the scan channels alone; the leads are followed as pairs through the steps, and each bound is read off the step that
settles it. -/
namespace Sys2Proof

namespace Configuration

/-- CommitLead and MinLead as 11 R180, step 1, settles them. -/
def leadStep (l : Nat × Nat) : Nat × Nat := if l.2 < l.1 + 1 then (if 8 < l.1 + 1 then 3 else l.1, 8) else l

/-- The record with its three leads replaced: CommitLead and MinLead as a pair, and MaxLead. -/
def withLeads (c : Configuration) (l : Nat × Nat) (m : Nat) : Configuration :=
  { c with commitLead := l.1, minLead := l.2, maxLead := m }

theorem settleMinLead_eq (c : Configuration) :
    c.settleMinLead = c.withLeads (leadStep (c.commitLead, c.minLead)) c.maxLead := by
  unfold settleMinLead leadStep
  split <;> rfl

theorem settleMaxLead_eq (c : Configuration) : c.settleMaxLead = c.withLeads
    (if c.maxLead < c.minLead ∧ 48 < c.minLead then leadStep (c.commitLead, 8) else (c.commitLead, c.minLead))
    (if c.maxLead < c.minLead then 48 else c.maxLead) := by
  unfold settleMaxLead
  by_cases below : c.maxLead < c.minLead
  · by_cases far : 48 < c.minLead <;> simp [below, far, settleMinLead_eq, withLeads]
  · simp [below, withLeads]

theorem settleReach_eq (c : Configuration) : c.settleReach = c.withLeads
    (if 255 < c.maxLead + c.clearDistance ∧ 255 - c.clearDistance < c.minLead then leadStep (c.commitLead, 8)
      else (c.commitLead, c.minLead))
    (if 255 < c.maxLead + c.clearDistance then 255 - c.clearDistance else c.maxLead) := by
  unfold settleReach
  by_cases far : 255 < c.maxLead + c.clearDistance
  · by_cases below : 255 - c.clearDistance < c.minLead <;> simp [far, below, settleMinLead_eq, withLeads]
  · simp [far, withLeads]

theorem settleScan_eq (c : Configuration) : c.settleScan = { c with
    scanFirst := if c.scanLast < c.scanFirst then 0 else c.scanFirst
    scanLast := if c.scanLast < c.scanFirst then 5 else c.scanLast } := by
  unfold settleScan
  split <;> rfl

/-- CommitLead and MinLead within their own bounds and, after step 1, in their order. -/
def LeadsGood (l : Nat × Nat) : Prop := (1 ≤ l.1 ∧ l.1 ≤ 8) ∧ l.1 + 1 ≤ l.2 ∧ l.2 ≤ 60

theorem leadStep_good {l : Nat × Nat} (commit : 1 ≤ l.1 ∧ l.1 ≤ 8) (least : l.2 ≤ 60) : LeadsGood (leadStep l) := by
  unfold leadStep LeadsGood
  split
  · dsimp only
    split <;> omega
  · omega

theorem leadStep_eq_self {l : Nat × Nat} (ordered : l.1 + 1 ≤ l.2) : leadStep l = l := if_neg (by omega)

theorem settle_bounds {low high dflt : Nat} (v : Nat) (inside : low ≤ dflt ∧ dflt ≤ high) :
    low ≤ settle low high dflt v ∧ settle low high dflt v ≤ high := by
  unfold settle
  split <;> assumption

theorem settle_eq_self {low high dflt v : Nat} (inside : low ≤ v ∧ v ≤ high) : settle low high dflt v = v := if_pos inside


theorem leadStep_eight {commit : Nat} : (leadStep (commit, 8)).2 = 8 := by
  unfold leadStep
  split <;> rfl

/-- CommitLead and MinLead as a pair, and MaxLead, after the steps 1 to 3 of 11 R180. -/
def settledLeads (c : Configuration) : (Nat × Nat) × Nat :=
  let lead1 := leadStep (c.commitLead, c.minLead)
  let max2 := if c.maxLead < lead1.2 then 48 else c.maxLead
  let lead2 := if c.maxLead < lead1.2 ∧ 48 < lead1.2 then leadStep (lead1.1, 8) else lead1
  let max3 := if 255 < max2 + c.clearDistance then 255 - c.clearDistance else max2
  let lead3 := if 255 < max2 + c.clearDistance ∧ 255 - c.clearDistance < lead2.2 then leadStep (lead2.1, 8) else lead2
  (lead3, max3)

theorem settleLeads_eq (c : Configuration) :
    c.settleMinLead.settleMaxLead.settleReach = c.withLeads c.settledLeads.1 c.settledLeads.2 := by
  simp only [settleReach_eq, settleMaxLead_eq, settleMinLead_eq]
  rfl

theorem settledLeads_good (c : Configuration) (clear : c.clearDistance ≤ 200) (commit : 1 ≤ c.commitLead ∧ c.commitLead ≤ 8)
    (least : c.minLead ≤ 60) (most : c.maxLead ≤ 120) : LeadsGood c.settledLeads.1 ∧ c.settledLeads.1.2 ≤ c.settledLeads.2
      ∧ c.settledLeads.2 ≤ 120 ∧ c.settledLeads.2 + c.clearDistance ≤ 255 := by
  have reset {l : Nat × Nat} (h : LeadsGood l) : LeadsGood (leadStep (l.1, 8)) := leadStep_good h.1 (Nat.le_add_left 8 52)
  have good1 : LeadsGood (leadStep (c.commitLead, c.minLead)) := leadStep_good commit least
  simp only [settledLeads]
  generalize leadStep (c.commitLead, c.minLead) = lead1 at good1
  have good2 : LeadsGood (if c.maxLead < lead1.2 ∧ 48 < lead1.2 then leadStep (lead1.1, 8) else lead1) := by
    split
    · exact reset good1
    · exact good1
  have order2 : (if c.maxLead < lead1.2 ∧ 48 < lead1.2 then leadStep (lead1.1, 8) else lead1).2 ≤
      if c.maxLead < lead1.2 then 48 else c.maxLead := by
    split
    · rw [leadStep_eight]; split <;> omega
    · split <;> omega
  generalize (if c.maxLead < lead1.2 ∧ 48 < lead1.2 then leadStep (lead1.1, 8) else lead1) = lead2 at good2 order2
  have most2 : (if c.maxLead < lead1.2 then 48 else c.maxLead) ≤ 120 := by split <;> omega
  generalize (if c.maxLead < lead1.2 then 48 else c.maxLead) = max2 at order2 most2
  split
  · refine ⟨reset good2, ?_⟩
    rw [leadStep_eight]
    split <;> omega
  · refine ⟨good2, ?_⟩
    split <;> omega

theorem settledLeads_eq_self {c : Configuration} (ordered : c.commitLead + 1 ≤ c.minLead) (below : c.minLead ≤ c.maxLead)
    (reach : c.maxLead + c.clearDistance ≤ 255) : c.settledLeads = ((c.commitLead, c.minLead), c.maxLead) := by
  simp [settledLeads, leadStep_eq_self (l := (c.commitLead, c.minLead)) ordered, Nat.not_lt.mpr below, Nat.not_lt.mpr reach]

/-- The record as taken, by the leads after the steps 1 to 3 and by what the steps 4 and 5 settle (11 R180). -/
theorem taken_eq (c : Configuration) : c.taken = settleScan (settleGates
    (c.firstPass.withLeads c.firstPass.settledLeads.1 c.firstPass.settledLeads.2)) := by
  rw [taken, settleLeads_eq]

theorem defaultDrive_bounds (i : Nat) : (defaultDrive i).currentLimit ≤ 3 ∧ (defaultDrive i).graceTime ≤ 3
    ∧ (defaultDrive i).faultResponse ≤ 1 ∧ (defaultDrive i).coolOff ≤ 3 := by
  unfold defaultDrive
  split
  · decide
  · split <;> decide

theorem defaultPriority_le (k : Nat) : defaultPriority k ≤ 7 := by
  unfold defaultPriority
  repeat' split
  all_goals decide

theorem taken_meetsBounds (c : Configuration) : c.taken.MeetsBounds := by
  have leads := c.firstPass.settledLeads_good (settle_bounds _ (by decide)).2 (settle_bounds _ (by decide))
    (settle_bounds _ (by decide)).2 (settle_bounds _ (by decide)).2
  have clear : 8 ≤ c.firstPass.clearDistance ∧ c.firstPass.clearDistance ≤ 200 := settle_bounds _ (by decide)
  obtain ⟨⟨commit, ordered, least⟩, below, most, reach⟩ := leads
  rw [taken_eq, settleScan_eq]
  refine ⟨settle_bounds _ (by decide), ⟨(settle_bounds _ (by decide)).2, (settle_bounds _ (by decide)).2⟩, clear, commit,
    ⟨ordered, least⟩, ⟨below, most, reach⟩, settle_bounds _ (by decide), (settle_bounds _ (by decide)).2, fun g => ?_,
    fun b => ?_, fun i => ?_, settle_bounds _ (by decide), ?_, settle_bounds _ (by decide), settle_bounds _ (by decide),
    ⟨(settle_bounds _ (by decide)).2, (settle_bounds _ (by decide)).2⟩, settle_bounds _ (by decide),
    (settle_bounds _ (by decide)).2, settle_bounds _ (by decide), settle_bounds _ (by decide), settle_bounds _ (by decide),
    ⟨(settle_bounds _ (by decide)).2, (settle_bounds _ (by decide)).2⟩, fun k => ?_⟩
  · simp only [settleGates, withLeads, firstPass, Fin.getElem_fin, Vector.getElem_map]
    have first := settle_bounds (low := 1) (high := 199) (dflt := settle 8 200 96 c.clearDistance - 1) c.gateDistance[g]
      (by simp only [firstPass] at clear; omega)
    simp only [firstPass] at clear
    simp only [Fin.getElem_fin] at first
    split <;> omega
  · simp only [settleGates, withLeads, firstPass, Fin.getElem_fin, Vector.getElem_map]
    exact settle_bounds _ (by decide)
  · simp only [settleGates, withLeads, firstPass, Fin.getElem_fin, Vector.getElem_ofFn]
    have within := defaultDrive_bounds i.val
    exact ⟨(settle_bounds _ ⟨Nat.zero_le _, within.1⟩).2, (settle_bounds _ ⟨Nat.zero_le _, within.2.1⟩).2,
      (settle_bounds _ ⟨Nat.zero_le _, within.2.2.1⟩).2, (settle_bounds _ ⟨Nat.zero_le _, within.2.2.2⟩).2⟩
  · have last : c.firstPass.scanLast ≤ 5 := (settle_bounds _ (by decide)).2
    simp only [settleGates, withLeads]
    rcases Nat.lt_or_ge c.firstPass.scanLast c.firstPass.scanFirst with crossed | ordered
    · simp [crossed]
    · simp [Nat.not_lt.mpr ordered, ordered, last]
  · simp only [settleGates, withLeads, firstPass, Fin.getElem_fin, Vector.getElem_ofFn]
    exact ⟨(settle_bounds _ ⟨Nat.zero_le _, defaultPriority_le k.val⟩).2, (settle_bounds _ (by decide)).2⟩

/-- The first pass leaves a record that meets every bound as it is. -/
theorem firstPass_eq_self {c : Configuration} (good : c.MeetsBounds) : c.firstPass = c := by
  obtain ⟨station, ⟨rate, glitch⟩, clear, commit, least, most, wait, duty, gates, capacity, drive, flap, scan, shadow,
    metal, ⟨reader, table⟩, latency, queries, idle, query, doze, ⟨keep, peers⟩, notice⟩ := good
  have zero {high dflt v : Nat} (h : v ≤ high) : settle 0 high dflt v = v := settle_eq_self ⟨Nat.zero_le v, h⟩
  have clearSame : settle 8 200 96 c.clearDistance = c.clearDistance := settle_eq_self clear
  have gatesSame : c.gateDistance.map (settle 1 199 (c.clearDistance - 1)) = c.gateDistance := by
    ext i hi
    have bound := gates ⟨i, hi⟩
    simp only [Fin.getElem_fin] at bound
    rw [Vector.getElem_map, settle_eq_self (by omega)]
  have capacitySame : c.capacity.map (settle 1 65000 1000) = c.capacity := by
    ext i hi
    rw [Vector.getElem_map]
    exact settle_eq_self (capacity ⟨i, hi⟩)
  have driveSame : (Vector.ofFn fun i : Fin 11 => ({
      currentLimit := settle 0 3 (defaultDrive i.val).currentLimit c.drive[i].currentLimit
      graceTime := settle 0 3 (defaultDrive i.val).graceTime c.drive[i].graceTime
      faultResponse := settle 0 1 (defaultDrive i.val).faultResponse c.drive[i].faultResponse
      coolOff := settle 0 3 (defaultDrive i.val).coolOff c.drive[i].coolOff } : DriveSetting)) = c.drive := by
    ext i hi
    obtain ⟨limit, grace, response, cool⟩ := drive ⟨i, hi⟩
    rw [Vector.getElem_ofFn, zero limit, zero grace, zero response, zero cool]
    rfl
  have noticeSame : (Vector.ofFn fun k : Fin 22 => ({
      priority := settle 0 7 (defaultPriority k.val) c.notice[k].priority
      enable := settle 0 1 1 c.notice[k].enable } : NoticeSetting)) = c.notice := by
    ext k hk
    obtain ⟨priority, enable⟩ := notice ⟨k, hk⟩
    rw [Vector.getElem_ofFn, zero priority, zero enable]
    rfl
  simp only [firstPass, clearSame, gatesSame, capacitySame, driveSame, noticeSame, settle_eq_self station, zero rate,
    zero glitch, settle_eq_self commit, zero least.2, zero most.2.1, settle_eq_self wait, zero duty, settle_eq_self flap,
    zero (scan.1.trans scan.2), zero scan.2, settle_eq_self shadow, settle_eq_self metal, zero reader, zero table,
    settle_eq_self latency, zero queries, settle_eq_self idle, settle_eq_self query, settle_eq_self doze, zero keep,
    zero peers]

theorem settleGates_eq_self {c : Configuration} (within : ∀ g : Fin 8, c.gateDistance[g] ≤ c.clearDistance - 1) :
    c.settleGates = c := by
  have same : (c.gateDistance.map fun d => if c.clearDistance - 1 < d then c.clearDistance - 1 else d) =
      c.gateDistance := by
    ext i hi
    rw [Vector.getElem_map]
    exact if_neg (Nat.not_lt.mpr (within ⟨i, hi⟩))
  rw [settleGates, same]

theorem taken_eq_self {c : Configuration} (good : c.MeetsBounds) : c.taken = c := by
  rw [taken_eq, firstPass_eq_self good]
  obtain ⟨_, _, _, _, ⟨ordered, _⟩, ⟨below, _, reach⟩, _, _, gates, _, _, _, ⟨scan, _⟩, _⟩ := good
  rw [settledLeads_eq_self ordered below reach]
  have leads : c.withLeads (c.commitLead, c.minLead) c.maxLead = c := rfl
  rw [leads, settleGates_eq_self fun g => (gates g).2, settleScan_eq, if_neg (Nat.not_lt.mpr scan),
    if_neg (Nat.not_lt.mpr scan)]

theorem taken_firstPassSettles (c : Configuration) : Machine.firstPassSettles c c.taken := by
  rw [taken_eq, settleScan_eq]
  refine ⟨rfl, rfl, rfl, rfl, rfl, rfl, fun b => ?_, fun i => ?_, rfl, rfl, rfl, rfl, rfl, rfl, rfl, rfl, rfl, rfl, rfl,
    rfl, fun k => ?_⟩
  · simp [settleGates, withLeads, firstPass, settle, Machine.within]
  · simp only [settleGates, withLeads, firstPass, Fin.getElem_fin, Vector.getElem_ofFn, defaultDrive]
    by_cases early : i.val < 2
    · simp [early, settle, Machine.within, show i.val ≠ 2 by omega]
    · by_cases flap : i.val = 2 <;> simp [early, flap, settle, Machine.within]
  · simp only [settleGates, withLeads, firstPass, Fin.getElem_fin, Vector.getElem_ofFn]
    exact ⟨rfl, rfl⟩

-- The list of adjusted fields (11 R180)

/-- The fields of the record in the order of the table of 11 R179. -/
def fieldNames : List ConfigField := List.flatten
  [[.stationNumber, .lineRate, .deglitch, .clearDistance, .commitLead, .minLead, .maxLead, .holdWait, .sortDuty],
   (List.finRange 8).map fun g => .gateDistance g.val, (List.finRange 8).map fun b => .capacity b.val,
   (List.finRange 11).flatMap fun i => [.currentLimit i.val, .graceTime i.val, .faultResponse i.val, .coolOff i.val],
   [.flapTime, .scanFirst, .scanLast, .shadowThreshold, .metalThreshold, .readerRate, .tableGroups, .storeLatency,
    .hostQueries, .idleTime, .queryTime, .dozeDelay, .keepCache, .wakePeers],
   (List.finRange 22).flatMap fun k => [.priority k.val, .enable k.val]]

theorem fields_names (c : Configuration) : c.fields.map Prod.fst = fieldNames := by
  simp only [fields, List.map_flatten, List.map_cons, List.map_map, List.map_flatMap, List.map_nil]
  rfl

/-- The place of a field in the table of 11 R179. -/
def fieldPlace : ConfigField → Nat
  | .stationNumber => 0 | .lineRate => 1 | .deglitch => 2 | .clearDistance => 3 | .commitLead => 4 | .minLead => 5
  | .maxLead => 6 | .holdWait => 7 | .sortDuty => 8
  | .gateDistance g => 9 + g
  | .capacity b => 17 + b
  | .currentLimit i => 25 + 4 * i | .graceTime i => 26 + 4 * i | .faultResponse i => 27 + 4 * i | .coolOff i => 28 + 4 * i
  | .flapTime => 69 | .scanFirst => 70 | .scanLast => 71 | .shadowThreshold => 72 | .metalThreshold => 73
  | .readerRate => 74 | .tableGroups => 75 | .storeLatency => 76 | .hostQueries => 77 | .idleTime => 78 | .queryTime => 79
  | .dozeDelay => 80 | .keepCache => 81 | .wakePeers => 82
  | .priority k => 83 + 2 * k | .enable k => 84 + 2 * k

theorem fieldNames_nodup : fieldNames.Nodup := by
  have places : fieldNames.map fieldPlace = List.range 127 := rfl
  exact List.Nodup.of_map fieldPlace (places ▸ List.nodup_range)

end Configuration

/-- Two lists of pairs with the same distinct names, zipped: the pairs of one name stand at one place. -/
theorem mem_zip_of_same_names {α β : Type} {xs ys : List (α × β)} (same : xs.map Prod.fst = ys.map Prod.fst)
    (distinct : (xs.map Prod.fst).Nodup) (f : α) (v w : β) :
    ((f, v), (f, w)) ∈ xs.zip ys ↔ (f, v) ∈ xs ∧ (f, w) ∈ ys := by
  induction xs generalizing ys with
  | nil => simp
  | cons x xs ih =>
    cases ys with
    | nil => simp at same
    | cons y ys =>
      simp only [List.map_cons, List.cons.injEq] at same
      simp only [List.map_cons, List.nodup_cons] at distinct
      obtain ⟨heads, tails⟩ := same
      obtain ⟨new, distinct⟩ := distinct
      have notLeft : f = x.1 → (f, v) ∉ xs := fun e m => new (e ▸ List.mem_map_of_mem m)
      have notRight : f = x.1 → (f, w) ∉ ys := fun e m => new (tails ▸ e ▸ List.mem_map_of_mem m)
      have heading {u : β} {z : α × β} (e : (f, u) = z) : f = z.1 := congrArg Prod.fst e
      simp only [List.zip_cons_cons, List.mem_cons, Prod.mk.injEq, ih tails distinct]
      constructor
      · rintro (⟨rfl, rfl⟩ | ⟨l, r⟩)
        · exact ⟨.inl rfl, .inl rfl⟩
        · exact ⟨.inr l, .inr r⟩
      · rintro ⟨rfl | l, rfl | r⟩
        · exact .inl ⟨rfl, rfl⟩
        · exact absurd r (notRight rfl)
        · exact absurd l (notLeft heads.symm)
        · exact .inr ⟨l, r⟩

theorem names_of_mem_zip {α β : Type} {xs ys : List (α × β)} (same : xs.map Prod.fst = ys.map Prod.fst)
    {p : (α × β) × (α × β)} (mem : p ∈ xs.zip ys) : p.2.1 = p.1.1 := by
  induction xs generalizing ys with
  | nil => simp at mem
  | cons x xs ih =>
    cases ys with
    | nil => simp at same
    | cons y ys =>
      simp only [List.map_cons, List.cons.injEq] at same
      rcases List.mem_cons.mp mem with rfl | later
      · exact same.1.symm
      · exact ih same.2 later

theorem Configuration.mem_adjusted (c t : Configuration) (f : ConfigField) (v w : Nat) :
    (f, v, w) ∈ c.adjusted t ↔ (f, v) ∈ c.fields ∧ (f, w) ∈ t.fields ∧ v ≠ w := by
  have same : c.fields.map Prod.fst = t.fields.map Prod.fst := c.fields_names.trans t.fields_names.symm
  have paired := mem_zip_of_same_names same (c.fields_names ▸ fieldNames_nodup) f v w
  have listed : (f, v, w) ∈ c.adjusted t ↔ ((f, v), (f, w)) ∈ c.fields.zip t.fields ∧ v ≠ w := by
    simp only [adjusted, List.mem_map, List.mem_filter, bne_iff_ne]
    constructor
    · rintro ⟨⟨⟨g, m⟩, ⟨g', n⟩⟩, ⟨mem, differs⟩, e⟩
      have names : g' = g := names_of_mem_zip same mem
      simp only [Prod.mk.injEq] at e
      obtain ⟨rfl, rfl, rfl⟩ := e
      exact ⟨names ▸ mem, differs⟩
    · rintro ⟨mem, differs⟩
      exact ⟨_, ⟨mem, differs⟩, rfl⟩
  rw [listed, paired, and_assoc]

namespace Machine

/-- A transaction with a well-formed request to a Host Port that takes it, in a station that does not doze. -/
theorem State.transact_awake {s : State} (awake : s.awake) (needsStart endsDoze : Bool) (h : Handler) :
    s.transact needsStart endsDoze h = s.shiftOut.judge needsStart h := by
  simp [State.transact, awake.1, s.readied_of_not_doze endsDoze awake.2]

theorem capped_eq_min (top d : Nat) : (if top < d then top else d) = min top d := by
  split <;> omega

theorem pair_of_ites (p : Prop) [Decidable p] (a b c d : Nat) :
    (if p then a else c, if p then b else d) = if p then (a, b) else (c, d) := by
  split <;> rfl

theorem State.judge_of_no_need (s : State) (h : Handler) : s.judge false h = s.handle h := rfl

/-- Settles O38: the request before and after START, the list of adjusted fields by the distinct names of the fields, and
the record as taken by what each step of R180 settles. -/
theorem configurationIsTaken : Obligations.ConfigurationIsTaken := by
  intro s c awake
  have judged : exec (.setConfiguration c) s = .next (s.shiftOut.judge false (configureRequest c)) :=
    congrArg _ (State.transact_awake awake ..)
  refine ⟨fun fresh => ?_, fun started => ?_, c.mem_adjusted c.taken, c.taken_meetsBounds, Configuration.taken_eq_self,
    c.taken_firstPassSettles, ?_⟩
  · have taken : configureRequest c s.shiftOut =
        (s.shiftOut.configure c.taken, some (.done (.adjusted (c.adjusted c.taken)))) := if_neg (by simp [fresh])
    rw [judged, State.judge_of_no_need, State.handle, taken]
    simp only [State.setAnswer, State.configure, State.shiftOut]
  · have turnedAway : configureRequest c s.shiftOut = (s.shiftOut, some (.refused .state)) := if_pos started
    rw [judged, State.judge_of_no_need, State.handle, turnedAway]
    rfl
  · rw [c.taken_eq, Configuration.settleScan_eq]
    refine ⟨rfl, rfl, rfl, fun g => ?_, ?_⟩
    · simp only [Configuration.settleGates, Configuration.withLeads, Configuration.firstPass, Fin.getElem_fin,
        Vector.getElem_map]
      exact capped_eq_min _ _
    · exact pair_of_ites ..

end Machine
end Sys2Proof
end

section
/-! PROOF. O4, O3, O6: the invariant of every step, the reset state, and a notice raised. -/
namespace Sys2Proof

-- The state after power-on reset (O3)

theorem Configuration.default_meetsBounds : Configuration.default.MeetsBounds := by
  unfold MeetsBounds
  decide

namespace Machine

/-- Settles O3. -/
theorem resetIsGood : Obligations.ResetIsGood where
  belt := Belt.initial_consistent
  queue := .nil
  driver := ⟨Nat.zero_le _, Nat.zero_le _, Nat.zero_le _, fun _ => Nat.zero_lt_succ 2⟩
  notices := clearedNotices_good
  session := ⟨fun _ => ⟨rfl, rfl, rfl, rfl, rfl⟩, nofun, nofun, Nat.zero_le _⟩
  path := Path.emptied_within 0
  endBin := rfl
  bounds := Configuration.default_meetsBounds

-- The Belt Tracker (01 R2 to R5)

theorem Belt.pitch_consistent {b : Belt} (good : b.Consistent) : b.pitch.1.Consistent := by
  obtain ⟨bound, seen, unseen⟩ := good
  unfold Belt.pitch
  split
  next home =>
    split
    next room =>
      refine ⟨room, fun _ => ?_, fun no => absurd (no.symm.trans home) (by decide)⟩
      have next : (BitVec.ofNat 8 b.pitchCount : Cleat) + 1 = BitVec.ofNat 8 (b.pitchCount + 1) := by
        apply BitVec.eq_of_toNat_eq
        simp
      simpa [seen home] using next
    · exact Belt.initial_consistent
  · exact ⟨bound, seen, unseen⟩

theorem Belt.home_consistent (b : Belt) : b.home.1.Consistent := ⟨Nat.zero_le _, fun _ => rfl, nofun⟩

theorem State.pitchWork_good {s : State} (g : s.Good) (home : Bool) {u : Belt × Option SlipCause}
    (belt : u.1.Consistent) : (s.pitchWork home u).Good :=
  (s.pitchWork_steady home u).good { g with belt := belt }

-- Power-on reset and SET CONFIGURATION

theorem execPowerOnReset_good (temperature : Int) (s : State) :
    ∀ t, execPowerOnReset temperature s = .next t → t.Good := by
  rintro _ ⟨⟩
  refine State.resetDrives_good _ _ ?_
  split
  · exact (State.raise_steady _ _).good { resetIsGood with }
  · exact { resetIsGood with }

theorem configureRequest_keepsGood (c : Configuration) : (configureRequest c).KeepsGood := fun s g => by
  unfold configureRequest
  split
  · exact g
  · exact { g with bounds := c.taken_meetsBounds }

/-- Every command keeps the state good. -/
theorem exec_good (i : Instr) {s t : State} (g : s.Good) (h : exec i s = .next t) : t.Good := by
  cases i with
  | powerOnReset temperature => exact execPowerOnReset_good temperature s t h
  | setConfiguration c => cases h; exact s.transact_good _ _ (configureRequest_keepsGood c) g
  | start => cases h; exact s.transact_good _ _ startRequest_keepsGood g
  | readStatus => cases h; exact (s.transact_steady _ _ (answerOnly_keeps _)).good g
  | readNotices => cases h; exact (s.transact_steady _ _ noticesRequest_keeps).good g
  | readMap first count => cases h; exact (s.transact_steady _ _ (mapRequest_keeps first count)).good g
  | readBins => cases h; exact (s.transact_steady _ _ (answerOnly_keeps _)).good g
  | readPath => cases h; exact (s.transact_steady _ _ (answerOnly_keeps _)).good g
  | readSession => cases h; exact (s.transact_steady _ _ (answerOnly_keeps _)).good g
  | closeSession => cases h; exact (s.transact_steady _ _ closeRequest_keeps).good g
  | takeVoucher => cases h; exact (s.transact_steady _ _ voucherRequest_keeps).good g
  | readHistory => cases h; exact (s.transact_steady _ _ (answerOnly_keeps _)).good g
  | articleAnswer code kind record o => cases h; exact (s.transact_steady _ _ (answerArticle_keeps code kind record o)).good g
  | revokeArticle code => cases h; exact (s.transact_steady _ _ (revokeRequest_keeps code)).good g
  | storeRead address length => cases h; exact (s.transact_steady _ _ (storeRequest_keeps _ _ _)).good g
  | storeWrite address data => cases h; exact (s.transact_steady _ _ (storeRequest_keeps _ _ _)).good g
  | binSet bin used => cases h; exact (s.transact_steady _ _ (binRequest_keeps _ _)).good g
  | binHold bin => cases h; exact (s.transact_steady _ _ (binRequest_keeps _ _)).good g
  | binOpen bin => cases h; exact (s.transact_steady _ _ (binRequest_keeps _ _)).good g
  | grantDoze => cases h; exact (s.transact_steady _ _ dozeRequest_keeps).good g
  | deepRest => cases h; exact s.transact_good _ _ restRequest_keepsGood g
  | wake => cases h; exact (s.transact_steady _ _ wakeRequest_keeps).good g
  | restart =>
    cases h
    split
    · exact s.restartDuringAccess_good g
    · exact s.transact_good _ _ (fun u gu => u.restart_good gu) g
  | clearDrive channel => cases h; exact (s.transact_steady _ _ (clearRequest_keeps channel)).good g
  | clearJam => cases h; exact (s.transact_steady _ _ jamRequest_keeps).good g
  | badRequest reason =>
    cases h
    exact (Steady.ite s.shiftBusy_steady (s.shiftOut_steady.trans (State.setAnswer_steady ..))).good g
  | emptyTransaction => cases h; exact (Steady.ite s.shiftBusy_steady s.shiftOut_steady).good g
  | pitchMark landing =>
    have read := (s.readBeltEyes_steady landing false).good g
    cases h
    split
    · exact State.pitchWork_good read _ (Belt.pitch_consistent read.belt)
    · exact read
  | homeMark landing =>
    have read := (s.readBeltEyes_steady landing true).good g
    cases h
    split
    · exact State.pitchWork_good read _ (Belt.home_consistent _)
    · exact read
  | frameStart => exact (execFrameStart_steady s t h).good g
  | arbitrationLost => exact (execArbitrationLost_steady s t h).good g
  | arbitrationWon => exact (execArbitrationWon_steady s t h).good g
  | frameError error kind sender current => exact (execFrameError_steady error kind sender current s t h).good g
  | frameObjected echo check current => exact (execFrameObjected_steady echo check current s t h).good g
  | claimTaken rx sender cleat bin used =>
    cases h
    exact (s.take_steady _ _ _ _ (fun u => u.applyClaim_steady ..) fun own u => u.reportClaim_steady ..).good g
  | releaseTaken rx sender cleat =>
    cases h; exact (s.take_steady _ _ _ _ (fun u => u.applyRelease_steady ..) noReport_steady).good g
  | loadTaken rx sender cleat bin material used =>
    cases h; exact (s.take_steady _ _ _ _ (fun u => u.applyLoad_steady ..) noReport_steady).good g
  | strayTaken rx sender cleat =>
    cases h; exact (s.take_steady _ _ _ _ (fun u => u.applyStray_steady ..) noReport_steady).good g
  | misrouteTaken rx sender cleat bin used =>
    cases h; exact (s.take_steady _ _ _ _ (fun u => u.adopt_steady ..) noReport_steady).good g
  | binSetTaken rx sender bin used =>
    cases h; exact (s.take_steady _ _ _ _ (fun u => u.applyBinSet_steady ..) noReport_steady).good g
  | binHoldTaken rx sender bin cause =>
    cases h; exact (s.take_steady _ _ _ _ (fun u => u.setBinState_steady ..) noReport_steady).good g
  | binOpenTaken rx sender bin =>
    cases h; exact (s.take_steady _ _ _ _ (fun u => u.setBinState_steady ..) noReport_steady).good g
  | countsTaken rx sender digest used =>
    cases h
    exact (s.take_steady _ _ _ _ (fun u => u.applyCounts_steady ..) fun own u => u.reportCounts_steady ..).good g
  | joinTaken rx sender digest =>
    cases h; exact (s.take_steady _ _ _ _ (fun u => .refl u) fun own u => u.reportJoin_steady ..).good g
  | unusedKindTaken rx sender kind => cases h; exact (Steady.ite (s.receiveTaken_steady ..) (.refl s)).good g
  | lineBusy => exact (execLineBusy_steady s t h).good g
  | lineQuiet => exact (execLineQuiet_steady s t h).good g
  | lineStuck => exact (execLineStuck_steady s t h).good g
  | stuckCleared length => exact (execStuckCleared_steady length s t h).good g
  | wakePulse length => exact (execWakePulse_steady length s t h).good g
  | wakePulseSend => exact (execWakePulseSend_steady s t h).good g
  | wakePulseDone => exact (execWakePulseDone_steady s t h).good g
  | driverOverload => exact (execDriverOverload_steady s t h).good g
  | driverCoolOffEnd => exact (execDriverCoolOffEnd_steady s t h).good g
  | apertureBlocked => exact (execApertureBlocked_steady s t h).good g
  | apertureClear => exact (execApertureClear_steady s t h).good g
  | scanEyeBlocked => exact (execScanEyeBlocked_steady s t h).good g
  | scanEyeCleared => exact (execScanEyeCleared_steady s t h).good g
  | scanGapExpired => exact (execScanGapExpired_steady s t h).good g
  | transferEyeBlocked => exact (execTransferEyeBlocked_steady s t h).good g
  | transferEyeClear => exact (execTransferEyeClear_steady s t h).good g
  | entryTimeExpired => exact (execEntryTimeExpired_steady s t h).good g
  | readTimeExpired => exact (execReadTimeExpired_steady s t h).good g
  | containerScanComplete rounds => exact (execContainerScanComplete_steady rounds s t h).good g
  | codeReaderCharacter data parity stop => exact (execCodeReaderCharacter_steady data parity stop s t h).good g
  | watchResult supply reference => exact (execWatchResult_steady supply reference s t h).good g
  | walkGroupRead group => exact (execWalkGroupRead_steady group s t h).good g
  | queryTimeExpired => exact (execQueryTimeExpired_steady s t h).good g
  | storeReadEnd data => exact (execStoreReadEnd_steady data s t h).good g
  | statusRead status => exact (execStatusRead_good status s g t h).1
  | storeBusyTimeExpired => exact (execStoreBusyTimeExpired_good s g t h).1
  | driveLimitReached channel => cases h; exact (s.mapChannel_steady channel _).good g
  | driveLimitLeft channel => cases h; exact (s.mapChannel_steady channel _).good g
  | graceTimeExpired channel => exact (execGraceTimeExpired_steady channel s t h).good g
  | coolOffExpired channel => cases h; exact (s.mapChannel_steady channel _).good g
  | flapTimeExpired => exact (execFlapTimeExpired_steady s t h).good g
  | cleanRunExpired channel => cases h; exact (s.mapChannel_steady channel _).good g
  | heatStageChange crossing => exact (execHeatStageChange_steady crossing s t h).good g
  | idleTimerExpired => exact (execIdleTimerExpired_steady s t h).good g
  | dozeTimerExpired => exact (execDozeTimerExpired_steady s t h).good g
  | readerMarkLevelReached => exact (execReaderMarkLevelReached_steady s t h).good g
  | writeTransactionEnd => exact (execWriteTransactionEnd_steady s t h).good g

/-- Settles O4: the front command runs on a state that differs in the waiting commands alone, and a tick keeps the state
good. -/
theorem stepKeepsGood : Obligations.StepKeepsGood := by
  intro s t g h
  unfold step at h
  split at h
  · cases h
    exact s.tick_good g
  · refine exec_good _ ?_ h
    exact ⟨g.belt, g.queue, g.driver, g.notices, g.session, g.path, g.endBin, g.bounds⟩

-- A step (O1)

theorem Clock.due_iff (c : Clock) : c.due = true ↔ reached c.timer c.limit := by
  obtain ⟨timer, limit, expiry⟩ := c
  cases timer <;> simp [Clock.due, reached]

/-- The clock of an expiry that is due stands among the clocks. -/
theorem State.clock_of_due {s : State} {i : Instr} (due : s.due i) : ∃ c ∈ s.clocks, c.due = true := by
  have channel (c : Channel) : c ∈ allChannels := by
    cases c <;> simp [allChannels]
  have path {c : Clock} (mem : c ∈ s.pathClocks) : c ∈ s.clocks := by simp [State.clocks, mem]
  have grace (c : Channel) : ⟨(s.channel c).grace, (s.driveSetting c).graceMs, .graceTimeExpired c⟩ ∈ s.clocks := by
    simp [State.clocks, State.graceClocks, channel]
  have coolOff (c : Channel) : ⟨(s.channel c).coolOff, (s.driveSetting c).coolOffMs, .coolOffExpired c⟩ ∈ s.clocks := by
    simp [State.clocks, State.coolOffClocks, channel]
  have cleanRun (c : Channel) : ⟨(s.channel c).cleanRun, Config.cleanRunTime, .cleanRunExpired c⟩ ∈ s.clocks := by
    simp [State.clocks, State.cleanRunClocks, channel]
  have last {c : Clock} (mem : c ∈ s.lastClocks) : c ∈ s.clocks := by simp [State.clocks, mem]
  unfold State.due at due
  split at due
  · exact ⟨_, path (.head _), (Clock.due_iff _).mpr due⟩
  · exact ⟨_, path (.tail _ (.head _)), (Clock.due_iff _).mpr due⟩
  · exact ⟨_, path (.tail _ (.tail _ (.head _))), (Clock.due_iff _).mpr due⟩
  · exact ⟨_, path (.tail _ (.tail _ (.tail _ (.head _)))), (Clock.due_iff _).mpr due⟩
  · exact ⟨_, path (.tail _ (.tail _ (.tail _ (.tail _ (.head _))))), (Clock.due_iff _).mpr due⟩
  · exact ⟨_, path (.tail _ (.tail _ (.tail _ (.tail _ (.tail _ (.head _)))))), (Clock.due_iff _).mpr due⟩
  · exact ⟨_, grace _, (Clock.due_iff _).mpr due⟩
  · exact ⟨_, coolOff _, (Clock.due_iff _).mpr due⟩
  · exact ⟨_, cleanRun _, (Clock.due_iff _).mpr due⟩
  · exact ⟨_, last (.head _), (Clock.due_iff _).mpr due⟩
  · exact ⟨_, last (.tail _ (.head _)), (Clock.due_iff _).mpr due⟩
  · exact ⟨_, last (.tail _ (.tail _ (.head _))), (Clock.due_iff _).mpr due⟩
  · exact ⟨_, last (.tail _ (.tail _ (.tail _ (.head _)))), by simp [Clock.due, due]⟩
  · exact due.elim

/-- A clock that has reached its time makes the expiry due that it names. -/
theorem State.due_of_clock {s : State} {c : Clock} (mem : c ∈ s.clocks) (due : c.due = true) : s.due c.expiry := by
  have time := (Clock.due_iff c).mp due
  simp only [State.clocks, List.mem_append, State.graceClocks, State.coolOffClocks, State.cleanRunClocks, List.mem_map]
    at mem
  obtain (((path | ⟨ch, -, rfl⟩) | ⟨ch, -, rfl⟩) | ⟨ch, -, rfl⟩) | last := mem
  · simp only [State.pathClocks, List.mem_cons, List.not_mem_nil, or_false] at path
    obtain rfl | rfl | rfl | rfl | rfl | rfl := path <;> exact time
  · exact time
  · exact time
  · exact time
  · simp only [State.lastClocks, List.mem_cons, List.not_mem_nil, or_false] at last
    obtain rfl | rfl | rfl | rfl := last
    · exact time
    · exact time
    · exact time
    · by_contra still
      have stopped : ¬s.line.wake = .driving := still
      simp [Clock.due, stopped] at due

theorem State.tick_due {s : State} (some : ∃ i, s.due i) : ∃ i, s.due i ∧ s.tick = { s with pending := [i] } := by
  obtain ⟨i, due⟩ := some
  obtain ⟨c, mem, ripe⟩ := State.clock_of_due due
  obtain ⟨first, found⟩ := Option.isSome_iff_exists.mp (List.find?_isSome.mpr ⟨c, mem, ripe⟩)
  refine ⟨first.expiry, State.due_of_clock (List.mem_of_find?_eq_some found) (List.find?_some found), ?_⟩
  simp [State.tick, State.dueExpiry, found]

theorem State.tick_advance {s : State} (none : ∀ i, ¬s.due i) : s.tick = s.advance := by
  have nothing : s.clocks.find? Clock.due = Option.none :=
    List.find?_eq_none.mpr fun c mem ripe => none _ (State.due_of_clock mem ripe)
  simp [State.tick, State.dueExpiry, nothing]

theorem step_of_empty {s : State} (empty : s.pending = []) : step s = .next s.tick := by
  unfold step
  rw [empty]

/-- The timers of each channel advance with the others (log 1). -/
theorem Drives.mapAll_advance_get (d : Drives) (t : Timer) (c : Channel) :
    ({ d.mapAll fun _ r => r.advance with flapTimer := t } : Drives).get c = (d.get c).advance := by
  cases c with
  | gate g => simp [Drives.get, Drives.mapAll]
  | _ => rfl

/-- Settles O1. -/
theorem stepRunsFrontCommand : Obligations.StepRunsFrontCommand := by
  refine ⟨fun _ _ _ => rfl, fun s empty => ⟨fun some => ?_, fun none => ?_⟩⟩
  · obtain ⟨i, due, ticked⟩ := State.tick_due some
    exact ⟨i, due, (step_of_empty empty).trans (congrArg _ ticked)⟩
  · exact ⟨s.advance.drives, (step_of_empty empty).trans (congrArg _ (State.tick_advance none)), rfl,
      s.drives.mapAll_advance_get _⟩

-- A notice raised (O6)

theorem State.raise_sameNoticesBut (s : State) (d : NoticeDetail) : s.sameNoticesBut [d.kind] (s.raise d) :=
  fun _ other => s.raise_notices_other d (by simpa using other)

/-- Settles O6. -/
theorem noticeRaised : Obligations.NoticeRaised := by
  intro s d
  refine ⟨?_, s.raise_sameNoticesBut d, rfl⟩
  simp [State.raise, NoticeRecord.raised]

end Machine
end Sys2Proof
end

section
/-! PROOF. What an operation may write: the parts of the state, and one lemma for each operation of the model that names the
parts it may write; every other part stays as it was. -/
set_option Elab.async false
namespace Sys2Proof
namespace Machine

/-- The parts of the state that the statements speak of separately. -/
inductive Part where
  | cfg | started | rest | doze | answers | restartPending
  | notice (k : NoticeKind)
  | belt | map | bins | used | binStates
  | member | gates | dutyReports
  | queue | lineBody
  | tagCounter | entry | hold | transfer | cleared | givenUp | claims | window | entryTimer
  | eyes | program | scanRecord | supply | filter | reader
  | cache | lookup | access
  | entryDrive | holdDrive | flapDrive | gateDrives
  | heat | undecided | history | idleTimer | tally
  | pending | draws

/-- The items of the session that a credit, a loss and a close write. -/
structure Tally where
  state : SessionState
  lines : List TallyLine
  total : Nat
  count : Nat
  pending : Nat
  reason : Option CloseReason
  number : Option Nat
  sequence : Nat

/-- What a part holds. -/
@[reducible] def Part.Value : Part → Type
  | .cfg => Configuration × Bool × Option Word16
  | .started | .restartPending | .dutyReports | .cleared | .undecided => Bool
  | .rest => RestLevel
  | .doze => Timer × Bool
  | .answers => Answer × Answer
  | .notice _ => NoticeRecord
  | .belt => Belt
  | .map => Vector Entry 256
  | .bins => Vector BinRecord 9
  | .used => BinNo → Option Nat
  | .binStates => BinNo → BinState
  | .member => Membership
  | .gates => Vector (Option GateInterval) 8
  | .queue => List QueuedFrame
  | .lineBody => Line
  | .tagCounter => Tag
  | .entry | .transfer => Option Container
  | .hold => List Container
  | .givenUp => List Cleat
  | .claims => List (Cleat × ClaimRole)
  | .window => Bool × Timer
  | .entryTimer | .idleTimer => Timer
  | .eyes => Eyes
  | .program => Program
  | .scanRecord => Option ScanRecord × Bool
  | .supply => SupplyCondition × ReferenceState × Option Nat × Option Nat
  | .filter => Bool × Timer
  | .reader => Reader
  | .cache => Vector CacheSet 64
  | .lookup => Lookup × Timer × Option (Code × Tag)
  | .access => Option HostAccess × Timer
  | .entryDrive | .holdDrive => ChannelRecord
  | .flapDrive => ChannelRecord × Timer
  | .gateDrives => Vector ChannelRecord 8
  | .heat => HeatStage
  | .history => List Voucher
  | .tally => Tally
  | .pending => List Instr
  | .draws => Nat

/-- A part of a state. -/
def State.part (s : State) : (p : Part) → p.Value
  | .cfg => (s.host.cfg, s.host.configured, s.ownDigest)
  | .started => s.host.started
  | .rest => s.host.rest
  | .doze => (s.host.dozeTimer, s.host.offered)
  | .answers => (s.host.answer, s.host.shifted)
  | .restartPending => s.host.restartPending
  | .notice k => s.notices[k.index]
  | .belt => s.belt
  | .map => s.map
  | .bins => s.bins
  | .used => fun b => s.bins[b].used
  | .binStates => fun b => s.bins[b].state
  | .member => s.member
  | .gates => s.gates
  | .dutyReports => s.dutyReports
  | .queue => s.line.queue
  | .lineBody => { s.line with queue := [] }
  | .tagCounter => s.path.tagCounter
  | .entry => s.path.entry
  | .hold => s.path.hold
  | .transfer => s.path.transfer
  | .cleared => s.path.cleared
  | .givenUp => s.path.givenUp
  | .claims => s.path.claims
  | .window => (s.path.window, s.path.readTimer)
  | .entryTimer => s.path.entryTimer
  | .eyes => s.eyes
  | .program => s.scan.program
  | .scanRecord => (s.scan.record, s.scan.overrunPending)
  | .supply => (s.scan.supply, s.scan.reference, s.scan.lastSupply, s.scan.lastReference)
  | .filter => (s.scan.filtered, s.scan.gap)
  | .reader => s.reader
  | .cache => s.article.cache
  | .lookup => (s.article.lookup, s.article.queryTimer, s.article.waiting)
  | .access => (s.article.access, s.article.busyTimer)
  | .entryDrive => s.drives.entry
  | .holdDrive => s.drives.hold
  | .flapDrive => (s.drives.flap, s.drives.flapTimer)
  | .gateDrives => s.drives.gates
  | .heat => s.heat
  | .undecided => s.session.undecided
  | .history => s.session.history
  | .idleTimer => s.session.idleTimer
  | .tally =>
    { state := s.session.state, lines := s.session.lines, total := s.session.total, count := s.session.count
      pending := s.session.pending, reason := s.session.reason, number := s.session.number
      sequence := s.session.sequence }
  | .pending => s.pending
  | .draws => s.draws

/-- `t` differs from `s` in the named parts at most. -/
def Changes (parts : List Part) (s t : State) : Prop := ∀ p, p ∉ parts → t.part p = s.part p

namespace Changes

theorem refl (parts : List Part) (s : State) : Changes parts s s := fun _ _ => rfl

theorem trans {ps : List Part} {s t u : State} (a : Changes ps s t) (b : Changes ps t u) : Changes ps s u :=
  fun p out => (b p out).trans (a p out)

/-- Fewer parts written are written in a longer list. -/
theorem within {ps qs : List Part} {s t : State} (h : Changes ps s t)
    (sub : ∀ p ∈ ps, p ∈ qs := by simp [NoticeDetail.kind]) : Changes qs s t :=
  fun p out => h p fun mem => out (sub p mem)

/-- One operation after another, with a list that names what both may write. -/
theorem andThen {ps qs rs : List Part} {s t u : State} (a : Changes ps s t) (b : Changes qs t u)
    (left : ∀ p ∈ ps, p ∈ rs := by simp [NoticeDetail.kind])
    (right : ∀ p ∈ qs, p ∈ rs := by simp [NoticeDetail.kind]) :
    Changes rs s u := (a.within left).trans (b.within right)

theorem ite {ps : List Part} {s t u : State} {c : Prop} [Decidable c] (a : c → Changes ps s t)
    (b : ¬c → Changes ps s u) : Changes ps s (if c then t else u) := by
  split
  · exact a ‹_›
  · exact b ‹_›

theorem foldl {α : Type} {ps : List Part} (f : State → α → State) (h : ∀ s a, Changes ps s (f s a)) (l : List α)
    (s : State) : Changes ps s (l.foldl f s) := by
  induction l generalizing s with
  | nil => exact refl ps s
  | cons a l ih => exact (h s a).trans (ih _)

/-- A part outside the list stays as it was. -/
theorem keeps {ps : List Part} {s t : State} (h : Changes ps s t) (p : Part)
    (out : p ∉ ps := by simp [NoticeDetail.kind]) : t.part p = s.part p := h p out

end Changes

-- Whole blocks from their parts

/-- The parts of the path. -/
@[simp] def pathParts : List Part :=
  [.tagCounter, .entry, .hold, .transfer, .cleared, .givenUp, .claims, .window, .entryTimer]

/-- The parts of the drives. -/
@[simp] def driveParts : List Part := [.entryDrive, .holdDrive, .flapDrive, .gateDrives]

/-- The parts of the Scan Unit. -/
@[simp] def scanParts : List Part := [.program, .scanRecord, .supply, .filter]

/-- The parts of the Article Unit. -/
@[simp] def articleParts : List Part := [.cache, .lookup, .access]

/-- The parts of the session. -/
@[simp] def sessionParts : List Part := [.undecided, .history, .idleTimer, .tally]

/-- The parts of the Host Port but for the configuration. -/
@[simp] def portParts : List Part := [.started, .rest, .doze, .answers, .restartPending]

/-- The notices. -/
@[simp] def noticeParts : List Part := allNoticeKinds.map .notice

namespace Changes

variable {ps : List Part} {s t : State}

theorem path (h : Changes ps s t) (out : ∀ p ∈ pathParts, p ∉ ps := by simp [NoticeDetail.kind]) :
    t.path = s.path := by
  simp only [pathParts, List.forall_mem_cons] at out
  obtain ⟨tag, entry, hold, transfer, cleared, givenUp, claims, window, entryTimer, _⟩ := out
  have parts (s : State) : s.path = {
      tagCounter := s.part .tagCounter, entry := s.part .entry, hold := s.part .hold, transfer := s.part .transfer
      cleared := s.part .cleared, givenUp := s.part .givenUp, claims := s.part .claims
      window := (s.part .window).1, readTimer := (s.part .window).2, entryTimer := s.part .entryTimer } := rfl
  rw [parts t, parts s, h _ tag, h _ entry, h _ hold, h _ transfer, h _ cleared, h _ givenUp, h _ claims, h _ window,
    h _ entryTimer]

theorem drives (h : Changes ps s t) (out : ∀ p ∈ driveParts, p ∉ ps := by simp [NoticeDetail.kind]) :
    t.drives = s.drives := by
  simp only [driveParts, List.forall_mem_cons] at out
  obtain ⟨entry, hold, flap, gates, _⟩ := out
  have parts (s : State) : s.drives = {
      entry := s.part .entryDrive, hold := s.part .holdDrive, flap := (s.part .flapDrive).1
      flapTimer := (s.part .flapDrive).2, gates := s.part .gateDrives } := rfl
  rw [parts t, parts s, h _ entry, h _ hold, h _ flap, h _ gates]

theorem scan (h : Changes ps s t) (out : ∀ p ∈ scanParts, p ∉ ps := by simp [NoticeDetail.kind]) :
    t.scan = s.scan := by
  simp only [scanParts, List.forall_mem_cons] at out
  obtain ⟨program, record, supply, filter, _⟩ := out
  have parts (s : State) : s.scan = {
      program := s.part .program, record := (s.part .scanRecord).1, overrunPending := (s.part .scanRecord).2
      supply := (s.part .supply).1, reference := (s.part .supply).2.1, lastSupply := (s.part .supply).2.2.1
      lastReference := (s.part .supply).2.2.2, filtered := (s.part .filter).1, gap := (s.part .filter).2 } := rfl
  rw [parts t, parts s, h _ program, h _ record, h _ supply, h _ filter]

theorem article (h : Changes ps s t) (out : ∀ p ∈ articleParts, p ∉ ps := by simp [NoticeDetail.kind]) :
    t.article = s.article := by
  simp only [articleParts, List.forall_mem_cons] at out
  obtain ⟨cache, lookup, access, _⟩ := out
  have parts (s : State) : s.article = {
      cache := s.part .cache, lookup := (s.part .lookup).1, queryTimer := (s.part .lookup).2.1
      waiting := (s.part .lookup).2.2, access := (s.part .access).1, busyTimer := (s.part .access).2 } := rfl
  rw [parts t, parts s, h _ cache, h _ lookup, h _ access]

theorem session (h : Changes ps s t) (out : ∀ p ∈ sessionParts, p ∉ ps := by simp [NoticeDetail.kind]) :
    t.session = s.session := by
  simp only [sessionParts, List.forall_mem_cons] at out
  obtain ⟨undecided, history, idleTimer, tally, _⟩ := out
  have parts (s : State) : s.session = {
      undecided := s.part .undecided, history := s.part .history, idleTimer := s.part .idleTimer
      state := (s.part .tally).state, lines := (s.part .tally).lines, total := (s.part .tally).total
      count := (s.part .tally).count, pending := (s.part .tally).pending, reason := (s.part .tally).reason
      number := (s.part .tally).number, sequence := (s.part .tally).sequence } := rfl
  rw [parts t, parts s, h _ undecided, h _ history, h _ idleTimer, h _ tally]

/-- But for its queue the Line Controller stays as it was. -/
theorem lineBody (h : Changes ps s t) (out : .lineBody ∉ ps := by simp [NoticeDetail.kind]) :
    t.line = { s.line with queue := t.line.queue } := by
  have parts (s : State) : s.line = { (s.part .lineBody : Line) with queue := s.line.queue } := rfl
  rw [parts t, h _ out]
  rfl

theorem line (h : Changes ps s t) (body : .lineBody ∉ ps := by simp [NoticeDetail.kind])
    (queue : .queue ∉ ps := by simp [NoticeDetail.kind]) : t.line = s.line := by
  have same : t.line.queue = s.line.queue := h _ queue
  rw [h.lineBody body, same]

theorem host (h : Changes ps s t) (cfg : .cfg ∉ ps := by simp [NoticeDetail.kind])
    (out : ∀ p ∈ portParts, p ∉ ps := by simp [NoticeDetail.kind]) : t.host = s.host := by
  simp only [portParts, List.forall_mem_cons] at out
  obtain ⟨started, rest, doze, answers, restartPending, _⟩ := out
  have parts (s : State) : s.host = {
      cfg := (s.part .cfg).1, configured := (s.part .cfg).2.1, started := s.part .started, rest := s.part .rest
      dozeTimer := (s.part .doze).1, offered := (s.part .doze).2, answer := (s.part .answers).1
      shifted := (s.part .answers).2, restartPending := s.part .restartPending } := rfl
  rw [parts t, parts s, h _ cfg, h _ started, h _ rest, h _ doze, h _ answers, h _ restartPending]

theorem config (h : Changes ps s t) (out : .cfg ∉ ps := by simp [NoticeDetail.kind]) :
    t.host.cfg = s.host.cfg := congrArg Prod.fst (h _ out)

/-- Of the notices only the listed ones are changed. -/
theorem sameNoticesBut (h : Changes ps s t) (kinds : List NoticeKind)
    (out : ∀ k, k ∉ kinds → .notice k ∉ ps := by simp +contextual [NoticeDetail.kind]) : s.sameNoticesBut kinds t :=
  fun k other => h _ (out k other)

theorem notices (h : Changes ps s t) (out : ∀ k, .notice k ∉ ps := by simp [NoticeDetail.kind]) :
    t.notices = s.notices := by
  refine Vector.ext fun i lt => ?_
  have place : ∀ k : Fin 22, ∃ n : NoticeKind, n.index = k := fun k => ⟨noticeKindAt k, by revert k; decide⟩
  obtain ⟨n, at'⟩ := place ⟨i, lt⟩
  obtain rfl : n.index.val = i := congrArg Fin.val at'
  exact h _ (out n)

end Changes

-- The blocks that every operation uses

theorem State.raise_changes (s : State) (d : NoticeDetail) {k : NoticeKind} (kind : d.kind = k := by rfl) :
    Changes [.notice k] s (s.raise d) := by
  subst kind
  intro p out
  cases p with
  | notice k =>
    have other : k ≠ d.kind := by simpa using out
    exact s.raise_notices_other d other
  | _ => rfl

theorem State.raiseLineFault_changes (s : State) (f : LineFault) :
    Changes [.notice .lineFault] s (s.raiseLineFault f) := s.raise_changes _

theorem State.setEntry_changes (s : State) (x : Cleat) (e : Entry) : Changes [.map] s (s.setEntry x e) := by
  intro p out
  cases p with
  | map => simp at out
  | _ => rfl

theorem State.pruneClaims_changes (s : State) : Changes [.claims, .givenUp] s s.pruneClaims := by
  intro p out
  cases p with
  | claims | givenUp => simp at out
  | _ => rfl

theorem State.changeEntry_changes (s : State) (x : Cleat) (e : Entry) :
    Changes [.map, .claims, .givenUp] s (s.changeEntry x e) :=
  (s.setEntry_changes x e).andThen (State.pruneClaims_changes _)

/-- The claims in a role are replaced. -/
theorem Changes.claims (s : State) (l : List (Cleat × ClaimRole)) :
    Changes [.claims] s { s with path := { s.path with claims := l } } := by
  intro p out
  cases p with
  | claims => simp at out
  | _ => rfl

theorem State.setRole_changes (s : State) (x : Cleat) (r : ClaimRole) : Changes [.claims] s (s.setRole x r) :=
  .ite (fun _ => .claims s _) fun _ => .refl _ s

theorem State.enterGivenUp_changes (s : State) (x : Cleat) : Changes [.givenUp] s (s.enterGivenUp x) := by
  unfold State.enterGivenUp
  refine .ite (fun _ p out => ?_) fun _ => .refl _ s
  cases p with
  | givenUp => simp at out
  | _ => rfl

/-- The Bin Table is replaced. -/
theorem Changes.bins (s : State) (b : Vector BinRecord 9) :
    Changes [.bins, .used, .binStates] s { s with bins := b } := by
  intro p out
  cases p with
  | bins | used | binStates => simp at out
  | _ => rfl

theorem State.setBin_bins (s : State) (b : BinNo) (r : BinRecord) (c : BinNo) :
    (s.setBin b r).bins[c] = if c = b ∧ b ≠ 0 then r else s.bins[c] := by
  unfold State.setBin
  by_cases zero : b = 0
  · simp [zero]
  · have pos : ¬b.val = 0 := fun h => zero (Fin.ext h)
    simp only [pos, if_false, zero, ne_eq, not_false_eq_true, and_true]
    by_cases same : c = b
    · simp [same]
    · have apart : ¬b.val = c.val := fun h => same (Fin.ext h.symm)
      simp [same, apart]

/-- A record with the same state is set. -/
theorem State.setBin_changes_used (s : State) (b : BinNo) (r : BinRecord) (same : r.state = s.bins[b].state) :
    Changes [.bins, .used] s (s.setBin b r) := by
  intro p out
  cases p with
  | bins | used => simp at out
  | binStates =>
    funext c
    simp only [State.part, s.setBin_bins b r c]
    split
    · rename_i at'
      rw [same, at'.1]
    · rfl
  | _ => simp only [State.part, State.setBin]; split <;> rfl

/-- A record with the same used count is set. -/
theorem State.setBin_changes_state (s : State) (b : BinNo) (r : BinRecord) (same : r.used = s.bins[b].used) :
    Changes [.bins, .binStates] s (s.setBin b r) := by
  intro p out
  cases p with
  | bins | binStates => simp at out
  | used =>
    funext c
    simp only [State.part, s.setBin_bins b r c]
    split
    · rename_i at'
      rw [same, at'.1]
    · rfl
  | _ => simp only [State.part, State.setBin]; split <;> rfl

/-- A record with the same used count and state is set. -/
theorem State.setBin_changes (s : State) (b : BinNo) (r : BinRecord) (used : r.used = s.bins[b].used)
    (state : r.state = s.bins[b].state) : Changes [.bins] s (s.setBin b r) := by
  intro p out
  cases p with
  | bins => simp at out
  | used => exact s.setBin_changes_state b r used _ (by simp)
  | binStates => exact s.setBin_changes_used b r state _ (by simp)
  | _ => simp only [State.part, State.setBin]; split <;> rfl

theorem State.checkCount_changes (s : State) (k : FrameKind) (n : Nat) (b : BinNo) (u : Nat) :
    Changes [.notice .countMismatch] s (s.checkCount k n b u) := by
  unfold State.checkCount
  split
  · split
    · exact .ite (fun _ => .refl _ s) fun _ => s.raise_changes _
    · exact .refl _ s
  · exact .refl _ s

theorem State.adopt_changes (s : State) (k : FrameKind) (n : Nat) (b : BinNo) (u : Word16) :
    Changes [.notice .countMismatch, .bins, .used] s (s.adopt k n b u) := by
  unfold State.adopt
  split
  · exact .refl _ s
  · exact .ite (fun _ => .refl _ s) fun _ =>
      (s.checkCount_changes _ _ _ _).andThen (State.setBin_changes_used _ _ _ rfl)

theorem State.reportBin_changes (before : Vector BinRecord 9) (s : State) (b : BinNo) :
    Changes [.notice .binChange, .bins] s (s.reportBin before b) :=
  .ite (fun _ => (s.raise_changes _).andThen (State.setBin_changes _ _ _ rfl rfl)) fun _ => .refl _ s

theorem State.reportBins_changes (before : Vector BinRecord 9) (s : State) :
    Changes [.notice .binChange, .bins] s (s.reportBins before) :=
  .foldl _ (fun s b => s.reportBin_changes before b) _ s

theorem State.setQueue_changes (s : State) (q : List QueuedFrame) : Changes [.queue] s (s.setQueue q) := by
  intro p out
  cases p with
  | queue => simp at out
  | _ => rfl

theorem State.replacePayload_changes (s : State) (f : Frame) : Changes [.queue] s (s.replacePayload f) :=
  s.setQueue_changes _

theorem State.enqueue_changes (s : State) (f : Frame) : Changes [.queue] s (s.enqueue f).1 := by
  simp only [State.enqueue]
  split
  · split
    · exact s.replacePayload_changes _
    · exact .refl _ s
  · split
    · exact .refl _ s
    · exact s.setQueue_changes _

theorem State.queueFrame_changes (s : State) (f : Frame) :
    Changes [.queue, .notice .lineFault] s (s.queueFrame f) := by
  have taken := s.enqueue_changes f
  unfold State.queueFrame
  generalize s.enqueue f = r at taken
  obtain ⟨t, outcome⟩ := r
  cases outcome with
  | full =>
    simp only
    split
    · exact taken.within
    · exact taken.within
    · exact taken.andThen (t.raiseLineFault_changes _)
  | _ => exact taken.within

theorem State.withdraw_changes (s : State) (p : Frame → Bool) : Changes [.queue] s (s.withdraw p) :=
  s.setQueue_changes _
theorem State.markNoRetry_changes (s : State) (p : Frame → Bool) : Changes [.queue] s (s.markNoRetry p) :=
  s.setQueue_changes _
theorem State.removeInFlight_changes (s : State) : Changes [.queue] s s.removeInFlight := s.setQueue_changes _
theorem State.mapInFlight_changes (s : State) (f : QueuedFrame → QueuedFrame) :
    Changes [.queue] s (s.mapInFlight f) := s.setQueue_changes _

theorem State.mapHead_changes (s : State) (f : Container → Container) : Changes [.hold] s (s.mapHead f) := by
  unfold State.mapHead
  split
  · exact .refl _ s
  · intro p out
    cases p with
    | hold => simp at out
    | _ => rfl

theorem State.dropClaim_changes (s : State) (x : Cleat) : Changes [.hold] s (s.dropClaim x) := s.mapHead_changes _

/-- The membership record is replaced. -/
theorem Changes.member (s : State) (m : Membership) : Changes [.member] s { s with member := m } := by
  intro p out
  cases p with
  | member => simp at out
  | _ => rfl

theorem State.frameDropped_changes (s : State) (f : Frame) : Changes [.hold, .member] s (s.frameDropped f) := by
  unfold State.frameDropped
  split
  · exact (s.dropClaim_changes _).within
  · exact .ite (fun _ => (Changes.member s _).within) fun _ => .refl _ s
  · exact .refl _ s

theorem State.failAttempt_changes (s : State) :
    Changes [.queue, .notice .lineFault, .hold, .member] s s.failAttempt := by
  unfold State.failAttempt
  split
  · exact .refl _ s
  · refine .ite (fun _ => s.removeInFlight_changes.within) fun _ => .ite (fun _ => (s.mapInFlight_changes _).within) ?_
    exact fun _ => ((s.removeInFlight_changes.andThen (State.raiseLineFault_changes _ _)
      (rs := [.queue, .notice .lineFault])).andThen (State.frameDropped_changes _ _))

/-- The Line Controller is changed but for its queue. -/
theorem Changes.body (s : State) (l : Line) (same : l.queue = s.line.queue) :
    Changes [.lineBody] s { s with line := l } := by
  intro p out
  cases p with
  | lineBody => simp at out
  | queue => exact same
  | _ => rfl

theorem State.mapLine_changes (s : State) (f : Line → Line) (same : (f s.line).queue = s.line.queue) :
    Changes [.lineBody] s (s.mapLine f) := .body s _ same

theorem State.measureCurrent_changes (s : State) (c : LineCurrent) : Changes [.lineBody] s (s.measureCurrent c) :=
  .body s _ rfl
theorem State.driveSlot_changes (s : State) (d : SlotDrive) : Changes [.lineBody] s (s.driveSlot d) := .body s _ rfl
theorem State.countEcho_changes (s : State) (e : Bool) : Changes [.lineBody] s (s.countEcho e) := .body s _ rfl
theorem State.endAlone_changes (s : State) : Changes [.lineBody] s s.endAlone := .body s _ rfl

-- The drives

/-- The part that holds a channel. -/
@[simp] def channelPart : Channel → Part
  | .entry => .entryDrive
  | .hold => .holdDrive
  | .flap => .flapDrive
  | .gate _ => .gateDrives

/-- The drives are replaced. -/
theorem Changes.allDrives (s : State) (d : Drives) : Changes driveParts s { s with drives := d } := by
  intro p out
  cases p with
  | entryDrive | holdDrive | flapDrive | gateDrives => simp at out
  | _ => rfl

theorem State.mapChannel_changes (s : State) (c : Channel) (f : ChannelRecord → ChannelRecord) :
    Changes [channelPart c] s (s.mapChannel c f) := by
  intro p out
  cases c with
  | entry =>
    cases p with
    | entryDrive => simp at out
    | _ => rfl
  | hold =>
    cases p with
    | holdDrive => simp at out
    | _ => rfl
  | flap =>
    cases p with
    | flapDrive => simp at out
    | _ => rfl
  | gate =>
    cases p with
    | gateDrives => simp at out
    | _ => rfl

theorem State.requestEntry_changes (s : State) (d : Direction) : Changes [.entryDrive] s (s.requestEntry d) :=
  s.mapChannel_changes .entry _
theorem State.stopEntry_changes (s : State) : Changes [.entryDrive] s s.stopEntry := s.mapChannel_changes .entry _
theorem State.settleHold_changes (s : State) : Changes [.holdDrive] s s.settleHold := s.mapChannel_changes .hold _

/-- The FlapTime timer is set. -/
theorem Changes.flapTimer (s : State) (n : Timer) :
    Changes [.flapDrive] s { s with drives := { s.drives with flapTimer := n } } := by
  intro p out
  cases p with
  | flapDrive => simp at out
  | _ => rfl

theorem State.pulseFlap_changes (s : State) : Changes [.flapDrive] s s.pulseFlap :=
  .ite (fun _ => (s.mapChannel_changes .flap _).trans (Changes.flapTimer _ _)) fun _ => .refl _ s

theorem State.raiseDriveFault_changes (s : State) (c : Channel) :
    Changes [.notice .driveFault] s (s.raiseDriveFault c) := by
  unfold State.raiseDriveFault
  simp only
  split
  · exact s.raise_changes _
  · exact .refl _ s

theorem State.faultChannel_changes (s : State) (c : Channel) :
    Changes [channelPart c, .flapDrive, .notice .driveFault] s (s.faultChannel c) := by
  have stopped (n : Timer) :=
    (s.mapChannel_changes c fun r => r.fault (s.driveSetting c) (c == .flap)).andThen (Changes.flapTimer _ n)
      (rs := [channelPart c, .flapDrive, .notice .driveFault])
  exact .ite (fun _ => (stopped _).trans (State.raiseDriveFault_changes _ c).within) fun _ => stopped _

theorem State.applyCut_changes (s : State) (held : Bool) : Changes driveParts s (s.applyCut held) :=
  .ite (fun _ => .allDrives s _) fun _ => .ite (fun _ => .allDrives s _) fun _ => .refl _ s

theorem State.resetDrives_changes (s : State) (d : Drives) : Changes driveParts s (s.resetDrives d) := .allDrives s _

-- The session

/-- What the end of a close writes. -/
@[simp] def closeParts : List Part := [.tally, .idleTimer, .notice .sessionClosed, .notice .vouchersExhausted]

/-- A change of the session that keeps the undecided mark and the history. -/
theorem State.mapSession_changes (s : State) (f : Session → Session)
    (undecided : (f s.session).undecided = s.session.undecided) (history : (f s.session).history = s.session.history) :
    Changes [.tally, .idleTimer] s (s.mapSession f) := by
  intro p out
  cases p with
  | tally | idleTimer => simp at out
  | undecided => exact undecided
  | history => exact history
  | _ => rfl

theorem State.assignNumber_changes (s : State) : Changes closeParts s s.assignNumber := by
  have closed (d : NoticeDetail) (kind : d.kind = .sessionClosed) := (s.mapSession_changes (fun n => { n with
    state := .closed, number := some (s.voucherNumber s.session.sequence), sequence := n.sequence + 1 }) rfl rfl).andThen
    (State.raise_changes _ d kind) (rs := closeParts)
  exact .ite (fun _ => (closed _ rfl).trans (State.raise_changes _ _ (k := .vouchersExhausted)).within) fun _ =>
    closed _ rfl

theorem State.endClose_changes (s : State) : Changes closeParts s s.endClose :=
  .ite (fun _ => .ite (fun _ => s.assignNumber_changes) fun _ => (s.mapSession_changes _ rfl rfl).within) fun _ =>
    .refl _ s

theorem State.beginClose_changes (s : State) (r : CloseReason) : Changes closeParts s (s.beginClose r) :=
  (s.mapSession_changes _ rfl rfl).andThen (State.endClose_changes _)

theorem State.credit_changes (s : State) (code : Code) (value : Nat) : Changes closeParts s (s.credit code value) := by
  refine (s.mapSession_changes _ ?_ ?_).andThen (State.endClose_changes _)
  all_goals simp only [Session.credited]; split <;> rfl

theorem State.losePending_changes (s : State) : Changes closeParts s s.losePending :=
  (s.mapSession_changes _ rfl rfl).andThen (State.endClose_changes _)

/-- The undecided mark is set. -/
theorem Changes.undecided (s : State) (b : Bool) :
    Changes [.undecided] s (s.mapSession fun n => { n with undecided := b }) := by
  intro p out
  cases p with
  | undecided => simp at out
  | _ => rfl

theorem State.setUndecided_changes (s : State) : Changes [.undecided] s s.setUndecided := .undecided s _

theorem State.clearUndecided_changes (s : State) : Changes (.undecided :: closeParts) s s.clearUndecided :=
  (Changes.undecided s _).andThen (State.endClose_changes _)

theorem State.apertureEvent_changes (s : State) : Changes [.idleTimer] s s.apertureEvent := by
  intro p out
  unfold State.apertureEvent State.mapSession
  cases p with
  | idleTimer => simp at out
  | tally | undecided | history => simp only [State.part]; split <;> rfl
  | _ => rfl

theorem State.restartSession_changes (s : State) : Changes (.undecided :: closeParts) s s.restartSession := by
  have settled (t : State) (n : Session) (history : n.history = t.session.history) :
      Changes [.undecided, .tally, .idleTimer] t { t with session := n } := by
    intro p out
    cases p with
    | undecided | tally | idleTimer => simp at out
    | history => exact history
    | _ => rfl
  unfold State.restartSession
  split
  · exact (settled s _ (by rfl)).within
  · exact (settled s _ (by rfl)).within
  · exact (settled s _ (by rfl)).andThen (State.beginClose_changes _ _)
  · exact (settled s _ (by rfl)).andThen (State.beginClose_changes _ _)

/-- The doze timer and the offered mark are set. -/
theorem Changes.doze (s : State) (n : Timer) (b : Bool) :
    Changes [.doze] s { s with host := { s.host with dozeTimer := n, offered := b } } := by
  intro p out
  cases p with
  | doze => simp at out
  | _ => rfl

theorem State.testDoze_changes (s : State) : Changes [.doze] s s.testDoze :=
  .ite (fun _ => .ite (fun _ => .doze s _ _) fun _ => .refl _ s) fun _ => .doze s _ _

end Machine
end Sys2Proof
end

section
/-! PROOF. What an operation may write: the path, the article and the scan, the membership and the rest levels. -/
set_option Elab.async false
namespace Sys2Proof
namespace Machine

-- The path (06)

/-- What a jam of the entry zone writes. -/
@[simp] def jamParts : List Part :=
  [.entry, .entryTimer, .window, .entryDrive, .undecided, .notice .jam] ++ closeParts

/-- What a decision on the record of the entry zone writes. -/
@[simp] def decisionParts : List Part := .scanRecord :: jamParts

/-- What a lookup writes, where it decides at once. -/
@[simp] def lookupParts : List Part := .cache :: .lookup :: decisionParts

/-- What the taking of a container writes. -/
@[simp] def startParts : List Part := .tagCounter :: .program :: decisionParts

/-- The record of the entry zone is replaced. -/
theorem State.setEntryRecord_changes (s : State) (c : Container) : Changes [.entry] s (s.setEntryRecord c) := by
  intro p out
  cases p with
  | entry => simp at out
  | _ => rfl

/-- EntryTime is set. -/
theorem Changes.entryTimer (s : State) (n : Timer) :
    Changes [.entryTimer] s (s.mapPath fun p => { p with entryTimer := n }) := by
  intro p out
  cases p with
  | entryTimer => simp at out
  | _ => rfl

theorem State.emptyEntry_changes (s : State) : Changes [.entry, .entryTimer, .window] s s.emptyEntry := by
  intro p out
  cases p with
  | entry | entryTimer | window => simp at out
  | _ => rfl

/-- The program and the held record of the Scan Unit are replaced. -/
theorem Changes.scanProgram (s : State) (g : Program) (r : Option ScanRecord) (o : Bool) :
    Changes [.program, .scanRecord] s { s with
      scan := { s.scan with program := g, record := r, overrunPending := o } } := by
  intro p out
  cases p with
  | program | scanRecord => simp at out
  | _ => rfl

theorem State.dropScan_changes (s : State) : Changes [.scanRecord] s s.dropScan := by
  intro p out
  cases p with
  | scanRecord => simp at out
  | _ => rfl

theorem State.abandonScan_changes (s : State) : Changes [.program, .scanRecord] s s.abandonScan :=
  .scanProgram s _ _ _

theorem State.endReport_changes (s : State) (g : Stage) : Changes (.undecided :: closeParts) s (s.endReport g) :=
  .ite (fun _ => s.losePending_changes.within) fun _ => .ite (fun _ => s.clearUndecided_changes) fun _ => .refl _ s

theorem State.jamEntry_changes (s : State) (c : Container) (j : JamCause) (d : Option Channel) :
    Changes jamParts s (s.jamEntry c j d) :=
  (((s.emptyEntry_changes.andThen (State.stopEntry_changes _) (rs := jamParts)).andThen
    (State.setEntryRecord_changes _ _) (rs := jamParts)).andThen (State.endReport_changes _ _) (rs := jamParts)).andThen
    (State.raise_changes _ _ (k := .jam))

theorem State.checkEntryDrive_changes (s : State) : Changes jamParts s s.checkEntryDrive := by
  unfold State.checkEntryDrive
  split
  · split
    · exact s.jamEntry_changes _ _ _
    · exact .refl _ s
  · exact .refl _ s

theorem State.startMove_changes (s : State) (d : Direction) : Changes jamParts s (s.startMove d) :=
  ((s.requestEntry_changes d).andThen (Changes.entryTimer _ _) (rs := jamParts)).trans (State.checkEntryDrive_changes _)

theorem State.testOffered_changes (s : State) : Changes [.entryDrive, .entry, .entryTimer] s s.testOffered := by
  unfold State.testOffered
  split
  · refine .ite (fun _ => ?_) fun _ => .refl _ s
    exact (s.stopEntry_changes.andThen (State.setEntryRecord_changes _ _) (rs := [.entryDrive, .entry])).andThen
      (Changes.entryTimer _ _)
  · exact .refl _ s

theorem State.reject_changes (s : State) (c : Container) (r : RejectReason) :
    Changes decisionParts s (s.reject c r) :=
  ((((s.emptyEntry_changes.andThen (State.setEntryRecord_changes _ _) (rs := decisionParts)).andThen
    (State.dropScan_changes _) (rs := decisionParts)).andThen (State.clearUndecided_changes _)
    (rs := decisionParts)).andThen (State.startMove_changes _ _) (rs := decisionParts)).andThen
    (State.testOffered_changes _)

theorem State.returnContainer_changes (s : State) (c : Container) :
    Changes [.entryDrive, .entry, .entryTimer, .window, .notice .containerDone] s (s.returnContainer c) :=
  (s.stopEntry_changes.andThen (State.emptyEntry_changes _)
    (rs := [.entryDrive, .entry, .entryTimer, .window, .notice .containerDone])).andThen
    (State.raise_changes _ _ (k := .containerDone))

theorem State.discardEntry_changes (s : State) : Changes jamParts s s.discardEntry :=
  (s.stopEntry_changes.andThen (State.emptyEntry_changes _) (rs := jamParts)).andThen (State.clearUndecided_changes _)

theorem State.startHandover_changes (s : State) : Changes jamParts s s.startHandover := by
  unfold State.startHandover
  split
  · exact .ite (fun _ => s.startMove_changes _) fun _ => .refl _ s
  · exact .refl _ s

theorem Session.accept_kept (n : Session) : n.accept.undecided = n.undecided ∧ n.accept.history = n.history := by
  unfold Session.accept
  split <;> exact ⟨rfl, rfl⟩

theorem State.accept_changes (s : State) (c : Container) (a : Article) : Changes decisionParts s (s.accept c a) :=
  ((((s.emptyEntry_changes.andThen (State.setEntryRecord_changes _ _) (rs := decisionParts)).andThen
    (State.dropScan_changes _) (rs := decisionParts)).andThen
    (State.mapSession_changes _ _ (Session.accept_kept _).1 (Session.accept_kept _).2) (rs := decisionParts)).andThen
    (State.clearUndecided_changes _) (rs := decisionParts)).andThen (State.startHandover_changes _)

/-- The hold queue is replaced. -/
theorem Changes.hold (s : State) (l : Path → List Container) :
    Changes [.hold] s (s.mapPath fun p => { p with hold := l p }) := by
  intro p out
  cases p with
  | hold => simp at out
  | _ => rfl

/-- What the handover to the hold queue writes. -/
@[simp] def joinParts : List Part := [.entryDrive, .entry, .entryTimer, .window, .hold, .holdDrive]

theorem State.joinHold_changes (s : State) (c : Container) : Changes joinParts s (s.joinHold c) :=
  ((s.stopEntry_changes.andThen (State.emptyEntry_changes _) (rs := joinParts)).andThen (Changes.hold _ fun _ => _)
    (rs := joinParts)).andThen (State.settleHold_changes _)

theorem State.decideFor_changes (s : State) (c : Container) (a : Option Article) :
    Changes decisionParts s (s.decideFor c a) := by
  unfold State.decideFor
  split
  · exact s.reject_changes _ _
  · exact s.reject_changes _ _
  · exact s.accept_changes _ _
  · exact .refl _ s

theorem State.fullDecision_changes (s : State) (a : Option Article) : Changes decisionParts s (s.fullDecision a) := by
  unfold State.fullDecision
  split
  · exact .ite (fun _ => s.decideFor_changes _ _) fun _ => .refl _ s
  · exact .refl _ s

-- The lookup (08 R137)

/-- The Article Unit is changed but for the access. -/
theorem Changes.mapArticle (s : State) (f : ArticleUnit → ArticleUnit)
    (access : (f s.article).access = s.article.access) (busy : (f s.article).busyTimer = s.article.busyTimer) :
    Changes [.cache, .lookup] s (s.mapArticle f) := by
  intro p out
  cases p with
  | cache | lookup => simp at out
  | access => exact Prod.ext access busy
  | _ => rfl

/-- The Article Unit is changed but for the cache. -/
theorem Changes.articleWork (s : State) (f : ArticleUnit → ArticleUnit)
    (cache : (f s.article).cache = s.article.cache) : Changes [.lookup, .access] s (s.mapArticle f) := by
  intro p out
  cases p with
  | access | lookup => simp at out
  | cache => exact cache
  | _ => rfl

/-- The Article Unit is changed but for the cache and the access. -/
theorem Changes.lookup (s : State) (f : ArticleUnit → ArticleUnit)
    (cache : (f s.article).cache = s.article.cache) (access : (f s.article).access = s.article.access)
    (busy : (f s.article).busyTimer = s.article.busyTimer) : Changes [.lookup] s (s.mapArticle f) := by
  intro p out
  cases p with
  | lookup => simp at out
  | cache => exact cache
  | access => exact Prod.ext access busy
  | _ => rfl

theorem State.lookupNow_changes (s : State) (code : Code) (tag : Tag) :
    Changes lookupParts s (s.lookupNow code tag) := by
  simp only [State.lookupNow]
  split
  · exact (Changes.mapArticle s _ rfl rfl).andThen (State.fullDecision_changes _ _)
  · exact (Changes.lookup s _ rfl rfl rfl).within

theorem State.requestLookup_changes (s : State) (code : Code) (tag : Tag) :
    Changes lookupParts s (s.requestLookup code tag) := by
  unfold State.requestLookup
  split
  · exact s.lookupNow_changes _ _
  · exact (Changes.lookup s _ rfl rfl rfl).within
  · exact (Changes.lookup s _ rfl rfl rfl).within

theorem State.resumeLookup_changes (s : State) : Changes lookupParts s s.resumeLookup := by
  unfold State.resumeLookup
  split
  · exact s.lookupNow_changes _ _
  · exact .refl _ s

theorem State.classify_changes (s : State) (c : Container) : Changes lookupParts s (s.classify c) := by
  simp only [State.classify]
  split
  · exact (s.setEntryRecord_changes _).andThen (State.reject_changes _ _ _)
  · exact (s.setEntryRecord_changes _).andThen (State.requestLookup_changes _ _ _)
  · exact (s.setEntryRecord_changes _).within

theorem State.testClassify_changes (s : State) : Changes lookupParts s s.testClassify := by
  unfold State.testClassify
  split
  · exact .ite (fun _ => s.classify_changes _) fun _ => .refl _ s
  · exact .refl _ s

/-- The code window and ReadTime are set. -/
theorem Changes.window (s : State) (w : Bool) (n : Timer) :
    Changes [.window] s (s.mapPath fun p => { p with window := w, readTimer := n }) := by
  intro p out
  cases p with
  | window => simp at out
  | _ => rfl

theorem State.closeWindow_changes (s : State) : Changes [.window] s s.closeWindow := .window s _ _

/-- The held record of the Scan Unit is replaced. -/
theorem Changes.scanRecord (s : State) (r : Option ScanRecord) (o : Bool) :
    Changes [.scanRecord] s { s with scan := { s.scan with record := r, overrunPending := o } } := by
  intro p out
  cases p with
  | scanRecord => simp at out
  | _ => rfl

theorem State.trigger_changes (s : State) : Changes [.scanRecord] s s.trigger := by
  unfold State.trigger
  refine .ite (fun _ => .scanRecord s _ _) fun _ => ?_
  split
  · exact .scanRecord s _ _
  · exact .refl _ s

theorem State.requestScan_changes (s : State) : Changes [.program, .scanRecord] s s.requestScan :=
  .ite (fun _ => s.trigger_changes.within) fun _ => .ite (fun _ => .scanProgram s _ _ _) fun _ => .refl _ s

/-- What the entry into SCANNING writes. -/
@[simp] def scanningParts : List Part := [.entryDrive, .entry, .entryTimer, .window, .program, .scanRecord]

theorem State.enterScanning_changes (s : State) (c : Container) : Changes scanningParts s (s.enterScanning c) := by
  have opened (t : State) : Changes scanningParts t
      (t.mapPath fun p => { p with entryTimer := none, window := true, readTimer := some 0 }) := by
    intro p out
    cases p with
    | entryTimer | window => simp at out
    | _ => rfl
  exact ((s.stopEntry_changes.andThen (State.setEntryRecord_changes _ _) (rs := scanningParts)).trans
    (opened _)).andThen (State.requestScan_changes _)

theorem State.scanEyeSeen_changes (s : State) : Changes scanningParts s s.scanEyeSeen := by
  unfold State.scanEyeSeen
  split
  · exact .ite (fun _ => s.enterScanning_changes _) fun _ => .refl _ s
  · exact .refl _ s

theorem State.withdrawLookup_changes (s : State) : Changes [.lookup] s s.withdrawLookup := by
  refine .lookup s _ ?_ ?_ ?_
  all_goals
    unfold ArticleUnit.withdrawLookup
    split <;> rfl

theorem State.pullBack_changes (s : State) (c : Container) :
    Changes (.program :: .lookup :: decisionParts) s (s.pullBack c) := by
  have left := ((s.closeWindow_changes.andThen (State.abandonScan_changes _)
    (rs := .program :: .lookup :: decisionParts)).andThen (State.withdrawLookup_changes _)
    (rs := .program :: .lookup :: decisionParts))
  exact .ite (fun _ => left.trans (State.reject_changes _ _ _).within) fun _ =>
    left.trans (State.discardEntry_changes _).within

/-- The tag counter is replaced. -/
theorem Changes.tagCounter (s : State) (f : Tag → Tag) :
    Changes [.tagCounter] s (s.mapPath fun p => { p with tagCounter := f p.tagCounter }) := by
  intro p out
  cases p with
  | tagCounter => simp at out
  | _ => rfl

/-- A new record has been made, and its move on ENTRY asked for (06 R103). -/
def State.begun (s : State) : State :=
  ((s.setEntryRecord (.entering s.path.tagCounter)).mapPath fun p =>
    { p with tagCounter := p.tagCounter + 1 }).setUndecided.startMove .forward

theorem State.tryStart_eq (s : State) : s.tryStart =
    if s.mayStart then (if s.begun.scan.filtered then s.begun.scanEyeSeen else s.begun) else s := rfl

theorem State.begun_changes (s : State) : Changes (.tagCounter :: jamParts) s s.begun :=
  (((s.setEntryRecord_changes _).andThen (Changes.tagCounter _ (· + 1)) (rs := .tagCounter :: jamParts)).andThen
    (State.setUndecided_changes _) (rs := .tagCounter :: jamParts)).andThen (State.startMove_changes _ _)

theorem State.tryStart_changes (s : State) : Changes startParts s s.tryStart := by
  rw [s.tryStart_eq]
  refine .ite (fun _ => ?_) fun _ => .refl _ s
  exact .ite (fun _ => s.begun_changes.andThen (State.scanEyeSeen_changes _)) fun _ => s.begun_changes.within

-- Membership and rest levels (05, 11)

theorem State.changeMember_changes (s : State) (m : Membership) (c : JoinCause) :
    Changes [.member, .notice .joinState] s (s.changeMember m c) :=
  (Changes.member s m).andThen (State.raise_changes _ _ (k := .joinState))

theorem State.loseTrust_changes (s : State) : Changes [.transfer] s s.loseTrust := by
  intro p out
  cases p with
  | transfer => simp at out
  | _ => rfl

/-- What the way out of OFFLINE writes. -/
@[simp] def listenParts : List Part := [.lineBody, .filter, .reader, .member, .notice .joinState]

theorem State.leaveOffline_changes (s : State) (c : JoinCause) : Changes listenParts s (s.leaveOffline c) := by
  have fresh : Changes listenParts s { s with
      line := s.line.listening, scan := { s.scan with filtered := s.eyes.scan, gap := none }
      reader := { run := .settling, assembly := .idle } } := by
    intro p out
    cases p with
    | lineBody | filter | reader => simp at out
    | _ => rfl
  exact fresh.trans (State.changeMember_changes _ _ _).within

theorem State.enterConflict_changes (s : State) (c : JoinCause) :
    Changes [.queue, .member, .notice .joinState] s (s.enterConflict c) :=
  (s.setQueue_changes _).andThen (State.changeMember_changes _ _ _)

theorem State.reportMiss_changes (s : State) (g : Gate) (x : Cleat) (first : Bool) :
    Changes [.queue, .notice .lineFault] s (s.reportMiss g x first) := by
  refine .ite (fun _ => ?_) fun _ => .refl _ s
  have told : Changes [.queue, .notice .lineFault] s
      (if first then s.queueFrame (.misroute x (gateBin g) 0) else s) :=
    .ite (fun _ => s.queueFrame_changes _) fun _ => .refl _ s
  exact .ite (fun _ => told.trans (State.queueFrame_changes _ _)) fun _ => told

/-- The gate intervals are replaced. -/
theorem Changes.gates (s : State) (v : Vector (Option GateInterval) 8) : Changes [.gates] s { s with gates := v } := by
  intro p out
  cases p with
  | gates => simp at out
  | _ => rfl

/-- What a missed gate writes. -/
@[simp] def missParts : List Part := [.gates, .queue, .notice .lineFault]

theorem State.missGate_changes (s : State) (g : Gate) : Changes missParts s (s.missGate g) := by
  unfold State.missGate
  split
  · exact (Changes.gates s _).andThen (State.reportMiss_changes _ _ _ _)
  · exact .refl _ s

theorem State.checkGateLeft_changes (d : Drives) (s : State) (g : Gate) :
    Changes missParts s (s.checkGateLeft d g) := .ite (fun _ => s.missGate_changes g) fun _ => .refl _ s

/-- What the owners of the channels write. -/
@[simp] def ownerParts : List Part := missParts ++ jamParts

theorem State.tellOwners_changes (d : Drives) (s : State) : Changes ownerParts s (s.tellOwners d) :=
  (Changes.foldl _ (fun s g => s.checkGateLeft_changes d g) _ s).andThen (State.checkEntryDrive_changes _)

theorem State.followCut_changes (before s : State) : Changes (driveParts ++ ownerParts) s (before.followCut s) :=
  (s.applyCut_changes _).andThen (State.tellOwners_changes _ _)

/-- The rest level is replaced. -/
theorem Changes.rest (s : State) (r : RestLevel) : Changes [.rest] s { s with host := { s.host with rest := r } } := by
  intro p out
  cases p with
  | rest => simp at out
  | _ => rfl

/-- The code reader is replaced. -/
theorem Changes.reader (s : State) (r : Reader) : Changes [.reader] s { s with reader := r } := by
  intro p out
  cases p with
  | reader => simp at out
  | _ => rfl

/-- What the return from Doze writes. -/
@[simp] def activeParts : List Part := .rest :: .reader :: .doze :: startParts

theorem State.returnActive_changes (s : State) : Changes activeParts s s.returnActive :=
  (((Changes.rest s .active).andThen (Changes.reader _ _) (rs := activeParts)).andThen (State.tryStart_changes _)
    (rs := activeParts)).andThen (State.testDoze_changes _)

theorem State.enterDoze_changes (s : State) : Changes [.rest, .doze, .reader, .lookup] s s.enterDoze := by
  intro p out
  cases p with
  | rest | doze | reader | lookup => simp at out
  | _ => rfl

theorem State.requestWake_changes (s : State) : Changes [.lineBody] s s.requestWake :=
  .ite (fun _ => .refl _ s) fun _ => .body s _ rfl

/-- The program of the converter is replaced. -/
theorem Changes.program (s : State) (g : Program) : Changes [.program] s { s with scan := { s.scan with program := g } } := by
  intro p out
  cases p with
  | program => simp at out
  | _ => rfl

/-- What the exit from Deep Rest writes. -/
@[simp] def wakeParts : List Part := .rest :: .program :: listenParts

theorem State.exitDeepRest_changes (s : State) (c : JoinCause) (pulse : Bool) :
    Changes wakeParts s (s.exitDeepRest c pulse) := by
  have woken := ((Changes.rest s .active).andThen (Changes.program _ .watching) (rs := wakeParts)).andThen
    (State.leaveOffline_changes _ c) (rs := wakeParts)
  exact .ite (fun _ => woken.trans (State.requestWake_changes _).within) fun _ => woken

end Machine
end Sys2Proof
end

section
/-! PROOF. What an operation may write: the host's requests, the hold-queue head, the belt, the Station Line and the Taken
frames. -/
set_option Elab.async false
namespace Sys2Proof
namespace Machine

-- Host transactions (11)

/-- The answer registers are set. -/
theorem Changes.answers (s : State) (a b : Answer) :
    Changes [.answers] s { s with host := { s.host with answer := a, shifted := b } } := by
  intro p out
  cases p with
  | answers => simp at out
  | _ => rfl

theorem State.setAnswer_changes (s : State) (a : Answer) : Changes [.answers] s (s.setAnswer a) := .answers s _ _
theorem State.shiftOut_changes (s : State) : Changes [.answers] s s.shiftOut := .answers s _ _
theorem State.shiftBusy_changes (s : State) : Changes [.answers] s s.shiftBusy := .answers s _ _

theorem State.endDoze_changes (s : State) : Changes activeParts s s.endDoze :=
  .ite (fun _ => s.returnActive_changes) fun _ => .refl _ s

/-- What the taking of a request writes beside the request. -/
@[simp] def readyParts : List Part := .answers :: activeParts

theorem State.readied_changes (s : State) (d : Bool) : Changes readyParts s (s.readied d) :=
  .ite (fun _ => s.shiftOut_changes.andThen (State.endDoze_changes _)) fun _ => s.shiftOut_changes.within

/-- The handler writes no more than the parts. -/
def Handler.Writes (parts : List Part) (h : Handler) : Prop := ∀ s, Changes parts s (h s).1

theorem refuse_writes (r : RefuseReason) : (refuse r).Writes [] := fun s => .refl _ s

theorem answerOnly_writes (data : State → AnswerData) : (answerOnly data).Writes [] := fun s => .refl _ s

theorem State.handle_changes (s : State) {h : Handler} {parts : List Part} (w : h.Writes parts) :
    Changes (.answers :: parts) s (s.handle h) := by
  have done := w s
  unfold State.handle
  split
  · rename_i t a eq
    rw [eq] at done
    exact done.andThen (t.setAnswer_changes a) (left := fun p mem => .tail _ mem)
  · rename_i t eq
    rw [eq] at done
    exact done.within fun p mem => .tail _ mem

theorem State.transact_changes (s : State) (n d : Bool) {h : Handler} {parts : List Part} (w : h.Writes parts) :
    Changes (readyParts ++ parts) s (s.transact n d h) := by
  refine .ite (fun _ => s.shiftBusy_changes.within) fun _ => ?_
  refine (s.readied_changes d).andThen (qs := .answers :: parts) ?_ (right := by simp +contextual)
  refine State.handle_changes _ fun t => ?_
  split
  · exact (refuse_writes _ t).within
  · exact w t

-- The hold-queue head (03)

/-- What a cleat given up writes. -/
@[simp] def giveUpParts : List Part := [.queue, .notice .lineFault, .givenUp, .claims]

theorem State.giveUp_changes (s : State) (x : Cleat) : Changes giveUpParts s (s.giveUp x) :=
  ((s.queueFrame_changes _).andThen (State.enterGivenUp_changes _ _) (rs := giveUpParts)).andThen
    (State.setRole_changes _ _ _)

theorem State.withdrawClaims_changes (s : State) (c : Cleat) : Changes [.queue, .hold] s (s.withdrawClaims c) :=
  (s.withdraw_changes _).andThen (Changes.foldl _ (fun s x => s.dropClaim_changes x) _ _)

theorem State.choose_changes (s : State) (c : Cleat) (h : Container) : Changes [.queue, .hold] s (s.choose c h) := by
  unfold State.choose
  split
  · rename_i b x _ _
    refine .ite (fun _ => ?_) fun _ => .refl _ s
    have taken := s.enqueue_changes (.claim x b (s.claimUsed b))
    split
    · rename_i t eq
      rw [eq] at taken
      exact taken.andThen (t.mapHead_changes _)
    · exact .refl _ s
  · exact .refl _ s

theorem State.holdWait_changes (s : State) (before : ClaimLink) (h : Container) :
    Changes [.hold, .notice .overflowRoute] s (s.holdWait before h) := by
  unfold State.holdWait
  split
  · exact .refl _ s
  · split
    · exact (s.mapHead_changes _).within
    · refine .ite (fun _ => (s.mapHead_changes _).within) fun _ => .ite (fun _ => ?_) fun _ => .refl _ s
      exact (s.mapHead_changes _).andThen (State.raise_changes _ _ (k := .overflowRoute))

theorem State.claimingHead_changes (s : State) (c : Cleat) (before : ClaimLink) (h : Container) :
    Changes [.queue, .hold, .notice .overflowRoute] s (s.claimingHead c before h) := by
  have waited := (s.holdWait_changes before h).within (qs := [.queue, .hold, .notice .overflowRoute])
  simp only [State.claimingHead]
  split
  · exact .ite (fun _ => waited.trans (State.choose_changes _ _ _).within) fun _ => waited
  · exact waited

/-- What a firing writes. -/
@[simp] def fireParts : List Part :=
  .flapDrive :: .cleared :: .transfer :: .hold :: .claims :: .holdDrive :: jamParts

/-- The transfer slot is filled from the hold queue. -/
theorem Changes.fired (s : State) (c : Option Container) (l : Path → List Container) :
    Changes [.cleared, .transfer, .hold] s
      (s.mapPath fun p => { p with cleared := false, transfer := c, hold := l p }) := by
  intro p out
  cases p with
  | cleared | transfer | hold => simp at out
  | _ => rfl

theorem State.fire_changes (s : State) (h : Container) (x : Cleat) : Changes fireParts s (s.fire h x) :=
  (((s.pulseFlap_changes.andThen (Changes.fired _ _ fun p => nextHead (p.hold.drop 1)) (rs := fireParts)).andThen
    (State.setRole_changes _ _ _) (rs := fireParts)).andThen (State.settleHold_changes _) (rs := fireParts)).andThen
    (State.startHandover_changes _)

theorem State.miss_changes (s : State) (x : Cleat) : Changes (.hold :: giveUpParts) s (s.miss x) :=
  (s.giveUp_changes x).andThen (State.mapHead_changes _ _)

theorem State.readyHead_changes (s : State) (c : Cleat) (h : Container) :
    Changes (.queue :: .notice .lineFault :: .givenUp :: fireParts) s (s.readyHead c h) := by
  unfold State.readyHead
  split
  · refine .ite (fun _ => ?_) fun _ => (s.mapHead_changes _).within
    exact .ite (fun _ => (s.fire_changes _ _).within) fun _ => (s.miss_changes _).within
  · exact .refl _ s

/-- What the head of the hold queue writes at a pitch mark. -/
@[simp] def headParts : List Part :=
  .queue :: .notice .lineFault :: .notice .overflowRoute :: .givenUp :: fireParts

theorem State.headWork_changes (s : State) (c : Cleat) (before : ClaimLink) :
    Changes headParts s (s.headWork c before) := by
  unfold State.headWork
  split
  · exact .ite (fun _ => (s.readyHead_changes _ _).within) fun _ =>
      .ite (fun _ => (s.claimingHead_changes _ _ _).within) fun _ => .refl _ s
  · exact .refl _ s

-- The belt (01)

theorem State.listenAfterSlip_changes (s : State) (c : SlipCause) :
    Changes [.member, .queue, .notice .lineFault] s (s.listenAfterSlip c) := by
  cases c with
  | earlyHome => exact (Changes.member s _).andThen (State.queueFrame_changes _ _)
  | missingHome => exact (Changes.member s _).within

/-- What the membership change of a slip writes. -/
@[simp] def slipMemberParts : List Part := [.member, .queue, .notice .lineFault, .notice .joinState]

theorem State.slipMember_changes (s : State) (c : SlipCause) : Changes slipMemberParts s (s.slipMember c) := by
  unfold State.slipMember
  split
  · exact (s.changeMember_changes _ _).andThen (State.listenAfterSlip_changes _ _)
  · exact (s.listenAfterSlip_changes _).within
  · exact .refl _ s
  · exact .refl _ s

/-- The Cleat Map is replaced. -/
theorem Changes.map (s : State) (m : Vector Entry 256) : Changes [.map] s { s with map := m } := by
  intro p out
  cases p with
  | map => simp at out
  | _ => rfl

/-- What a pitch slip writes. -/
@[simp] def slipParts : List Part :=
  [.map, .claims, .givenUp, .transfer, .hold, .bins, .notice .binChange, .notice .pitchSlip] ++ slipMemberParts

theorem State.pitchSlip_changes (s : State) (c : SlipCause) (n : Nat) : Changes slipParts s (s.pitchSlip c n) := by
  have freed := ((Changes.map s freeMap).andThen (State.pruneClaims_changes _) (rs := slipParts)).andThen
    (State.withdraw_changes _ (slipFrame s.synced)) (rs := slipParts)
  have told (d : NoticeDetail) (kind : d.kind = .pitchSlip) :=
    ((freed.andThen (State.markNoRetry_changes _ (slipFrame s.synced)) (rs := slipParts)).andThen
      (State.slipMember_changes _ c) (rs := slipParts)).andThen (State.raise_changes _ d kind) (rs := slipParts)
  exact (((told _ rfl).andThen (State.loseTrust_changes _) (rs := slipParts)).andThen (State.mapHead_changes _ _)
    (rs := slipParts)).andThen (State.reportBins_changes _ _)

/-- What the clear point writes. -/
@[simp] def clearParts : List Part := [.map, .claims, .givenUp, .bins, .notice .binChange]

theorem State.clearPoint_changes (s : State) (c : Cleat) : Changes clearParts s (s.clearPoint c) :=
  (s.changeEntry_changes _ _).andThen (State.reportBins_changes _ _)

theorem State.clearWork_changes (s : State) : Changes clearParts s s.clearWork := by
  unfold State.clearWork
  split
  · exact s.clearPoint_changes _
  · exact .refl _ s

theorem State.queueLoad_changes (s : State) (r : Container) :
    Changes [.queue, .notice .lineFault, .claims] s (s.queueLoad r) := by
  unfold State.queueLoad
  split
  · exact (s.queueFrame_changes _).andThen (State.setRole_changes _ _ _)
  · exact .refl _ s

/-- The transfer slot is replaced. -/
theorem Changes.transfer (s : State) (c : Option Container) :
    Changes [.transfer] s (s.mapPath fun p => { p with transfer := c }) := by
  intro p out
  cases p with
  | transfer => simp at out
  | _ => rfl

/-- What the landing eye writes. -/
@[simp] def landingParts : List Part :=
  [.queue, .claims, .givenUp, .transfer, .notice .lineFault, .notice .containerDone, .notice .jam, .notice .mapConflict,
   .notice .straySeen, .notice .lostItem] ++ closeParts

theorem State.landed_changes (s : State) (r : Container) : Changes landingParts s (s.landed r) :=
  (((s.credit_changes _ _).andThen (State.queueLoad_changes _ r) (rs := landingParts)).andThen
    (Changes.transfer _ none) (rs := landingParts)).andThen (State.raise_changes _ _ (k := .containerDone))

theorem State.notLanded_changes (s : State) (r : Container) : Changes landingParts s (s.notLanded r) := by
  have stuck := (Changes.transfer s (some { r with stage := .stuck })).within (qs := landingParts)
  have told (d : NoticeDetail) (t : State) (h : Changes landingParts s t) (kind : d.kind = .jam) :
      Changes landingParts s (t.losePending.raise d) :=
    (h.andThen (State.losePending_changes _) (rs := landingParts)).andThen (State.raise_changes _ d kind)
  refine told _ _ ?_ rfl
  split
  · exact .ite (fun _ => stuck.andThen (State.giveUp_changes _ _)) fun _ => stuck
  · exact stuck

theorem State.unexpectedClaim_changes (s : State) (x : Cleat) (b : BinNo) :
    Changes [.queue, .notice .lineFault, .givenUp, .notice .mapConflict] s (s.unexpectedClaim x b) :=
  .ite (fun _ => .refl _ s) fun _ => ((s.queueFrame_changes _).andThen (State.enterGivenUp_changes _ _)
    (rs := [.queue, .notice .lineFault, .givenUp, .notice .mapConflict])).andThen
    (State.raise_changes _ _ (k := .mapConflict))

/-- What the entry check writes. -/
@[simp] def checkParts : List Part :=
  [.queue, .notice .lineFault, .givenUp, .notice .mapConflict, .notice .straySeen, .notice .lostItem]

theorem State.entryCheck_changes (s : State) (item : Bool) : Changes checkParts s (s.entryCheck item) := by
  unfold State.entryCheck
  split
  · refine .ite (fun _ => ?_) fun _ => .refl _ s
    split
    · exact (s.queueFrame_changes _).andThen (State.raise_changes _ _ (k := .straySeen))
    · exact .ite (fun _ => (s.unexpectedClaim_changes _ _).within) fun _ => .refl _ s
    · exact (s.raise_changes _ (k := .lostItem)).within
    · exact .refl _ s
    · exact .refl _ s
    · exact .refl _ s
  · exact .refl _ s

theorem State.landingWork_changes (s : State) (item : Bool) : Changes landingParts s (s.landingWork item) := by
  unfold State.landingWork
  split
  · refine .ite (fun _ => ?_) fun _ => (s.entryCheck_changes _).within
    have counted (c : Container) := (Changes.transfer s (some c)).within (qs := landingParts)
    refine .ite (fun _ => .ite (fun _ => ?_) fun _ => ?_) fun _ => ?_
    · exact (counted _).trans (State.landed_changes _ _)
    · exact (counted _).trans (State.notLanded_changes _ _)
    · exact (counted _).trans (State.entryCheck_changes _ _).within
  · exact (s.entryCheck_changes _).within

/-- What the gate checks write. -/
@[simp] def gateParts : List Part := .gateDrives :: missParts

theorem State.releaseGate_changes (s : State) (g : Gate) : Changes gateParts s (s.releaseGate g) :=
  (s.mapChannel_changes (.gate g) _).andThen (Changes.gates _ _)

theorem State.holdGate_changes (s : State) (g : Gate) (x : Cleat) : Changes gateParts s (s.holdGate g x) := by
  have asked (v : Vector (Option GateInterval) 8) :=
    (s.mapChannel_changes (.gate g) fun r => if r.standing then r else r.request).andThen (Changes.gates _ v)
      (rs := gateParts)
  exact .ite (fun _ => asked _) fun _ => (asked _).trans (State.missGate_changes _ _).within

theorem State.checkGate_changes (c : Cleat) (s : State) (g : Gate) : Changes gateParts s (s.checkGate c g) :=
  .ite (fun _ => s.holdGate_changes _ _) fun _ => s.releaseGate_changes _

theorem State.gateWork_changes (s : State) : Changes gateParts s s.gateWork := by
  unfold State.gateWork
  refine .ite (fun _ => ?_) fun _ => .refl _ s
  split
  · exact .foldl _ (fun s g => s.checkGate_changes _ g) _ s
  · exact .foldl _ (fun s g => s.releaseGate_changes g) _ s

theorem State.noteDuty_changes (s : State) : Changes [.dutyReports] s s.noteDuty := by
  intro p out
  cases p with
  | dutyReports => simp at out
  | _ => rfl

theorem State.joinAtHome_changes (s : State) : Changes [.member, .queue, .notice .lineFault] s s.joinAtHome :=
  .ite (fun _ => (Changes.member s _).andThen (State.queueFrame_changes _ _)) fun _ => .refl _ s

theorem State.countListening_changes (s : State) : Changes [.member, .notice .joinState] s s.countListening := by
  unfold State.countListening
  split
  · exact .ite (fun _ => (Changes.member s _).within) fun _ => s.changeMember_changes _ _
  all_goals exact .refl _ s

theorem State.claimWork_changes (s : State) (before : ClaimLink) : Changes headParts s (s.claimWork before) := by
  unfold State.claimWork
  split
  · exact (s.withdrawClaims_changes _).andThen (State.headWork_changes _ _ _)
  · exact .refl _ s

/-- The Belt Tracker is replaced. -/
theorem Changes.belt (s : State) (b : Belt) : Changes [.belt] s { s with belt := b } := by
  intro p out
  cases p with
  | belt => simp at out
  | _ => rfl

/-- The work of a pitch mark up to the landing eye: the belt, the slip, and the mark of sort duty (01 R1). -/
def State.markTaken (s : State) (updated : Belt × Option SlipCause) : State :=
  (match updated.2 with
    | some cause => ({ s with belt := updated.1 }).pitchSlip cause s.belt.pitchCount
    | none => { s with belt := updated.1 }).noteDuty

/-- The listening revolution at a pitch mark (05 R88, R89). -/
def State.revolved (s : State) (home : Bool) : State := (if home then s.joinAtHome else s).countListening

/-- The work of a pitch mark up to the head of the hold queue (01 R11 to R21), with the level of the landing eye. -/
def State.markWorked (s : State) (item : Bool) : State := (s.clearWork.landingWork item).gateWork

theorem State.pitchWork_eq (s : State) (home : Bool) (updated : Belt × Option SlipCause) :
    s.pitchWork home updated = ((((s.markTaken updated).markWorked (s.markTaken updated).eyes.landing).claimWork
      (s.markTaken updated).headLink).revolved home).tryStart.testDoze := by
  obtain ⟨belt, cause⟩ := updated
  cases cause <;> rfl

theorem State.markTaken_changes (s : State) (updated : Belt × Option SlipCause) :
    Changes (.belt :: .dutyReports :: slipParts) s (s.markTaken updated) := by
  unfold State.markTaken
  split
  · exact ((Changes.belt s _).andThen (State.pitchSlip_changes _ _ _) (rs := .belt :: slipParts)).andThen
      (State.noteDuty_changes _)
  · exact (Changes.belt s _).andThen (State.noteDuty_changes _)

/-- What the clear point, the landing eye and the gates write. -/
@[simp] def workParts : List Part := clearParts ++ landingParts ++ gateParts

theorem State.markWorked_changes (s : State) (item : Bool) : Changes workParts s (s.markWorked item) :=
  (s.clearWork_changes.andThen (State.landingWork_changes _ _) (rs := workParts)).andThen (State.gateWork_changes _)

/-- What the listening revolution writes. -/
@[simp] def revolveParts : List Part := [.member, .queue, .notice .lineFault, .notice .joinState]

theorem State.revolved_changes (s : State) (home : Bool) : Changes revolveParts s (s.revolved home) := by
  have joined : Changes revolveParts s (if home then s.joinAtHome else s) :=
    .ite (fun _ => s.joinAtHome_changes.within) fun _ => .refl _ s
  exact joined.trans (State.countListening_changes _).within

/-- What a pitch mark writes after the head of the hold queue. -/
@[simp] def afterParts : List Part := .doze :: (revolveParts ++ startParts)

/-- The end of a pitch mark: the listening revolution, a container taken, and the doze test. -/
def State.markEnded (s : State) (home : Bool) : State := (s.revolved home).tryStart.testDoze

theorem State.markEnded_changes (s : State) (home : Bool) : Changes afterParts s (s.markEnded home) :=
  ((s.revolved_changes home).andThen (State.tryStart_changes _) (rs := afterParts)).andThen (State.testDoze_changes _)

/-- What a pitch mark writes. -/
@[simp] def markParts : List Part :=
  .belt :: .dutyReports :: (slipParts ++ workParts ++ headParts ++ afterParts)

theorem State.pitchWork_changes (s : State) (home : Bool) (updated : Belt × Option SlipCause) :
    Changes markParts s (s.pitchWork home updated) := by
  rw [s.pitchWork_eq]
  exact (((s.markTaken_changes updated).andThen (State.markWorked_changes _ _) (rs := markParts)).andThen
    (State.claimWork_changes _ _) (rs := markParts)).andThen (State.markEnded_changes _ home)

end Machine
end Sys2Proof
end

section
/-! PROOF. What an operation may write: the Station Line, the Taken frames, the eyes and timers of the path, the scan, the
article, and the drives. -/
set_option Elab.async false
namespace Sys2Proof
namespace Machine

-- The Station Line (02)

theorem State.missRest_changes (s : State) : Changes [.lineBody] s s.missRest := s.mapLine_changes _ rfl

theorem State.object_changes (s : State) (e : FrameFault) : Changes [.lineBody] s (s.object e) :=
  (s.mapLine_changes _ rfl).andThen (State.driveSlot_changes _ _)

/-- What a failed attempt writes. -/
@[simp] def failParts : List Part := [.queue, .lineBody, .notice .lineFault, .hold, .member]

theorem State.judgeCheck_changes (s : State) (k : CheckRead) :
    Changes [.lineBody, .notice .lineFault] s (s.judgeCheck k) := by
  cases k with
  | good => exact (s.driveSlot_changes _).andThen (State.endAlone_changes _)
  | bad kind sender =>
    exact .ite (fun _ => (s.driveSlot_changes _).andThen (State.raiseLineFault_changes _ _)) fun _ =>
      (s.driveSlot_changes _).within

theorem State.overload_changes (s : State) : Changes failParts s s.overload :=
  ((s.failAttempt_changes.andThen (State.mapLine_changes _ _ rfl) (rs := failParts))).andThen
    (State.raiseLineFault_changes _ _)

-- The Taken frames

theorem State.measureTaken_changes (s : State) (c : LineCurrent) : Changes [.lineBody] s (s.measureTaken c) :=
  (s.measureCurrent_changes c).trans (State.mapLine_changes _ _ rfl)

theorem State.receiveTaken_changes (s : State) (rx : Reception) (own : Bool) :
    Changes [.queue, .lineBody] s (s.receiveTaken rx own) := by
  have measured := (s.measureTaken_changes rx.current).within (qs := [.queue, .lineBody])
  refine .ite (fun _ => ?_) fun _ => ?_
  · exact ((measured.andThen (State.removeInFlight_changes _) (rs := [.queue, .lineBody])).andThen
      (State.driveSlot_changes _ _) (rs := [.queue, .lineBody])).andThen (State.countEcho_changes _ _)
  · exact (measured.andThen (State.driveSlot_changes _ _) (rs := [.queue, .lineBody])).andThen
      (State.endAlone_changes _)

/-- What the duplicate test writes. -/
@[simp] def duplicateParts : List Part := [.queue, .member, .notice .joinState, .notice .duplicateId]

theorem State.testDuplicate_changes (s : State) (f : TakenFrame) (own : Bool) :
    Changes duplicateParts s (s.testDuplicate f own) :=
  .ite (fun _ => (s.raise_changes _ (k := .duplicateId)).andThen (State.enterConflict_changes _ _)) fun _ => .refl _ s

/-- What every Taken frame writes beside its application and its report. -/
@[simp] def takeParts : List Part :=
  [.bins, .lineBody, .notice .binChange, .notice .mapConflict] ++ duplicateParts

theorem State.take_changes (s : State) (rx : Reception) (t : TakenFrame) {apply : State → State}
    {report : Bool → State → State} {parts : List Part} (applied : ∀ s, Changes parts s (apply s))
    (reported : ∀ own s, Changes parts s (report own s)) :
    Changes (takeParts ++ parts) s (s.take rx t apply report) := by
  refine .ite (fun _ => ?_) fun _ => .refl _ s
  have received := (s.receiveTaken_changes rx (s.takesAsOwn t)).within (qs := takeParts ++ parts)
  split
  · exact received.trans (State.raise_changes _ _ (k := .mapConflict)).within
  · refine received.trans ?_
    exact ((((applied _).andThen (State.reportBins_changes _ _) (rs := takeParts ++ parts) (by simp +contextual)).andThen
      (reported _ _) (rs := takeParts ++ parts) (by simp +contextual) (by simp +contextual))).andThen
      (State.testDuplicate_changes _ _ _) (by simp +contextual)

theorem noReport_changes (parts : List Part) (own : Bool) (s : State) : Changes parts s (noReport own s) := .refl _ s

/-- What an adopted count writes. -/
@[simp] def adoptParts : List Part := [.notice .countMismatch, .bins, .used]

theorem State.applyClaim_changes (s : State) (n : Nat) (x : Cleat) (b : BinNo) (u : Word16) :
    Changes (.map :: .claims :: .givenUp :: adoptParts) s (s.applyClaim n x b u) :=
  .ite (fun _ => (s.adopt_changes _ _ _ _).andThen (State.changeEntry_changes _ _ _)) fun _ =>
    (s.adopt_changes _ _ _ _).within

theorem State.claimVerdict_changes (s : State) (x : Cleat) (h : Container) :
    Changes (.hold :: giveUpParts) s (s.claimVerdict x h) := by
  refine .ite (fun _ => .ite (fun _ => ?_) fun _ => ?_) fun _ => (s.mapHead_changes _).within
  · exact (s.giveUp_changes _).andThen (State.mapHead_changes _ _)
  · exact (s.setRole_changes _ _).andThen (State.mapHead_changes _ _)

theorem State.reportClaim_changes (x : Cleat) (own : Bool) (s : State) :
    Changes (.hold :: giveUpParts) s (s.reportClaim x own) := by
  unfold State.reportClaim
  split
  · exact .ite (fun _ => s.claimVerdict_changes _ _) fun _ => .refl _ s
  · exact .refl _ s

theorem State.applyRelease_changes (s : State) (n : Nat) (x : Cleat) :
    Changes [.map, .claims, .givenUp] s (s.applyRelease n x) :=
  .ite (fun _ => s.changeEntry_changes _ _) fun _ => .refl _ s

theorem State.misrouteLoad_changes (s : State) (x : Cleat) (b : BinNo) :
    Changes [.queue, .notice .lineFault] s (s.misrouteLoad x b) :=
  .ite (fun _ => s.queueFrame_changes _) fun _ => .refl _ s

/-- What the application of a LOAD writes. -/
@[simp] def loadParts : List Part :=
  .map :: .claims :: .givenUp :: .queue :: .notice .lineFault :: .notice .mapConflict :: adoptParts

theorem State.applyLoad_changes (s : State) (n : Nat) (x : Cleat) (b : BinNo) (m : Material) (u : Word16) :
    Changes loadParts s (s.applyLoad n x b m u) := by
  have adopted := (s.adopt_changes .load n b u).within (qs := loadParts)
  have changed (e : Entry) (p : Prop) [Decidable p] : Changes loadParts s
      (if p then (s.adopt .load n b u).changeEntry x e else s.adopt .load n b u) :=
    .ite (fun _ => adopted.trans (State.changeEntry_changes _ _ _).within) fun _ => adopted
  have told (d : NoticeDetail) (kind : d.kind = .mapConflict) (t : State) (h : Changes loadParts s t) (p : Prop)
      [Decidable p] : Changes loadParts s (if p then t.raise d else t) :=
    .ite (fun _ => h.trans (State.raise_changes _ _ kind).within) fun _ => h
  exact (told _ rfl _ (changed _ _) _).trans (State.misrouteLoad_changes _ _ _).within

theorem State.loseHeld_changes (s : State) (x : Cleat) : Changes [.hold] s (s.loseHeld x) := s.mapHead_changes _

theorem State.applyStray_changes (s : State) (x : Cleat) :
    Changes [.map, .claims, .givenUp, .hold] s (s.applyStray x) := by
  have strayed : Changes [.map, .claims, .givenUp, .hold] s
      (if (s.entryAt x).strays then s.changeEntry x .foreign else s) :=
    .ite (fun _ => (s.changeEntry_changes _ _).within) fun _ => .refl _ s
  exact .ite (fun _ => strayed.trans (State.loseHeld_changes _ _).within) fun _ => strayed

theorem State.setBinState_changes (s : State) (b : BinNo) (r : BinState) :
    Changes [.bins, .binStates] s (s.setBinState b r) := s.setBin_changes_state b _ rfl

theorem State.applyBinSet_changes (s : State) (n : Nat) (b : BinNo) (u : Word16) :
    Changes (.binStates :: adoptParts) s (s.applyBinSet n b u) :=
  (s.adopt_changes _ _ _ _).andThen (State.setBinState_changes _ _ _)

theorem State.adoptCounts_changes (s : State) (n : Nat) (u : Vector Word16 8) :
    Changes adoptParts s (s.adoptCounts n u) := .foldl _ (fun s _ => s.adopt_changes _ _ _ _) _ s

theorem State.reassertHolds_changes (s : State) : Changes [.queue, .notice .lineFault] s s.reassertHolds := by
  refine .foldl _ (fun s b => ?_) _ s
  split
  · exact s.queueFrame_changes _
  · exact .refl _ s

/-- What a COUNTS with another digest writes. -/
@[simp] def foreignParts : List Part := [.notice .configConflict, .queue, .member, .notice .joinState]

theorem State.foreignCounts_changes (s : State) (n : Nat) (d : Word16) :
    Changes foreignParts s (s.foreignCounts n d) := by
  have told (c : NoticeDetail) (kind : c.kind = .configConflict) :=
    (s.raise_changes c kind).within (qs := foreignParts)
  exact .ite (fun _ => (told _ rfl).trans (State.enterConflict_changes _ _).within) fun _ => told _ rfl

theorem State.withdrawCounts_changes (s : State) : Changes [.queue] s s.withdrawCounts := s.withdraw_changes _

theorem State.applyCounts_changes (s : State) (n : Nat) (d : Word16) (u : Vector Word16 8) :
    Changes (adoptParts ++ foreignParts) s (s.applyCounts n d u) :=
  .ite (fun _ => (s.adoptCounts_changes _ _).within) fun _ => (s.foreignCounts_changes _ _).within

theorem State.reportCounts_changes (d : Word16) (own : Bool) (s : State) :
    Changes [.queue, .notice .lineFault] s (s.reportCounts d own) :=
  .ite (fun _ => s.reassertHolds_changes) fun _ => .ite (fun _ => s.withdrawCounts_changes.within) fun _ => .refl _ s

theorem State.answerJoin_changes (s : State) (d : Word16) : Changes [.queue, .notice .lineFault] s (s.answerJoin d) :=
  .ite (fun _ => s.queueFrame_changes _) fun _ => s.reassertHolds_changes

/-- What a JOIN writes. -/
@[simp] def joinFrameParts : List Part :=
  [.member, .queue, .notice .lineFault, .notice .duplicateId, .notice .configConflict]

theorem State.foreignJoin_changes (s : State) (n : Nat) (d : Word16) :
    Changes joinFrameParts s (s.foreignJoin n d) := by
  have told (c : NoticeDetail) (kind : c.kind = .duplicateId) (p : Prop) [Decidable p] :
      Changes joinFrameParts s (if p then s.raise c else s) :=
    .ite (fun _ => (s.raise_changes c kind).within) fun _ => .refl _ s
  refine .ite (fun _ => .ite (fun _ => ?_) fun _ => ?_) fun _ => ?_
  · exact (told _ rfl _).trans (State.answerJoin_changes _ _).within
  · exact told _ rfl _
  · exact (told _ rfl _).trans (State.raise_changes _ _ (k := .configConflict)).within

theorem State.ownJoin_changes (s : State) : Changes [.member] s s.ownJoin :=
  .ite (fun _ => .member s _) fun _ => .refl _ s

theorem State.reportJoin_changes (n : Nat) (d : Word16) (own : Bool) (s : State) :
    Changes joinFrameParts s (s.reportJoin n d own) :=
  .ite (fun _ => s.ownJoin_changes.within) fun _ => s.foreignJoin_changes _ _

-- The eyes and the timers of the path (06, 07)

theorem State.reportExhausted_changes (s : State) : Changes [.notice .vouchersExhausted] s s.reportExhausted :=
  .ite (fun _ => s.raise_changes _) fun _ => .refl _ s

/-- What the aperture eye writes in any rest level. -/
@[simp] def apertureParts : List Part := activeParts ++ wakeParts

theorem State.apertureSeen_changes (s : State) : Changes apertureParts s s.apertureSeen := by
  unfold State.apertureSeen
  split
  · exact (s.exitDeepRest_changes _ _).andThen (State.testDoze_changes _)
  · exact s.returnActive_changes.within
  · exact (s.testOffered_changes.andThen (State.tryStart_changes _) (rs := apertureParts)).andThen
      (State.testDoze_changes _)

/-- The eyes are replaced. -/
theorem Changes.eyes (s : State) (e : Eyes) : Changes [.eyes] s { s with eyes := e } := by
  intro p out
  cases p with
  | eyes => simp at out
  | _ => rfl

theorem State.takeBack_changes (s : State) :
    Changes [.entryDrive, .entry, .entryTimer, .window, .notice .containerDone] s s.takeBack := by
  unfold State.takeBack
  split
  · exact .ite (fun _ => s.returnContainer_changes _) fun _ => .refl _ s
  · exact .refl _ s

/-- The filter of the scan eye is set. -/
theorem Changes.filter (s : State) (b : ScanUnit → Bool) (n : ScanUnit → Timer) :
    Changes [.filter] s (s.mapScan fun u => { u with filtered := b u, gap := n u }) := by
  intro p out
  cases p with
  | filter => simp at out
  | _ => rfl

theorem State.filterBlocked_changes (s : State) : Changes (.filter :: scanningParts) s s.filterBlocked := by
  have passed : Changes [.filter] s (s.mapScan fun u => { u with filtered := true }) :=
    .filter s (fun _ => true) fun u => u.gap
  refine .ite (fun _ => ?_) fun _ => .ite (fun _ => .refl _ s) fun _ => ?_
  · exact (Changes.filter s (fun u => u.filtered) fun _ => none).andThen (State.trigger_changes _)
  · exact passed.andThen (State.scanEyeSeen_changes _)

/-- What a clearing of the scan eye writes. -/
@[simp] def goneParts : List Part := .program :: .lookup :: .hold :: .holdDrive :: decisionParts

theorem State.scanEyeGone_changes (s : State) : Changes goneParts s s.scanEyeGone := by
  unfold State.scanEyeGone
  split
  · split
    · exact (s.pullBack_changes _).within
    · exact (s.pullBack_changes _).within
    · exact .ite (fun _ => (s.joinHold_changes _).within) fun _ => .refl _ s
    · exact s.testOffered_changes.within
    all_goals exact .refl _ s
  · exact .refl _ s

theorem State.entryTimeout_changes (s : State) (c : Container) :
    Changes (.notice .containerDone :: jamParts) s (s.entryTimeout c) := by
  unfold State.entryTimeout
  split
  · exact .ite (fun _ => (s.jamEntry_changes _ _ _).within) fun _ => s.discardEntry_changes.within
  · exact (s.jamEntry_changes _ _ _).within
  · exact .ite (fun _ => (s.jamEntry_changes _ _ _).within) fun _ =>
      .ite (fun _ => s.testOffered_changes.within) fun _ => (s.returnContainer_changes _).within
  all_goals exact .refl _ s

/-- A clearing passed on by the filter, and what follows it (07 R124, 06 R106). -/
theorem State.gapExpired_changes (s : State) :
    Changes (.filter :: .doze :: (goneParts ++ startParts)) s
      (((s.mapScan fun u => { u with gap := none, filtered := false }).scanEyeGone).tryStart.testDoze) := by
  exact (((Changes.filter s (fun _ => false) fun _ => none).andThen (State.scanEyeGone_changes _)
    (rs := .filter :: .doze :: (goneParts ++ startParts))).andThen (State.tryStart_changes _)
    (rs := .filter :: .doze :: (goneParts ++ startParts))).andThen (State.testDoze_changes _)

-- The code reader, the article and the store (07, 08)

theorem State.handCode_changes (s : State) (c : Container) (code : Code) :
    Changes lookupParts s (s.handCode c code) := by
  unfold State.handCode
  split
  · refine .ite (fun _ => ?_) fun _ => (s.setEntryRecord_changes _).within
    exact ((s.setEntryRecord_changes _).andThen (State.closeWindow_changes _) (rs := lookupParts)).trans
      (State.testClassify_changes _)
  · exact .ite (fun _ => .refl _ s) fun _ => (s.setEntryRecord_changes _).within

theorem State.endMessage_changes (s : State) (m : Message) :
    Changes (.notice .readerFault :: lookupParts) s (s.endMessage m) := by
  unfold State.endMessage
  split
  · refine .ite (fun _ => ?_) fun _ => .refl _ s
    split
    · exact (s.handCode_changes _ _).within
    · exact (s.raise_changes _ (k := .readerFault)).within
  · exact .refl _ s

theorem State.endQuery_changes (s : State) (a : Option Article) :
    Changes (.lookup :: decisionParts) s (s.endQuery a) :=
  (Changes.lookup s _ rfl rfl rfl).andThen (State.fullDecision_changes _ _)

theorem ArticleUnit.arbitrate_cache (u : ArticleUnit) : u.arbitrate.cache = u.cache := by
  unfold ArticleUnit.arbitrate
  split
  · split
    · rfl
    all_goals split <;> rfl
  · rfl

theorem State.freePort_changes (s : State) (l : Lookup) : Changes [.lookup, .access] s (s.freePort l) :=
  .articleWork s _ (ArticleUnit.arbitrate_cache _)

theorem State.endAccess_changes (s : State) (a : Answer) : Changes [.lookup, .access, .answers] s (s.endAccess a) :=
  (Changes.articleWork s (fun u => { u with access := none, busyTimer := none }.arbitrate)
    (ArticleUnit.arbitrate_cache _)).andThen (State.setAnswer_changes _ _)

/-- What the end of a walk writes. -/
@[simp] def walkParts : List Part := .access :: .notice .articleQuery :: .notice .storeFault :: lookupParts

theorem State.endRevoked_changes (s : State) (w : Walk) : Changes walkParts s (s.endRevoked w) :=
  .ite (fun _ => (s.freePort_changes _).andThen (State.resumeLookup_changes _)) fun _ =>
    (s.freePort_changes _).andThen (Changes.lookup _ _ rfl rfl rfl)

theorem State.endFound_changes (s : State) (w : Walk) (a : Article) : Changes walkParts s (s.endFound w a) := by
  have filled := (Changes.mapArticle s (fun u => u.fill a) rfl rfl).andThen (State.freePort_changes _ .idle)
    (rs := walkParts)
  exact .ite (fun _ => filled.trans (State.resumeLookup_changes _).within) fun _ =>
    filled.trans (State.fullDecision_changes _ _).within

theorem State.beginQuery_changes (s : State) (w : Walk) : Changes walkParts s (s.beginQuery w) :=
  ((s.freePort_changes _).andThen (Changes.lookup _ _ rfl rfl rfl) (rs := walkParts)).andThen
    (State.raise_changes _ _ (k := .articleQuery))

theorem State.endAbsent_changes (s : State) (w : Walk) : Changes walkParts s (s.endAbsent w) :=
  .ite (fun _ => (s.freePort_changes _).andThen (State.resumeLookup_changes _)) fun _ =>
    .ite (fun _ => s.beginQuery_changes _) fun _ => (s.freePort_changes _).andThen (State.fullDecision_changes _ _)

theorem State.walkRead_changes (s : State) (w : Walk) (r : BurstResult) : Changes walkParts s (s.walkRead w r) := by
  unfold State.walkRead
  split
  · exact .ite (fun _ => (Changes.lookup s _ rfl rfl rfl).within) fun _ =>
      .ite (fun _ => s.endRevoked_changes _) fun _ => s.endAbsent_changes _
  · exact .ite (fun _ => s.endRevoked_changes _) fun _ => s.endFound_changes _ _
  · exact .ite (fun _ => s.endRevoked_changes _) fun _ =>
      (s.raise_changes _ (k := .storeFault)).andThen (State.endAbsent_changes _ _)

-- The heat stage (09 R161)

theorem State.enterStage_changes (s : State) (g : HeatStage) (c : Option ThermalCause) :
    Changes [.heat, .notice .thermal] s (s.enterStage g c) := by
  have entered : Changes [.heat] s { s with heat := g } := by
    intro p out
    cases p with
    | heat => simp at out
    | _ => rfl
  cases c with
  | some c => exact entered.andThen (State.raise_changes _ _ (k := .thermal))
  | none => exact entered.within

end Machine
end Sys2Proof
end

section
/-! PROOF. O2: what each request of the host writes, the resets, and the frame of every command. -/
set_option Elab.async false
namespace Sys2Proof
namespace Machine

-- Deep Rest entry and RESTART (11 R187, R189)

/-- What Deep Rest entry and RESTART may write: all but the eyes, the configuration, the started mark, the heat stage, the
voucher history, the waiting commands and the draws. -/
@[simp] def resetParts : List Part :=
  .rest :: .doze :: .answers :: .restartPending :: .belt :: .map :: .bins :: .used :: .binStates :: .member :: .gates
    :: .dutyReports :: .queue :: .lineBody :: .reader :: .undecided :: .idleTimer :: .tally
    :: (pathParts ++ scanParts ++ articleParts ++ driveParts ++ noticeParts)

/-- A state that keeps what no reset writes. -/
theorem Changes.reset {s t : State}
    (kept : ∀ p ∈ [Part.eyes, .cfg, .started, .heat, .history, .pending, .draws], t.part p = s.part p) :
    Changes resetParts s t := by
  intro p out
  cases p with
  | eyes | cfg | started | heat | history | pending | draws => exact kept _ (by simp)
  | notice k => cases k <;> simp [allNoticeKinds] at out
  | _ => simp at out

theorem State.enterDeepRest_changes (s : State) : Changes resetParts s s.enterDeepRest := by
  refine .reset fun p mem => ?_
  fin_cases mem <;> rfl

/-- The blocks at their RESTART values, before the session, the way out of OFFLINE and the doze test (11 R189). -/
def State.restartEmptied (s : State) : State :=
  ({ s.emptyBank with
    line := .initial
    scan := s.scan.atRestart
    reader := { run := .stopped, assembly := .idle }
    article := { s.article.endLookup.clearCache with access := none, busyTimer := none }
    notices := clearedNotices
    host := { s.host with rest := .active, dozeTimer := none, offered := false, restartPending := false } } :
    State).resetDrives .initial

theorem State.restart_eq (s : State) :
    s.restart = (s.restartEmptied.restartSession.leaveOffline .restart).testDoze := rfl

theorem State.restartEmptied_changes (s : State) : Changes resetParts s s.restartEmptied := by
  refine .reset fun p mem => ?_
  fin_cases mem <;> rfl

theorem State.restart_changes (s : State) : Changes resetParts s s.restart := by
  rw [s.restart_eq]
  exact ((s.restartEmptied_changes.andThen (State.restartSession_changes _) (rs := resetParts)
    (right := by simp [allNoticeKinds])).andThen (State.leaveOffline_changes _ _) (rs := resetParts)
    (right := by simp [allNoticeKinds])).andThen (State.testDoze_changes _)

-- The requests (11)

theorem State.clearRead_changes (s : State) : Changes noticeParts s s.clearRead := by
  intro p out
  cases p with
  | notice k => cases k <;> simp [allNoticeKinds] at out
  | _ => rfl

theorem noticesRequest_writes : noticesRequest.Writes noticeParts := fun s => s.clearRead_changes

theorem State.configure_changes (s : State) (c : Configuration) : Changes [.cfg] s (s.configure c) := by
  intro p out
  cases p with
  | cfg => simp at out
  | _ => rfl

theorem configureRequest_writes (c : Configuration) : (configureRequest c).Writes [.cfg] := by
  intro s
  unfold configureRequest
  split
  · exact .refl _ s
  · exact s.configure_changes _

/-- The started mark and the rest level are set. -/
theorem Changes.started (s : State) (r : RestLevel) :
    Changes [.started, .rest] s { s with host := { s.host with started := true, rest := r } } := by
  intro p out
  cases p with
  | started | rest => simp at out
  | _ => rfl

/-- What START writes. -/
@[simp] def startedParts : List Part := .started :: .rest :: .doze :: listenParts

theorem State.startUp_changes (s : State) : Changes startedParts s s.startUp :=
  ((Changes.started s .active).andThen (State.leaveOffline_changes _ .start) (rs := startedParts)).andThen
    (State.testDoze_changes _)

theorem startRequest_writes : startRequest.Writes startedParts := by
  intro s
  unfold startRequest
  split
  · exact s.startUp_changes
  · exact .refl _ s

theorem mapRequest_writes (first count : Nat) : (mapRequest first count).Writes [] := by
  intro s
  unfold mapRequest
  split <;> exact .refl _ s

theorem closeRequest_writes : closeRequest.Writes (.doze :: closeParts) := by
  intro s
  unfold closeRequest
  split
  · exact .refl _ s
  · exact (s.beginClose_changes _).andThen (State.testDoze_changes _)
  · exact .refl _ s
  · exact .refl _ s

/-- The session is replaced. -/
theorem Changes.wholeSession (s : State) (f : Session → Session) : Changes sessionParts s (s.mapSession f) := by
  intro p out
  cases p with
  | undecided | history | idleTimer | tally => simp at out
  | _ => rfl

/-- What TAKE VOUCHER writes. -/
@[simp] def voucherParts : List Part := .history :: .doze :: startParts

theorem voucherRequest_writes : voucherRequest.Writes voucherParts := by
  intro s
  unfold voucherRequest
  split
  · exact ((Changes.wholeSession s _).andThen (State.tryStart_changes _) (rs := voucherParts)).andThen
      (State.testDoze_changes _)
  · exact .refl _ s

/-- What ARTICLE ANSWER writes. -/
@[simp] def answerParts : List Part := .cache :: .lookup :: decisionParts

theorem answerArticle_writes (code kind : Nat) (record : EntryBytes) (option : Nat) :
    (answerArticle code kind record option).Writes answerParts := by
  intro s
  unfold answerArticle
  split
  · exact .refl _ s
  · exact .refl _ s
  · split
    · exact .refl _ s
    · split
      · exact .refl _ s
      · split
        · exact (s.endQuery_changes _).within
        · split
          · exact .refl _ s
          · split
            · exact .refl _ s
            · rename_i a _
              have filled : Changes answerParts s (if option = 1 then s.mapArticle fun u => u.fill a else s) :=
                .ite (fun _ => (Changes.mapArticle s _ rfl rfl).within) fun _ => .refl _ s
              exact filled.andThen (State.endQuery_changes _ _)

theorem ArticleUnit.revoke_kept (u : ArticleUnit) (code : Code) :
    (u.revoke code).lookup = u.lookup ∧ (u.revoke code).access = u.access
      ∧ (u.revoke code).busyTimer = u.busyTimer := by
  unfold ArticleUnit.revoke
  split <;> exact ⟨rfl, rfl, rfl⟩

theorem ArticleUnit.markRevoked_kept (u : ArticleUnit) (code : Code) :
    (u.markRevoked code).cache = u.cache ∧ (u.markRevoked code).access = u.access
      ∧ (u.markRevoked code).busyTimer = u.busyTimer := by
  unfold ArticleUnit.markRevoked
  split
  · split <;> exact ⟨rfl, rfl, rfl⟩
  · exact ⟨rfl, rfl, rfl⟩
  · exact ⟨rfl, rfl, rfl⟩

theorem revokeRequest_writes (code : Nat) : (revokeRequest code).Writes [.cache, .lookup] := by
  intro s
  unfold revokeRequest
  split
  · exact .refl _ s
  · rename_i code _
    have revoked := s.article.revoke_kept code
    have marked := (s.article.revoke code).markRevoked_kept code
    exact .mapArticle s _ (marked.2.1.trans revoked.2.1) (marked.2.2.trans revoked.2.2)

theorem storeRequest_writes (address length : Nat) (r : StoreRequest) :
    (storeRequest address length r).Writes [.lookup, .access] := by
  intro s
  unfold storeRequest
  split
  · exact .articleWork s _ rfl
  · exact .refl _ s

theorem State.deferHold_changes (s : State) (f : Frame) : Changes [.queue] s (s.deferHold f) := s.setQueue_changes _

theorem binRequest_writes (f : Option Frame) (p : Frame → Bool) : (binRequest f p).Writes [.queue] := by
  intro s
  unfold binRequest
  split
  · exact .refl _ s
  · split
    · exact .refl _ s
    · rename_i g
      split
      · exact .refl _ s
      · have taken := s.enqueue_changes g
        split
        · rename_i t eq
          rw [eq] at taken
          exact (taken.trans (t.withdraw_changes _)).trans (State.deferHold_changes _ _)
        · rename_i t eq
          rw [eq] at taken
          exact (taken.trans (t.withdraw_changes _)).trans (State.deferHold_changes _ _)
        · exact .refl _ s
        · exact .refl _ s

theorem dozeRequest_writes : dozeRequest.Writes [.rest, .doze, .reader, .lookup] := by
  intro s
  unfold dozeRequest
  split
  · exact s.enterDoze_changes
  · exact .refl _ s

theorem restRequest_writes : restRequest.Writes resetParts := by
  intro s
  unfold restRequest
  split
  · exact s.enterDeepRest_changes
  · exact .refl _ s

theorem wakeRequest_writes : wakeRequest.Writes apertureParts := by
  intro s
  unfold wakeRequest
  split
  · exact s.returnActive_changes.within
  · exact (s.exitDeepRest_changes _ _).andThen (State.testDoze_changes _)
  · exact .refl _ s

theorem restart_writes : (doneWith State.restart).Writes resetParts := fun s => s.restart_changes

theorem clearLineDriver_writes : Handler.Writes [.lineBody] clearLineDriver := by
  intro s
  unfold clearLineDriver
  split
  · exact .body s _ rfl
  · exact .refl _ s

theorem clearChannel_writes (c : Channel) : (clearChannel c).Writes driveParts := by
  intro s
  unfold clearChannel
  split
  · exact .allDrives s _
  · exact .refl _ s

theorem clearRequest_writes (n : Nat) : (clearRequest n).Writes (.lineBody :: driveParts) := by
  intro s
  unfold clearRequest
  split
  · exact .refl _ s
  · exact (clearLineDriver_writes s).within
  · exact (clearChannel_writes _ s).within

theorem State.removeStuck_changes (s : State) : Changes [.entry, .transfer] s s.removeStuck := by
  intro p out
  cases p with
  | entry | transfer => simp at out
  | _ => rfl

/-- What CLEAR JAM writes. -/
@[simp] def clearJamParts : List Part := .transfer :: .doze :: startParts

theorem jamRequest_writes : jamRequest.Writes clearJamParts := by
  intro s
  unfold jamRequest
  split
  · exact (s.removeStuck_changes.andThen (State.tryStart_changes _) (rs := clearJamParts)).andThen
      (State.testDoze_changes _)
  · exact .refl _ s

-- The frame of every command (O2)

/-- Parts that are left alone, but by a command that may write them. -/
def unlessWritten (written : Bool) (ps : List Part) : List Part := if written then [] else ps

/-- The parts that a command leaves alone. -/
def guarded (i : Instr) : List Part :=
  List.flatten [[.pending], unlessWritten (readsEyes i) [.eyes], unlessWritten (configures i) [.cfg],
    unlessWritten (starts i) [.started], unlessWritten (writesBelt i) [.belt, .dutyReports],
    unlessWritten (writesMap i) [.map], unlessWritten (writesBins i) [.used, .binStates],
    unlessWritten (measuresHeat i) [.heat], unlessWritten (writesHistory i) [.history],
    unlessWritten (writesCache i) [.cache]]

/-- A command keeps its guarded parts. -/
def Guards (i : Instr) (s t : State) : Prop := ∀ p ∈ guarded i, t.part p = s.part p

/-- A number for each part, by which a list of parts is searched. -/
def Part.rank : Part → Nat
  | .cfg => 0 | .started => 1 | .rest => 2 | .doze => 3 | .answers => 4 | .restartPending => 5
  | .belt => 6 | .map => 7 | .bins => 8 | .used => 9 | .binStates => 10
  | .member => 11 | .gates => 12 | .dutyReports => 13 | .queue => 14 | .lineBody => 15
  | .tagCounter => 16 | .entry => 17 | .hold => 18 | .transfer => 19 | .cleared => 20 | .givenUp => 21
  | .claims => 22 | .window => 23 | .entryTimer => 24
  | .eyes => 25 | .program => 26 | .scanRecord => 27 | .supply => 28 | .filter => 29 | .reader => 30
  | .cache => 31 | .lookup => 32 | .access => 33
  | .entryDrive => 34 | .holdDrive => 35 | .flapDrive => 36 | .gateDrives => 37
  | .heat => 38 | .undecided => 39 | .history => 40 | .idleTimer => 41 | .tally => 42
  | .pending => 43 | .draws => 44
  | .notice k => 45 + k.index.val

/-- No part of one list stands in the other. -/
def partsApart (ps qs : List Part) : Bool := ps.all fun p => qs.all fun q => p.rank != q.rank

theorem not_mem_of_partsApart {ps qs : List Part} (apart : partsApart ps qs = true) : ∀ p ∈ ps, p ∉ qs := by
  intro p mem mem'
  have differ := List.all_eq_true.mp (List.all_eq_true.mp apart p mem) p mem'
  simp at differ

theorem Guards.of_changes {ps : List Part} {i : Instr} {s t : State} (h : Changes ps s t)
    (apart : partsApart (guarded i) ps = true := by rfl) : Guards i s t :=
  fun p mem => h p (not_mem_of_partsApart apart p mem)

theorem Guards.of_transact {parts : List Part} {i : Instr} {s : State} {n d : Bool} {h : Handler}
    (w : h.Writes parts) (apart : partsApart (guarded i) (readyParts ++ parts) = true := by rfl) :
    Guards i s (s.transact n d h) := .of_changes (s.transact_changes n d w) apart

-- The commands that run through more than one operation

theorem guarded_powerOnReset (temperature : Int) : guarded (.powerOnReset temperature) = [.pending, .eyes] := rfl

/-- The blocks at power-on, with the heat stage of the temperature (11 R179, 09 R161). -/
def State.powerOnBlocks (s : State) (temperature : Int) : State :=
  { State.reset with
    eyes := s.eyes, pending := s.pending, scan := .initial s.eyes.scan, heat := stageOf temperature
    draws := s.draws + 1 }

/-- THERMAL at power-on (09 R161). -/
def State.powerOnTold (s : State) (temperature : Int) : State :=
  match thermalCause (stageOf temperature) with
  | some cause => (s.powerOnBlocks temperature).raise (.thermal cause (Config.powerOnFormerStage s.draws)
      (stageOf temperature) (s.powerOnBlocks temperature).drives.states)
  | none => s.powerOnBlocks temperature

theorem exec_powerOnReset (temperature : Int) (s : State) : exec (.powerOnReset temperature) s =
    .next ((s.powerOnTold temperature).resetDrives (s.powerOnTold temperature).drives) := rfl

theorem State.powerOnTold_changes (s : State) (temperature : Int) :
    Changes [.notice .thermal] (s.powerOnBlocks temperature) (s.powerOnTold temperature) := by
  unfold State.powerOnTold
  split
  · exact State.raise_changes _ _
  · exact .refl _ _

theorem State.powerOn_guards (s : State) (temperature : Int) : Guards (.powerOnReset temperature) s
    ((s.powerOnTold temperature).resetDrives (s.powerOnTold temperature).drives) := by
  have told := (s.powerOnTold_changes temperature).andThen (State.resetDrives_changes _ (s.powerOnTold temperature).drives)
    (rs := .notice .thermal :: driveParts)
  intro p mem
  rw [guarded_powerOnReset] at mem
  have blocks : (s.powerOnBlocks temperature).part p = s.part p := by fin_cases mem <;> rfl
  rw [← blocks]
  exact told p (by fin_cases mem <;> simp)

theorem State.restartDuringAccess_changes (s : State) : Changes resetParts s s.restartDuringAccess := by
  have busy := s.shiftBusy_changes.within (qs := resetParts)
  refine .ite (fun _ => busy.trans (State.setAnswer_changes _ _).within) fun _ => .ite (fun _ => busy.trans ?_) fun _ => ?_
  · exact .reset fun p mem => by fin_cases mem <;> rfl
  · exact (busy.trans (State.restart_changes _)).trans (State.setAnswer_changes _ _).within

theorem State.endWrite_changes (s : State) (a : Answer) : Changes resetParts s (s.endWrite a) :=
  .ite (fun _ => s.restart_changes.trans (State.setAnswer_changes _ _).within) fun _ => (s.endAccess_changes a).within

-- A result of the Supply Watch (07 R127 to R129)

/-- The Scan Unit after a result: the condition, the reference state and the last averages (07 R127, R128). -/
def State.supplyJudged (s : State) (su re : Nat) : State :=
  s.mapScan fun u => { u with
    supply := judgeResult s.scan.supply su re, reference := if referenceGood re then .good else .bad
    lastSupply := some su, lastReference := some re }

/-- SUPPLY, cause REFERENCE (07 R128, R129). -/
def State.referenceTold (s t : State) (su re : Nat) : State :=
  if s.scan.reference = .good ∧ referenceGood re = false then
    t.raise (.supply .reference s.scan.supply (judgeResult s.scan.supply su re) su re)
  else t

/-- SUPPLY for a change of condition (07 R129). -/
def State.supplyTold (former new : SupplyCondition) (t : State) (su re : Nat) : State :=
  match supplyCause former new with
  | some cause => t.raise (.supply cause former new su re)
  | none => t

theorem exec_watchResult (a b : Vector Sample 4) (s : State) : exec (.watchResult a b) s = .next
    (if s.scan.program = .watching then
      State.supplyTold s.scan.supply (judgeResult s.scan.supply (average a) (average b))
        (s.referenceTold (s.followCut (s.supplyJudged (average a) (average b))) (average a) (average b))
        (average a) (average b)
    else s) := rfl

theorem State.supplyJudged_changes (s : State) (su re : Nat) : Changes [.supply] s (s.supplyJudged su re) := by
  intro p out
  cases p with
  | supply => simp at out
  | _ => rfl

theorem State.referenceTold_changes (s t : State) (su re : Nat) :
    Changes [.notice .supply] t (s.referenceTold t su re) := .ite (fun _ => t.raise_changes _) fun _ => .refl _ t

theorem State.supplyTold_changes (former new : SupplyCondition) (t : State) (su re : Nat) :
    Changes [.notice .supply] t (State.supplyTold former new t su re) := by
  unfold State.supplyTold
  split
  · exact t.raise_changes _
  · exact .refl _ t

end Machine
end Sys2Proof
end

section
/-! PROOF. O2: every command keeps its guarded parts. -/
set_option Elab.async false
namespace Sys2Proof
namespace Machine

/-- The draws are counted. -/
theorem Changes.draws (s : State) (n : Nat) : Changes [.draws] s { s with draws := n } := by
  intro p out
  cases p with
  | draws => simp at out
  | _ => rfl

theorem State.measurePulse_changes (s : State) : Changes [.lineBody, .draws] s s.measurePulse :=
  (s.measureCurrent_changes _).andThen (Changes.draws _ _)

/-- The cleared-since-firing mark is set. -/
theorem Changes.cleared (s : State) (b : Bool) : Changes [.cleared] s (s.mapPath fun p => { p with cleared := b }) := by
  intro p out
  cases p with
  | cleared => simp at out
  | _ => rfl

/-- The record of the entry zone at the end of EntryTime (06 R104). -/
def State.entryTimedOut (s : State) : State :=
  match s.path.entry with
  | some c => (s.mapPath fun p => { p with entryTimer := none }).entryTimeout c
  | none => s.mapPath fun p => { p with entryTimer := none }

theorem State.entryTimedOut_changes (s : State) : Changes (.notice .containerDone :: jamParts) s s.entryTimedOut := by
  unfold State.entryTimedOut
  split
  · exact (Changes.entryTimer s none).andThen (State.entryTimeout_changes _ _)
  · exact (Changes.entryTimer s none).within

/-- What a character of the code reader writes. -/
@[simp] def characterParts : List Part := .reader :: .draws :: .notice .readerFault :: lookupParts

theorem State.characterRead_changes (s : State) (data : Byte) (parity stop : Bool) :
    Changes characterParts s (if s.reader.run = .running then
      let error := characterError data parity stop
      let r := s.reader.assembly.receive (Config.lateFaultPosition s.draws) error data
      let s := { s with
        reader := { s.reader with assembly := r.1 }
        draws := if s.reader.assembly.faultsLate error data then s.draws + 1 else s.draws }
      match r.2 with
      | some m => s.endMessage m
      | none => s
    else s) := by
  refine .ite (fun _ => ?_) fun _ => .refl _ s
  have received (r : Reader) (n : Nat) : Changes characterParts s { s with reader := r, draws := n } :=
    (Changes.reader s r).andThen (Changes.draws _ n)
  simp only
  split
  · exact (received _ _).trans (State.endMessage_changes _ _).within
  · exact received _ _

theorem State.anyChannel_changes (s : State) (c : Channel) (f : ChannelRecord → ChannelRecord) :
    Changes driveParts s (s.mapChannel c f) := .allDrives s _

theorem State.faultAny_changes (s : State) (c : Channel) :
    Changes (.notice .driveFault :: driveParts) s (s.faultChannel c) := by
  have stopped (d : Drives) := (Changes.allDrives s d).within (qs := .notice .driveFault :: driveParts)
  exact .ite (fun _ => (stopped _).trans (State.raiseDriveFault_changes _ c).within) fun _ => stopped _

theorem guards_restart (s : State) :
    ∃ t, exec .restart s = .next t ∧ Guards .restart s t := by
  refine ⟨_, rfl, ?_⟩
  split
  · exact .of_changes s.restartDuringAccess_changes
  · exact .of_transact restart_writes

theorem guards_frameStart (s : State) :
    ∃ t, exec .frameStart s = .next t ∧ Guards .frameStart s t := by
  refine ⟨_, rfl, Guards.of_changes (ps := [.queue, .lineBody]) (.ite (fun _ => ?_) fun _ => .refl _ s)⟩
  exact (s.setQueue_changes (startFirst s.allows s.line.queue)).andThen (Changes.body _ { s.line with
    queue := startFirst s.allows s.line.queue, condition := .busy, runLevel := .drive, runLength := 0 } rfl)

theorem guards_frameError (error : FrameFault) (kind : Option Nibble) (sender : Option Nibble) (current : LineCurrent) (s : State) :
    ∃ t, exec (.frameError error kind sender current) s = .next t ∧ Guards (.frameError error kind sender current) s t := by
  refine ⟨_, rfl, Guards.of_changes (ps := failParts) (.ite (fun _ => ?_) fun _ => .ite (fun _ => ?_) fun _ => .refl _ s)⟩
  · exact (((s.measureCurrent_changes _).andThen (State.failAttempt_changes _) (rs := failParts)).andThen
      (State.object_changes _ _) (rs := failParts)).andThen (State.missRest_changes _)
  · refine .ite (fun _ => (s.raiseLineFault_changes _).andThen (State.missRest_changes _)) fun _ => ?_
    exact ((s.measureCurrent_changes _).trans (State.object_changes _ _)).andThen (State.missRest_changes _)

theorem guards_frameObjected (echo : Bool) (check : CheckRead) (current : LineCurrent) (s : State) :
    ∃ t, exec (.frameObjected echo check current) s = .next t ∧ Guards (.frameObjected echo check current) s t := by
  refine ⟨_, rfl, Guards.of_changes (ps := failParts) (.ite (fun _ => ?_) fun _ => .ite (fun _ => ?_) fun _ => .refl _ s)⟩
  · exact ((s.countEcho_changes _).trans (State.measureCurrent_changes _ _)).andThen (State.failAttempt_changes _)
  · exact (s.measureCurrent_changes _).andThen (State.judgeCheck_changes _ _)

theorem guards_lineStuck (s : State) :
    ∃ t, exec .lineStuck s = .next t ∧ Guards .lineStuck s t := by
  refine ⟨_, rfl, Guards.of_changes (ps := failParts) (.ite (fun _ => ?_) fun _ => .refl _ s)⟩
  exact (s.failAttempt_changes.andThen (State.mapLine_changes _ _ rfl) (rs := failParts)).andThen
    (State.raiseLineFault_changes _ _)

theorem guards_wakePulse (length : Nat) (s : State) :
    ∃ t, exec (.wakePulse length) s = .next t ∧ Guards (.wakePulse length) s t := by
  refine ⟨_, rfl, Guards.of_changes (ps := .doze :: wakeParts) (.ite (fun _ => .ite (fun _ => ?_) fun _ => .refl _ s) ?_)⟩
  · exact (s.exitDeepRest_changes _ _).andThen (State.testDoze_changes _)
  · exact fun _ => .ite (fun _ => (s.mapLine_changes _ rfl).within) fun _ => .refl _ s

theorem guards_driverOverload (s : State) :
    ∃ t, exec .driverOverload s = .next t ∧ Guards .driverOverload s t := by
  refine ⟨_, rfl, Guards.of_changes (ps := failParts) ?_⟩
  split
  · exact s.overload_changes
  · exact .ite (fun _ => (s.mapLine_changes _ rfl).andThen (State.raiseLineFault_changes _ _)) fun _ => .refl _ s
  · exact .refl _ s
  · exact .refl _ s

theorem guards_apertureBlocked (s : State) :
    ∃ t, exec .apertureBlocked s = .next t ∧ Guards .apertureBlocked s t := by
  refine ⟨_, rfl, Guards.of_changes (ps := .eyes :: .notice .vouchersExhausted :: apertureParts)
    (.ite (fun _ => .refl _ s) fun _ => ?_)⟩
  exact (((Changes.eyes s _).andThen (State.apertureEvent_changes _)
    (rs := .eyes :: .notice .vouchersExhausted :: apertureParts)).andThen (State.reportExhausted_changes _)
    (rs := .eyes :: .notice .vouchersExhausted :: apertureParts)).andThen (State.apertureSeen_changes _)

theorem guards_apertureClear (s : State) :
    ∃ t, exec .apertureClear s = .next t ∧ Guards .apertureClear s t := by
  refine ⟨_, rfl, Guards.of_changes (ps := .eyes :: .notice .containerDone :: apertureParts)
    (.ite (fun _ => ?_) fun _ => .refl _ s)⟩
  exact (((Changes.eyes s _).andThen (State.apertureEvent_changes _)
    (rs := .eyes :: .notice .containerDone :: apertureParts)).andThen (State.takeBack_changes _)
    (rs := .eyes :: .notice .containerDone :: apertureParts)).andThen (State.testDoze_changes _)

theorem guards_scanEyeBlocked (s : State) :
    ∃ t, exec .scanEyeBlocked s = .next t ∧ Guards .scanEyeBlocked s t := by
  refine ⟨_, rfl, Guards.of_changes (ps := .eyes :: .filter :: scanningParts)
    (.ite (fun _ => .refl _ s) fun _ => .ite (fun _ => ?_) fun _ => ?_)⟩
  · exact (Changes.eyes s _).andThen (State.filterBlocked_changes _)
  · exact (Changes.eyes s _).within

theorem guards_scanEyeCleared (s : State) :
    ∃ t, exec .scanEyeCleared s = .next t ∧ Guards .scanEyeCleared s t := by
  refine ⟨_, rfl, Guards.of_changes (ps := [.eyes, .filter])
    (.ite (fun _ => .refl _ s) fun _ => .ite (fun _ => ?_) fun _ => ?_)⟩
  · exact (Changes.eyes s _).andThen (Changes.filter _ (fun u => u.filtered) fun _ => some 0)
  · exact (Changes.eyes s _).within

theorem guards_transferEyeClear (s : State) :
    ∃ t, exec .transferEyeClear s = .next t ∧ Guards .transferEyeClear s t := by
  refine ⟨_, rfl, Guards.of_changes (ps := [.eyes, .holdDrive, .cleared]) (.ite (fun _ => ?_) fun _ => .refl _ s)⟩
  exact ((Changes.eyes s _).andThen (Changes.cleared _ true) (rs := [.eyes, .holdDrive, .cleared])).andThen
    (State.settleHold_changes _)

theorem guards_entryTimeExpired (s : State) :
    ∃ t, exec .entryTimeExpired s = .next t ∧ Guards .entryTimeExpired s t := by
  refine ⟨_, rfl, Guards.of_changes (ps := .notice .containerDone :: .doze :: startParts)
    (.ite (fun _ => ?_) fun _ => .refl _ s)⟩
  exact (s.entryTimedOut_changes.andThen (State.tryStart_changes _)
    (rs := .notice .containerDone :: .doze :: startParts)).andThen (State.testDoze_changes _)

theorem guards_containerScanComplete (rounds : Vector (Vector Sample 6) 4) (s : State) :
    ∃ t, exec (.containerScanComplete rounds) s = .next t ∧ Guards (.containerScanComplete rounds) s t := by
  refine ⟨_, rfl, Guards.of_changes (ps := .program :: lookupParts) (.ite (fun _ => ?_) fun _ => .refl _ s)⟩
  have built := (Changes.scanProgram s .watching (some (buildScan s.host.cfg rounds s.scan.overrunPending)) false).within
    (qs := .program :: lookupParts)
  exact (Changes.ite (fun _ => built.trans (State.closeWindow_changes _).within) fun _ => built).trans
    (State.testClassify_changes _).within

theorem guards_watchResult (supply : Vector Sample 4) (reference : Vector Sample 4) (s : State) :
    ∃ t, exec (.watchResult supply reference) s = .next t ∧ Guards (.watchResult supply reference) s t := by
  refine ⟨_, exec_watchResult supply reference s,
    Guards.of_changes (ps := .supply :: .notice .supply :: (driveParts ++ ownerParts)) (.ite (fun _ => ?_) fun _ => .refl _ s)⟩
  exact (((s.supplyJudged_changes _ _).andThen (State.followCut_changes _ _)
    (rs := .supply :: .notice .supply :: (driveParts ++ ownerParts))).andThen (State.referenceTold_changes _ _ _ _)
    (rs := .supply :: .notice .supply :: (driveParts ++ ownerParts))).andThen (State.supplyTold_changes _ _ _ _ _)

theorem guards_walkGroupRead (group : GroupBytes) (s : State) :
    ∃ t, exec (.walkGroupRead group) s = .next t ∧ Guards (.walkGroupRead group) s t := by
  refine ⟨_, rfl, Guards.of_changes (ps := walkParts) ?_⟩
  split
  · exact .ite (fun _ => .refl _ s) fun _ => s.walkRead_changes _ _
  · exact .refl _ s
  · exact .refl _ s

theorem guards_queryTimeExpired (s : State) :
    ∃ t, exec .queryTimeExpired s = .next t ∧ Guards .queryTimeExpired s t := by
  refine ⟨_, rfl, Guards.of_changes (ps := .lookup :: decisionParts) (.ite (fun _ => ?_) fun _ => .refl _ s)⟩
  split
  · exact s.endQuery_changes _
  · exact (Changes.lookup s _ rfl rfl rfl).within
  · exact (Changes.lookup s _ rfl rfl rfl).within

theorem guards_storeReadEnd (data : List Byte) (s : State) :
    ∃ t, exec (.storeReadEnd data) s = .next t ∧ Guards (.storeReadEnd data) s t := by
  refine ⟨_, rfl, Guards.of_changes (ps := [.lookup, .access, .answers]) ?_⟩
  split
  · exact .ite (fun _ => s.endAccess_changes _) fun _ => .refl _ s
  · exact .refl _ s

theorem guards_statusRead (status : Byte) (s : State) :
    ∃ t, exec (.statusRead status) s = .next t ∧ Guards (.statusRead status) s t := by
  refine ⟨_, rfl, Guards.of_changes (ps := resetParts) ?_⟩
  split
  · exact .ite (fun _ => .refl _ s) fun _ => s.endWrite_changes _
  · exact .refl _ s

theorem guards_storeBusyTimeExpired (s : State) :
    ∃ t, exec .storeBusyTimeExpired s = .next t ∧ Guards .storeBusyTimeExpired s t := by
  refine ⟨_, rfl, Guards.of_changes (ps := resetParts) (.ite (fun _ => ?_) fun _ => .refl _ s)⟩
  split
  · exact (s.raise_changes _ (k := .storeFault)).andThen (State.endWrite_changes _ _) (left := by simp [allNoticeKinds])
  · exact (Changes.articleWork s _ rfl).within

theorem guards_graceTimeExpired (channel : Channel) (s : State) :
    ∃ t, exec (.graceTimeExpired channel) s = .next t ∧ Guards (.graceTimeExpired channel) s t := by
  refine ⟨_, rfl, Guards.of_changes (ps := .notice .driveFault :: (driveParts ++ ownerParts))
    (.ite (fun _ => .ite (fun _ => ?_) fun _ => (s.anyChannel_changes channel _).within) fun _ => .refl _ s)⟩
  exact (s.faultAny_changes channel).andThen (State.tellOwners_changes _ _)

theorem guards_heatStageChange (crossing : HeatCrossing) (s : State) :
    ∃ t, exec (.heatStageChange crossing) s = .next t ∧ Guards (.heatStageChange crossing) s t := by
  refine ⟨_, rfl, Guards.of_changes (ps := .heat :: .notice .thermal :: (driveParts ++ ownerParts)) ?_⟩
  split
  · exact (s.enterStage_changes _ _).andThen (State.followCut_changes _ _)
  · exact .refl _ s

theorem guards_idleTimerExpired (s : State) :
    ∃ t, exec .idleTimerExpired s = .next t ∧ Guards .idleTimerExpired s t := by
  refine ⟨_, rfl, Guards.of_changes (ps := .doze :: closeParts) (.ite (fun _ => .ite (fun _ => ?_) fun _ => ?_) fun _ => .refl _ s)⟩
  · exact (s.beginClose_changes _).andThen (State.testDoze_changes _)
  · exact (s.mapSession_changes _ rfl rfl).within

theorem guards_writeTransactionEnd (s : State) :
    ∃ t, exec .writeTransactionEnd s = .next t ∧ Guards .writeTransactionEnd s t := by
  refine ⟨_, rfl, Guards.of_changes (ps := [.lookup, .access]) ?_⟩
  split
  · exact .articleWork s _ rfl
  · exact .refl _ s

theorem guards_claimTaken (rx : Reception) (sender : Nibble) (cleat : Cleat) (bin : Nibble) (used : Word16)
    (s : State) :
    ∃ t, exec (.claimTaken rx sender cleat bin used) s = .next t ∧ Guards (.claimTaken rx sender cleat bin used) s t :=
  ⟨_, rfl, .of_changes (s.take_changes rx _ (parts := .hold :: .map :: adoptParts ++ giveUpParts)
    (fun t => (t.applyClaim_changes _ _ _ _).within) fun own t => (t.reportClaim_changes _ own).within)⟩

theorem guards_releaseTaken (rx : Reception) (sender : Nibble) (cleat : Cleat) (s : State) :
    ∃ t, exec (.releaseTaken rx sender cleat) s = .next t ∧ Guards (.releaseTaken rx sender cleat) s t :=
  ⟨_, rfl, .of_changes (s.take_changes rx _ (fun t => t.applyRelease_changes _ _) (noReport_changes _))⟩

theorem guards_loadTaken (rx : Reception) (sender : Nibble) (cleat : Cleat) (bin : Nibble)
    (material : Nibble) (used : Word16) (s : State) :
    ∃ t, exec (.loadTaken rx sender cleat bin material used) s = .next t ∧ Guards (.loadTaken rx sender cleat bin material used) s t :=
  ⟨_, rfl, .of_changes (s.take_changes rx _ (fun t => t.applyLoad_changes _ _ _ _ _) (noReport_changes _))⟩

theorem guards_strayTaken (rx : Reception) (sender : Nibble) (cleat : Cleat) (s : State) :
    ∃ t, exec (.strayTaken rx sender cleat) s = .next t ∧ Guards (.strayTaken rx sender cleat) s t :=
  ⟨_, rfl, .of_changes (s.take_changes rx _ (fun t => t.applyStray_changes _) (noReport_changes _))⟩

theorem guards_misrouteTaken (rx : Reception) (sender : Nibble) (cleat : Cleat) (bin : Nibble)
    (used : Word16) (s : State) :
    ∃ t, exec (.misrouteTaken rx sender cleat bin used) s = .next t ∧ Guards (.misrouteTaken rx sender cleat bin used) s t :=
  ⟨_, rfl, .of_changes (s.take_changes rx _ (fun t => t.adopt_changes _ _ _ _) (noReport_changes _))⟩

theorem guards_binSetTaken (rx : Reception) (sender : Nibble) (bin : Nibble) (used : Word16) (s : State) :
    ∃ t, exec (.binSetTaken rx sender bin used) s = .next t ∧ Guards (.binSetTaken rx sender bin used) s t :=
  ⟨_, rfl, .of_changes (s.take_changes rx _ (fun t => t.applyBinSet_changes _ _ _) (noReport_changes _))⟩

theorem guards_binHoldTaken (rx : Reception) (sender : Nibble) (bin : Nibble) (cause : Nibble) (s : State) :
    ∃ t, exec (.binHoldTaken rx sender bin cause) s = .next t ∧ Guards (.binHoldTaken rx sender bin cause) s t :=
  ⟨_, rfl, .of_changes (s.take_changes rx _ (fun t => t.setBinState_changes _ _) (noReport_changes _))⟩

theorem guards_binOpenTaken (rx : Reception) (sender : Nibble) (bin : Nibble) (s : State) :
    ∃ t, exec (.binOpenTaken rx sender bin) s = .next t ∧ Guards (.binOpenTaken rx sender bin) s t :=
  ⟨_, rfl, .of_changes (s.take_changes rx _ (fun t => t.setBinState_changes _ _) (noReport_changes _))⟩

theorem guards_countsTaken (rx : Reception) (sender : Nibble) (digest : Word16) (used : Vector Word16 8) (s : State) :
    ∃ t, exec (.countsTaken rx sender digest used) s = .next t ∧ Guards (.countsTaken rx sender digest used) s t :=
  ⟨_, rfl, .of_changes (s.take_changes rx _ (parts := .notice .lineFault :: adoptParts ++ foreignParts)
    (fun t => (t.applyCounts_changes _ _ _).within) fun own t => (t.reportCounts_changes _ own).within)⟩

theorem guards_joinTaken (rx : Reception) (sender : Nibble) (digest : Word16) (s : State) :
    ∃ t, exec (.joinTaken rx sender digest) s = .next t ∧ Guards (.joinTaken rx sender digest) s t :=
  ⟨_, rfl, .of_changes (s.take_changes rx _ (fun t => .refl _ t) fun own t => t.reportJoin_changes _ _ own)⟩

theorem guards_unusedKindTaken (rx : Reception) (sender : Nibble) (kind : Nibble) (s : State) :
    ∃ t, exec (.unusedKindTaken rx sender kind) s = .next t ∧ Guards (.unusedKindTaken rx sender kind) s t :=
  ⟨_, rfl, .of_changes (.ite (fun _ => s.receiveTaken_changes _ _) fun _ => .refl _ s)⟩

theorem guards_codeReaderCharacter (data : Byte) (parity : Bool) (stop : Bool) (s : State) :
    ∃ t, exec (.codeReaderCharacter data parity stop) s = .next t ∧ Guards (.codeReaderCharacter data parity stop) s t :=
  ⟨_, rfl, .of_changes (s.characterRead_changes data parity stop)⟩

theorem guards_driveLimitReached (channel : Channel) (s : State) :
    ∃ t, exec (.driveLimitReached channel) s = .next t ∧ Guards (.driveLimitReached channel) s t :=
  ⟨_, rfl, .of_changes (s.anyChannel_changes channel _)⟩

theorem guards_driveLimitLeft (channel : Channel) (s : State) :
    ∃ t, exec (.driveLimitLeft channel) s = .next t ∧ Guards (.driveLimitLeft channel) s t :=
  ⟨_, rfl, .of_changes (s.anyChannel_changes channel _)⟩

theorem guards_coolOffExpired (channel : Channel) (s : State) :
    ∃ t, exec (.coolOffExpired channel) s = .next t ∧ Guards (.coolOffExpired channel) s t :=
  ⟨_, rfl, .of_changes (s.anyChannel_changes channel _)⟩

theorem guards_flapTimeExpired (s : State) :
    ∃ t, exec .flapTimeExpired s = .next t ∧ Guards .flapTimeExpired s t :=
  ⟨_, rfl, .of_changes (.ite (fun _ => (s.mapChannel_changes .flap _).trans (Changes.flapTimer _ none)) fun _ =>
    .refl _ s)⟩

theorem guards_cleanRunExpired (channel : Channel) (s : State) :
    ∃ t, exec (.cleanRunExpired channel) s = .next t ∧ Guards (.cleanRunExpired channel) s t :=
  ⟨_, rfl, .of_changes (s.anyChannel_changes channel _)⟩

/-- Every command keeps its guarded parts. -/
theorem exec_guards (i : Instr) (s : State) : ∃ t, exec i s = .next t ∧ Guards i s t := by
  cases i with
  | powerOnReset temperature => exact ⟨_, exec_powerOnReset temperature s, s.powerOn_guards temperature⟩
  | setConfiguration carried => exact ⟨_, rfl, .of_transact (configureRequest_writes carried)⟩
  | start => exact ⟨_, rfl, .of_transact startRequest_writes⟩
  | readStatus => exact ⟨_, rfl, .of_transact (answerOnly_writes _)⟩
  | readNotices => exact ⟨_, rfl, .of_transact noticesRequest_writes⟩
  | readMap first count => exact ⟨_, rfl, .of_transact (mapRequest_writes first count)⟩
  | readBins => exact ⟨_, rfl, .of_transact (answerOnly_writes _)⟩
  | readPath => exact ⟨_, rfl, .of_transact (answerOnly_writes _)⟩
  | readSession => exact ⟨_, rfl, .of_transact (answerOnly_writes _)⟩
  | closeSession => exact ⟨_, rfl, .of_transact closeRequest_writes⟩
  | takeVoucher => exact ⟨_, rfl, .of_transact voucherRequest_writes⟩
  | readHistory => exact ⟨_, rfl, .of_transact (answerOnly_writes _)⟩
  | articleAnswer code kind record option =>
    exact ⟨_, rfl, .of_transact (answerArticle_writes code kind record option)⟩
  | revokeArticle code => exact ⟨_, rfl, .of_transact (revokeRequest_writes code)⟩
  | storeRead address length => exact ⟨_, rfl, .of_transact (storeRequest_writes _ _ _)⟩
  | storeWrite address data => exact ⟨_, rfl, .of_transact (storeRequest_writes _ _ _)⟩
  | binSet bin used => exact ⟨_, rfl, .of_transact (binRequest_writes _ _)⟩
  | binHold bin => exact ⟨_, rfl, .of_transact (binRequest_writes _ _)⟩
  | binOpen bin => exact ⟨_, rfl, .of_transact (binRequest_writes _ _)⟩
  | grantDoze => exact ⟨_, rfl, .of_transact dozeRequest_writes⟩
  | deepRest => exact ⟨_, rfl, .of_transact restRequest_writes⟩
  | wake => exact ⟨_, rfl, .of_transact wakeRequest_writes⟩
  | restart => exact guards_restart s
  | clearDrive channel => exact ⟨_, rfl, .of_transact (clearRequest_writes channel)⟩
  | clearJam => exact ⟨_, rfl, .of_transact jamRequest_writes⟩
  | badRequest reason =>
    refine ⟨_, rfl, Guards.of_changes (ps := [.answers]) (.ite (fun _ => s.shiftBusy_changes) fun _ => ?_)⟩
    exact s.shiftOut_changes.trans (State.setAnswer_changes _ _)
  | emptyTransaction =>
    exact ⟨_, rfl, Guards.of_changes (ps := [.answers]) (.ite (fun _ => s.shiftBusy_changes) fun _ => s.shiftOut_changes)⟩
  | pitchMark landing =>
    have eyes := (Changes.eyes s { s.eyes with landing := landing, home := false }).within (qs := .eyes :: markParts)
    exact ⟨_, rfl, .of_changes (.ite (fun _ => eyes.trans (State.pitchWork_changes _ _ _).within) fun _ => eyes)⟩
  | homeMark landing =>
    have eyes := (Changes.eyes s { s.eyes with landing := landing, home := true }).within (qs := .eyes :: markParts)
    exact ⟨_, rfl, .of_changes (.ite (fun _ => eyes.trans (State.pitchWork_changes _ _ _).within) fun _ => eyes)⟩
  | frameStart => exact guards_frameStart s
  | arbitrationLost =>
    refine ⟨_, rfl, Guards.of_changes (ps := [.queue]) (.ite (fun _ => ?_) fun _ => .refl _ s)⟩
    exact .ite (fun _ => s.removeInFlight_changes) fun _ => s.mapInFlight_changes _
  | arbitrationWon =>
    exact ⟨_, rfl, Guards.of_changes (ps := [.queue]) (.ite (fun _ => s.mapInFlight_changes _) fun _ => .refl _ s)⟩
  | frameError error kind sender current => exact guards_frameError error kind sender current s
  | frameObjected echo check current => exact guards_frameObjected echo check current s
  | claimTaken rx sender cleat bin used => exact guards_claimTaken rx sender cleat bin used s
  | releaseTaken rx sender cleat => exact guards_releaseTaken rx sender cleat s
  | loadTaken rx sender cleat bin material used => exact guards_loadTaken rx sender cleat bin material used s
  | strayTaken rx sender cleat => exact guards_strayTaken rx sender cleat s
  | misrouteTaken rx sender cleat bin used => exact guards_misrouteTaken rx sender cleat bin used s
  | binSetTaken rx sender bin used => exact guards_binSetTaken rx sender bin used s
  | binHoldTaken rx sender bin cause => exact guards_binHoldTaken rx sender bin cause s
  | binOpenTaken rx sender bin => exact guards_binOpenTaken rx sender bin s
  | countsTaken rx sender digest used => exact guards_countsTaken rx sender digest used s
  | joinTaken rx sender digest => exact guards_joinTaken rx sender digest s
  | unusedKindTaken rx sender kind => exact guards_unusedKindTaken rx sender kind s
  | lineBusy => exact ⟨_, rfl, .of_changes (.ite (fun _ => s.mapLine_changes _ rfl) fun _ => .refl _ s)⟩
  | lineQuiet => exact ⟨_, rfl, .of_changes (.ite (fun _ => s.mapLine_changes _ rfl) fun _ => .refl _ s)⟩
  | lineStuck => exact guards_lineStuck s
  | stuckCleared length =>
    refine ⟨_, rfl, Guards.of_changes (ps := failParts) (.ite (fun _ => ?_) fun _ => .refl _ s)⟩
    exact (s.mapLine_changes _ rfl).andThen (State.raiseLineFault_changes _ _)
  | wakePulse length => exact guards_wakePulse length s
  | wakePulseSend => exact ⟨_, rfl, .of_changes (.ite (fun _ => s.mapLine_changes _ rfl) fun _ => .refl _ s)⟩
  | wakePulseDone =>
    refine ⟨_, rfl, Guards.of_changes (ps := [.lineBody, .draws]) (.ite (fun _ => ?_) fun _ => .refl _ s)⟩
    exact (s.measurePulse_changes).andThen (State.mapLine_changes _ _ rfl)
  | driverOverload => exact guards_driverOverload s
  | driverCoolOffEnd => exact ⟨_, rfl, .of_changes (s.mapLine_changes _ rfl)⟩
  | apertureBlocked => exact guards_apertureBlocked s
  | apertureClear => exact guards_apertureClear s
  | scanEyeBlocked => exact guards_scanEyeBlocked s
  | scanEyeCleared => exact guards_scanEyeCleared s
  | scanGapExpired => exact ⟨_, rfl, .of_changes (.ite (fun _ => s.gapExpired_changes) fun _ => .refl _ s)⟩
  | transferEyeBlocked =>
    refine ⟨_, rfl, Guards.of_changes (ps := [.eyes, .holdDrive]) (.ite (fun _ => .refl _ s) fun _ => ?_)⟩
    exact (Changes.eyes s _).andThen (State.settleHold_changes _)
  | transferEyeClear => exact guards_transferEyeClear s
  | entryTimeExpired => exact guards_entryTimeExpired s
  | readTimeExpired =>
    exact ⟨_, rfl, .of_changes (ps := lookupParts) (.ite (fun _ => s.closeWindow_changes.andThen (State.testClassify_changes _)) fun _ =>
      .refl _ s)⟩
  | containerScanComplete rounds => exact guards_containerScanComplete rounds s
  | codeReaderCharacter data parity stop => exact guards_codeReaderCharacter data parity stop s
  | watchResult supply reference => exact guards_watchResult supply reference s
  | walkGroupRead group => exact guards_walkGroupRead group s
  | queryTimeExpired => exact guards_queryTimeExpired s
  | storeReadEnd data => exact guards_storeReadEnd data s
  | statusRead status => exact guards_statusRead status s
  | storeBusyTimeExpired => exact guards_storeBusyTimeExpired s
  | driveLimitReached channel => exact guards_driveLimitReached channel s
  | driveLimitLeft channel => exact guards_driveLimitLeft channel s
  | graceTimeExpired channel => exact guards_graceTimeExpired channel s
  | coolOffExpired channel => exact guards_coolOffExpired channel s
  | flapTimeExpired => exact guards_flapTimeExpired s
  | cleanRunExpired channel => exact guards_cleanRunExpired channel s
  | heatStageChange crossing => exact guards_heatStageChange crossing s
  | idleTimerExpired => exact guards_idleTimerExpired s
  | dozeTimerExpired =>
    refine ⟨_, rfl, Guards.of_changes (ps := [.doze, .notice .dozeOffer]) (.ite (fun _ => ?_) fun _ => .refl _ s)⟩
    exact (Changes.doze s _ _).andThen (State.raise_changes _ _ (k := .dozeOffer))
  | readerMarkLevelReached => exact ⟨_, rfl, .of_changes (.ite (fun _ => .reader s _) fun _ => .refl _ s)⟩
  | writeTransactionEnd => exact guards_writeTransactionEnd s

/-- Settles O2: each clause is the guard of its parts. -/
theorem everyCommandCompletesInItsFrame : Obligations.EveryCommandCompletesInItsFrame := by
  intro i s
  obtain ⟨t, done, guards⟩ := exec_guards i s
  have used (kept : writesBins i = false) : t.part .used = s.part .used := guards _ (by simp [guarded, unlessWritten, kept])
  have states (kept : writesBins i = false) : t.part .binStates = s.part .binStates := guards _ (by simp [guarded, unlessWritten, kept])
  refine ⟨t, done, guards .pending (by simp [guarded]), fun kept => guards .eyes (by simp [guarded, unlessWritten, kept]),
    fun kept => ?_, fun kept => guards .started (by simp [guarded, unlessWritten, kept]),
    fun kept => ⟨guards .belt (by simp [guarded, unlessWritten, kept]), guards .dutyReports (by simp [guarded, unlessWritten, kept])⟩,
    fun kept => guards .map (by simp [guarded, unlessWritten, kept]), fun kept b => ⟨congrFun (used kept) b, congrFun (states kept) b⟩,
    fun kept => guards .heat (by simp [guarded, unlessWritten, kept]), fun kept => guards .history (by simp [guarded, unlessWritten, kept]),
    fun kept => guards .cache (by simp [guarded, unlessWritten, kept])⟩
  have cfg : t.part .cfg = s.part .cfg := guards _ (by simp [guarded, unlessWritten, kept])
  exact ⟨congrArg Prod.fst cfg, congrArg (·.2.1) cfg, congrArg (·.2.2) cfg⟩

end Machine
end Sys2Proof
end

section
/-! PROOF. O18, O20, O21, O24: the start of a frame, its failed attempt, the errors and objections, and the driver. -/
set_option Elab.async false
namespace Sys2Proof
namespace Machine

-- The start of a frame (O18)

theorem startFirst_split {allowed : QueuedFrame → Bool} {pre post : List QueuedFrame} {g : QueuedFrame}
    (others : ∀ f ∈ pre, allowed f = false) (first : allowed g = true) : startFirst allowed (pre ++ g :: post) =
      pre ++ { g with phase := .arbitrating, behind := false } :: post := by
  induction pre with
  | nil => simp [startFirst, first]
  | cons f pre ih =>
    have not_f : allowed f = false := others f List.mem_cons_self
    simp [startFirst, not_f, ih fun f mem => others f (List.mem_cons_of_mem _ mem)]

theorem State.allows_iff (s : State) (f : QueuedFrame) : s.allows f = true ↔
    f.frame.kind.allowedIn s.member.state = true ∧ ¬(f.behind = true ∧ s.queues .binOpen f.frame.subject) := by
  simp only [State.allows, State.queues, Bool.and_eq_true, Bool.not_eq_true', Bool.and_eq_false_iff, List.any_eq_false]
  simp [imp_iff_not_or]

theorem State.inFlight_none_iff (s : State) : s.inFlight = none ↔ allWaiting s.line.queue := by
  simp [State.inFlight, allWaiting]

theorem State.mayStartFrame_iff (s : State) : s.mayStartFrame = true ↔
    s.line.condition = .quiet ∧ s.line.driver = .ready ∧ s.line.wake = .none ∧ allWaiting s.line.queue
      ∧ ∃ f ∈ s.line.queue, s.allows f = true := by
  simp [State.mayStartFrame, s.inFlight_none_iff, and_assoc]

/-- Settles O18: the frames ahead of the first that may go stay as they are. -/
theorem frameStarts : Obligations.FrameStarts := by
  intro s goes
  have allows (f : QueuedFrame) : s.allows f = true ↔ goes f := s.allows_iff f
  refine ⟨fun pre g post quiet ready noWake queue waiting others first => ?_, fun stopped => ?_, fun k => ?_⟩
  · have may : s.mayStartFrame = true := s.mayStartFrame_iff.mpr
      ⟨quiet, ready, noWake, waiting, g, by simp [queue], (allows g).mpr first⟩
    have started := startFirst_split (post := post)
      (fun f mem => Bool.eq_false_iff.mpr fun h => others f mem ((allows f).mp h)) ((allows g).mpr first)
    simp only [exec, execFrameStart, may, if_true, State.mapLine, queue, started]
  · have mayNot : s.mayStartFrame ≠ true := fun may => by
      obtain ⟨quiet, ready, noWake, waiting, f, mem, may⟩ := s.mayStartFrame_iff.mp may
      rcases stopped with h | h | h | h | h
      · exact h quiet
      · exact h ready
      · exact h noWake
      · exact h waiting
      · exact h f mem ((allows f).mp may)
    simp only [exec, execFrameStart, mayNot]
    rfl
  · cases k <;> decide

-- A failed attempt (02 R42, 01 R7)

section Sent
variable {s : State} {pre post : List QueuedFrame} {g : QueuedFrame}
  (q : s.line.queue = pre ++ g :: post) (hp : allWaiting pre) (hq : allWaiting post) (hg : g.phase ≠ .waiting)
include q hp hq hg

/-- A failed attempt that drops the frame. -/
theorem State.failAttempt_of_drops (drops : g.drops) : s.failAttempt =
    ((s.setQueue (pre ++ post)).raiseLineFault (.dropped g.frame.kind g.frame.subject)).frameDropped g.frame := by
  have last : ¬g.attempts + 1 < Config.attemptLimit := by have := drops.2; simp [Config.attemptLimit]; omega
  simp [State.failAttempt, State.inFlight_split q hp hg, State.removeInFlight_split q hp hq hg, drops.1, last]

/-- A failed attempt that leaves the frame, or lets it go without a notice. -/
theorem State.failAttempt_of_not_drops (stays : ¬g.drops) :
    s.failAttempt = s.setQueue (queueAfterFailure pre g post) := by
  simp only [State.failAttempt, State.inFlight_split q hp hg, State.removeInFlight_split q hp hq hg,
    State.mapInFlight_split q hp hq hg, queueAfterFailure]
  by_cases quiet : g.noRetry = true
  · simp [quiet]
  · have early : ¬3 ≤ g.attempts := fun h => stays ⟨by simpa using quiet, h⟩
    simp [quiet, early, Config.attemptLimit, show g.attempts + 1 < 4 by omega]

theorem State.failAttempt_line : s.failAttempt.line = { s.line with queue := queueAfterFailure pre g post } := by
  rw [s.failAttempt_changes.lineBody, State.failAttempt_queue q hp hq hg]

theorem State.failAttempt_notices_of_drops (drops : g.drops) :
    s.failAttempt.notices = (s.raise (.lineFault (.dropped g.frame.kind g.frame.subject))).notices := by
  rw [State.failAttempt_of_drops q hp hq hg drops]
  exact (State.frameDropped_changes _ _).notices

theorem State.failAttempt_notices_of_not_drops (stays : ¬g.drops) : s.failAttempt.notices = s.notices := by
  rw [State.failAttempt_of_not_drops q hp hq hg stays]
  rfl

theorem State.failAttempt_failedFor : s.failedFor s.failAttempt g := by
  have others : s.failAttempt = { s with
      line := s.failAttempt.line, notices := s.failAttempt.notices, member := s.failAttempt.member
      path := s.failAttempt.path } := by
    by_cases drops : g.drops
    · rw [State.failAttempt_of_drops q hp hq hg drops]
      cases g.frame with
      | claim x b u =>
        simp only [State.frameDropped, State.dropClaim, State.mapHead]
        split <;> rfl
      | join d =>
        simp only [State.frameDropped]
        split <;> rfl
      | _ => rfl
    · rw [State.failAttempt_of_not_drops q hp hq hg drops]
      rfl
  refine ⟨fun d drops join listening => ?_, fun not_join => ?_, fun x b u h rest drops claim hold link cleat => ?_,
    fun not_claim => ?_, others, s.failAttempt_changes.sameNoticesBut _⟩
  · have listens : ((s.setQueue (pre ++ post)).raiseLineFault (.dropped g.frame.kind g.frame.subject)).member =
        .listening .joinPending := listening
    rw [State.failAttempt_of_drops q hp hq hg drops, join]
    simp only [State.frameDropped]
    rw [join] at listens
    rw [if_pos listens]
  · by_cases drops : g.drops
    · rw [State.failAttempt_of_drops q hp hq hg drops]
      cases eq : g.frame with
      | join d => exact absurd ⟨drops, by rw [eq]; rfl⟩ not_join
      | claim x b u => exact (State.dropClaim_changes _ _).keeps .member
      | _ => rfl
    · rw [State.failAttempt_of_not_drops q hp hq hg drops]
      rfl
  · rw [State.failAttempt_of_drops q hp hq hg drops, claim]
    simp [State.frameDropped, State.dropClaim, State.mapHead, State.raiseLineFault, State.raise, State.setQueue, hold,
      link, cleat, Container.unlinked]
  · by_cases drops : g.drops
    · rw [State.failAttempt_of_drops q hp hq hg drops]
      cases eq : g.frame with
      | claim x b u => exact absurd ⟨drops, by rw [eq]; rfl⟩ not_claim
      | join d =>
        simp only [State.frameDropped]
        split <;> rfl
      | _ => rfl
    · rw [State.failAttempt_of_not_drops q hp hq hg drops]
      rfl

end Sent

theorem State.frameDropped_online (s : State) (f : Frame) : (s.frameDropped f).online = s.online := by
  cases f with
  | join d =>
    simp only [State.frameDropped]
    split
    · rename_i listens
      simp only [State.online, listens]
      rfl
    · rfl
  | claim x b u =>
    have member : (s.dropClaim x).member = s.member := (s.dropClaim_changes x).keeps .member
    simp only [State.frameDropped, State.online, member]
  | _ => rfl

theorem State.failAttempt_online (s : State) : s.failAttempt.online = s.online := by
  unfold State.failAttempt
  split
  · rfl
  · split
    · rfl
    · split
      · rfl
      · exact State.frameDropped_online _ _

/-- What follows a failed attempt on the line alone leaves what the attempt did. -/
theorem State.failedFor.after {s t u : State} {g : QueuedFrame} (h : s.failedFor t g)
    (same : u = { t with line := u.line, notices := u.notices }) (notices : t.sameNoticesBut [.lineFault] u) :
    s.failedFor u g := by
  obtain ⟨join, member, claim, path, others, quiet⟩ := h
  have member' : u.member = t.member := by rw [same]
  have path' : u.path = t.path := by rw [same]
  refine ⟨fun d drops eq listens => member'.trans (join d drops eq listens), fun no => member'.trans (member no),
    fun x b w h rest drops eq hold link cleat => path'.trans (claim x b w h rest drops eq hold link cleat),
    fun no => path'.trans (path no), ?_, fun k other => (notices k other).trans (quiet k other)⟩
  rw [member', path']
  rw [others] at same
  exact same

-- A lost arbitration and an objected frame (O20)

theorem exec_frameObjected_sent {s : State} (sending : s.sending = true) (echo : Bool) (check : CheckRead)
    (cur : LineCurrent) : exec (.frameObjected echo check cur) s =
      .next ((s.countEcho echo).measureCurrent cur).failAttempt := by
  simp only [exec, execFrameObjected, sending, if_true]

theorem exec_frameObjected_received {s : State} (waiting : allWaiting s.line.queue) (receiving : s.receiving = true)
    (echo : Bool) (check : CheckRead) (cur : LineCurrent) : exec (.frameObjected echo check cur) s =
      .next ((s.measureCurrent cur).judgeCheck check) := by
  have notSending : s.sending = false := by simp [State.sending, State.inFlight_none waiting]
  simp only [exec, execFrameObjected, notSending, receiving, if_true]
  rfl

/-- Settles O20. -/
theorem lostAndObjectedFrames : Obligations.LostAndObjectedFrames := by
  intro s pre post g echo check cur
  refine ⟨fun q hp hq => ⟨fun hg => ?_, fun hg => ?_⟩, fun waiting receiving => ⟨?_, fun kind sender => ⟨?_, ?_⟩⟩⟩
  · have sent : g.phase ≠ .waiting := by simp [hg]
    have flight := State.inFlight_split q hp sent
    have arbitrates : s.arbitrating = true := by simp [State.arbitrating, flight, hg]
    simp only [exec, execArbitrationLost, arbitrates, if_true, flight, Option.any_some,
      State.removeInFlight_split q hp hq sent, State.mapInFlight_split q hp hq sent]
    by_cases quiet : g.noRetry = true <;> simp [quiet, State.setQueue]
  · have sent : g.phase ≠ .waiting := by simp [hg]
    have sending : s.sending = true := by simp [State.sending, State.inFlight_split q hp sent, hg]
    have q' : ((s.countEcho echo).measureCurrent cur).line.queue = pre ++ g :: post := q
    refine ⟨_, exec_frameObjected_sent sending echo check cur, State.failAttempt_line q' hp hq sent, fun drops => ?_,
      fun stays => State.failAttempt_notices_of_not_drops q' hp hq sent stays, State.failAttempt_failedFor q' hp hq sent⟩
    unfold State.noticeOf
    rw [State.failAttempt_notices_of_drops q' hp hq sent drops]
    exact State.raise_noticeOf_same _ _
  · rw [exec_frameObjected_received waiting receiving]
    rfl
  · intro ready
    have ready' : ¬((s.measureCurrent cur).driveSlot .objection).line.driver = .coolOff := ready
    rw [exec_frameObjected_received waiting receiving]
    simp only [State.judgeCheck, ready', if_false]
    rfl
  · intro cooling
    have cooling' : ((s.measureCurrent cur).driveSlot .objection).line.driver = .coolOff := cooling
    rw [exec_frameObjected_received waiting receiving]
    simp only [State.judgeCheck, cooling', if_true]
    rfl

-- A frame error (O21)

/-- The Line Controller after an error that the station has found (02 R38, R39, R30). -/
theorem State.object_missRest (s : State) (error : FrameFault) : (s.object error).missRest = { s with line := { s.line with
    missing := true, objecting := s.driverDrives && error != .checkMismatch
    slot := if s.driverDrives = true ∧ error = .checkMismatch then .objection else .none } } := by
  have slot : (if s.driverDrives then (if error = .checkMismatch then .objection else .none) else .none : SlotDrive) =
      if s.driverDrives = true ∧ error = .checkMismatch then .objection else .none := by
    by_cases drives : s.driverDrives = true <;> simp [drives]
  rw [← slot]
  rfl

theorem exec_frameError_sent {s : State} (sent : s.inFlight.isSome = true) (error : FrameFault)
    (kind sender : Option Nibble) (cur : LineCurrent) : exec (.frameError error kind sender cur) s =
      .next (((s.measureCurrent cur).failAttempt.object error).missRest) := by
  simp only [exec, execFrameError, sent, if_true]

theorem exec_frameError_received {s : State} (waiting : allWaiting s.line.queue) (error : FrameFault)
    (kind sender : Option Nibble) (cur : LineCurrent) : exec (.frameError error kind sender cur) s =
      .next (if s.receiving = true ∧ error ≠ .bitError then
        if s.line.driver = .coolOff then (s.raiseLineFault (.unobjected kind sender)).missRest
        else ((s.measureCurrent cur).object error).missRest
      else s) := by
  simp [exec, execFrameError, State.inFlight_none waiting]

/-- Settles O21. -/
theorem errorIsObjected : Obligations.ErrorIsObjected := by
  refine ⟨fun s error kind sender cur => ⟨fun pre g post q hp hq hg => ?_, fun waiting receiving notBit =>
    ⟨fun ready => ?_, fun cooling => ?_⟩, fun waiting idle => ?_⟩, rfl, rfl, rfl, rfl, by decide, fun _ => rfl, rfl, rfl⟩
  · have q' : (s.measureCurrent cur).line.queue = pre ++ g :: post := q
    have sent : s.inFlight.isSome = true := by simp [State.inFlight_split q hp hg]
    have line := State.failAttempt_line q' hp hq hg
    have driver : (s.measureCurrent cur).failAttempt.line.driver = s.line.driver := by rw [line]; rfl
    have drives : (s.measureCurrent cur).failAttempt.driverDrives = s.driverDrives := by
      simp only [State.driverDrives, driver]
    have after := (s.measureCurrent cur).failAttempt.object_missRest error
    refine ⟨_, exec_frameError_sent sent error kind sender cur, ?_, fun drops => ?_, fun stays => ?_, ?_⟩
    · rw [after, drives, line]
      rfl
    · rw [after]
      unfold State.noticeOf
      rw [State.failAttempt_notices_of_drops q' hp hq hg drops]
      exact State.raise_noticeOf_same _ _
    · rw [after]
      exact State.failAttempt_notices_of_not_drops q' hp hq hg stays
    · have failed : (s.measureCurrent cur).failedFor
          ((s.measureCurrent cur).failAttempt.object error).missRest g := by
        refine State.failedFor.after (State.failAttempt_failedFor q' hp hq hg) ?_ fun _ _ => ?_
        · rw [after]
        · rw [after]
      exact failed
  · rw [exec_frameError_received waiting, if_pos ⟨receiving, notBit⟩, if_neg ready, State.object_missRest]
    rfl
  · rw [exec_frameError_received waiting, if_pos ⟨receiving, notBit⟩, if_pos cooling]
    rfl
  · have not_found : ¬(s.receiving = true ∧ error ≠ .bitError) := fun ⟨receiving, notBit⟩ => by
      rcases idle with h | h
      · simp [h] at receiving
      · exact notBit h
    rw [exec_frameError_received waiting, if_neg not_found]

-- The driver (O24)

theorem timerAfter_append (timer : Nat) (cur : LineCurrent) (above : Bool) :
    timerAfter timer (cur ++ [above]) = if above then min 16 (timerAfter timer cur + 1) else 0 := by
  simp only [timerAfter, List.foldl_append]
  rfl

/-- The Line Controller right after an overload in READY (02 R29). -/
def Line.overloaded (l : Line) : Line :=
  { l with
    overloadTimer := 0, overloadCount := l.overloadCount + 1, driver := overloadState (l.overloadCount + 1)
    objecting := false, slot := .none
    driverCoolOff := if overloadState (l.overloadCount + 1) = .coolOff then some 0 else none
    wake := if overloadState (l.overloadCount + 1) = .faulted ∨ l.wake = .driving then .none else l.wake }

theorem exec_driverOverload_ready {s : State} (ready : s.line.driver = .ready) (body : s.failAttempt.line =
    { s.line with queue := s.failAttempt.line.queue }) : exec .driverOverload s = .next
      ((s.failAttempt.mapLine Line.overloaded).raise (.lineFault (.overload (s.line.overloadCount + 1)
        (overloadState (s.line.overloadCount + 1)) (s.inFlight.map fun g => g.frame.kind)))) := by
  have count : s.failAttempt.line.overloadCount = s.line.overloadCount := by rw [body]
  have same : Line.overloaded s.failAttempt.line = (fun l : Line => { l with
      overloadTimer := 0, overloadCount := s.line.overloadCount + 1
      driver := overloadState (s.line.overloadCount + 1), objecting := false, slot := .none
      driverCoolOff := if overloadState (s.line.overloadCount + 1) = .coolOff then some 0 else none
      wake := if overloadState (s.line.overloadCount + 1) = .faulted ∨ l.wake = .driving then .none else l.wake })
        s.failAttempt.line := by
    simp only [Line.overloaded, count]
  simp only [exec, execDriverOverload, ready, State.overload, State.raiseLineFault, State.mapLine, same]

theorem State.failAttempt_of_waiting {s : State} (waiting : allWaiting s.line.queue) : s.failAttempt = s := by
  simp [State.failAttempt, State.inFlight_none waiting]

theorem overloadState_of_lt {n : Nat} (early : n < 2) : overloadState (n + 1) = .coolOff := by
  simp [overloadState, Config.overloadLimit, show n + 1 < 3 by omega]

/-- Raising twice raises the count by two. -/
theorem State.raise_count (s : State) (d : NoticeDetail) {k : NoticeKind} (kind : d.kind = k) :
    (s.raise d).notices[k.index].count = min 255 (s.notices[k.index].count + 1) := by
  subst kind
  simp [State.raise, NoticeRecord.raised]

theorem State.raise_noticeOf (s : State) (d : NoticeDetail) {k : NoticeKind} (kind : d.kind = k) :
    (s.raise d).noticeOf k = some d := by
  subst kind
  exact s.raise_noticeOf_same d

/-- The occurrences of LINE FAULT after a failed attempt and a notice that follows it. -/
theorem State.lineFault_count_after {s t : State} {pre post : List QueuedFrame} {g : QueuedFrame}
    (q : s.line.queue = pre ++ g :: post) (hp : allWaiting pre) (hq : allWaiting post) (hg : g.phase ≠ .waiting)
    (f : LineFault) (same : t.notices = s.failAttempt.notices) :
    (g.drops → (t.raise (.lineFault f)).notices[NoticeKind.lineFault.index].count =
      min 255 (s.notices[NoticeKind.lineFault.index].count + 2))
    ∧ (¬g.drops → (t.raise (.lineFault f)).notices[NoticeKind.lineFault.index].count =
      min 255 (s.notices[NoticeKind.lineFault.index].count + 1)) := by
  refine ⟨fun drops => ?_, fun stays => ?_⟩
  · rw [State.raise_count (k := .lineFault) _ (.lineFault _) rfl, same, State.failAttempt_notices_of_drops q hp hq hg drops,
      State.raise_count (k := .lineFault) _ (.lineFault _) rfl]
    omega
  · rw [State.raise_count (k := .lineFault) _ (.lineFault _) rfl, same, State.failAttempt_notices_of_not_drops q hp hq hg stays]

/-- Settles O24. -/
theorem driverOverloads : Obligations.DriverOverloads := by
  refine ⟨fun timer cur above => ⟨rfl, timerAfter_append timer cur above⟩, fun s => ⟨fun ready waiting early => ?_,
    fun ready waiting last => ?_, fun pre g post ready q hp hq hg limit => ?_, fun faulted on => ?_, fun cooling => ?_,
    fun c slow => ?_⟩⟩
  · have same := State.failAttempt_of_waiting waiting
    rw [exec_driverOverload_ready ready (by rw [same])]
    simp [same, Line.overloaded, overloadState_of_lt early, State.inFlight_none waiting, State.mapLine]
  · have same := State.failAttempt_of_waiting waiting
    have state : overloadState 3 = .faulted := rfl
    rw [exec_driverOverload_ready ready (by rw [same])]
    simp [same, Line.overloaded, last, state, State.inFlight_none waiting, State.mapLine]
  · have line := State.failAttempt_line q hp hq hg
    have state : overloadState (s.line.overloadCount + 1) =
        if s.line.overloadCount = 2 then .faulted else .coolOff := by
      rcases Nat.lt_or_eq_of_le limit with early | last
      · rw [overloadState_of_lt early, if_neg (by omega)]
      · rw [last]
        rfl
    have counts := State.lineFault_count_after (t := s.failAttempt.mapLine Line.overloaded) q hp hq hg
      (.overload (s.line.overloadCount + 1) (overloadState (s.line.overloadCount + 1))
        (s.inFlight.map fun g => g.frame.kind)) rfl
    refine ⟨_, exec_driverOverload_ready ready (by rw [line]), ?_, ?_, counts.1, counts.2, ?_, ?_⟩
    · change Line.overloaded s.failAttempt.line = _
      rw [line]
      simp only [Line.overloaded, state]
      by_cases last : s.line.overloadCount = 2 <;> simp [last]
    · rw [State.raise_noticeOf (k := .lineFault) _ (.lineFault _) rfl, state, State.inFlight_split q hp hg]
      rfl
    · have missing : s.failAttempt.line.missing = s.line.missing := by rw [line]
      have condition : s.failAttempt.line.condition = s.line.condition := by rw [line]
      change (s.failAttempt.online && s.failAttempt.line.condition != .stuck && !s.failAttempt.line.missing) = _
      rw [s.failAttempt_online, missing, condition]
      rfl
    · refine State.failedFor.after (State.failAttempt_failedFor q hp hq hg) rfl ?_
      exact (State.raise_changes _ _ (k := .lineFault)).sameNoticesBut _
  · simp only [exec, execDriverOverload, faulted, on, if_true, State.mapLine, State.raiseLineFault]
  · simp only [exec, execDriverCoolOffEnd, cooling, State.mapLine, if_true]
  · simp only [Configuration.driverCoolOffMs, Configuration.bitTime]
    interval_cases c.lineRate <;> rfl

end Machine
end Sys2Proof
end

section
/-! PROOF. O23: Wake pulses, and the exit from Deep Rest. -/
set_option Elab.async false
namespace Sys2Proof
namespace Machine

-- The exit from Deep Rest (11 R188)

theorem State.leaveOffline_joinState (s : State) (c : JoinCause) :
    (s.leaveOffline c).noticeOf .joinState = some (.joinState .listening s.member.state c) :=
  State.raise_noticeOf _ (.joinState .listening s.member.state c) rfl

theorem State.leaveOffline_member (s : State) (c : JoinCause) : (s.leaveOffline c).member = .listening .waitingHome :=
  rfl

theorem State.leaveOffline_line (s : State) (c : JoinCause) : (s.leaveOffline c).line = s.line.listening := rfl

/-- The station Active and out of OFFLINE, before a Wake pulse is asked for (11 R188). -/
def State.woken (s : State) (c : JoinCause) : State :=
  ({ s with host := { s.host with rest := .active }, scan := { s.scan with program := .watching } } : State).leaveOffline c

theorem State.exitDeepRest_eq (s : State) (c : JoinCause) (pulse : Bool) : s.exitDeepRest c pulse =
    if pulse && s.host.cfg.wakePeers == 1 then (s.woken c).requestWake else s.woken c := rfl

/-- The station is Active and LISTENING, its Scan Unit WATCHING, and JOIN STATE says so (11 R188). -/
theorem State.exitDeepRest_facts (s : State) (c : JoinCause) (pulse : Bool) :
    (s.exitDeepRest c pulse).host.rest = .active ∧ (s.exitDeepRest c pulse).member = .listening .waitingHome
      ∧ (s.exitDeepRest c pulse).scan.program = .watching ∧ (s.exitDeepRest c pulse).reader.run = .settling
      ∧ (s.exitDeepRest c pulse).noticeOf .joinState = some (.joinState .listening s.member.state c) := by
  have h : Changes [.lineBody] (s.woken c) (s.exitDeepRest c pulse) := by
    rw [s.exitDeepRest_eq]
    exact .ite (fun _ => State.requestWake_changes _) fun _ => .refl _ _
  exact ⟨h.keeps .rest, h.keeps .member, h.keeps .program, congrArg Reader.run (h.keeps .reader),
    (congrArg NoticeRecord.detail (h.keeps (.notice .joinState))).trans (State.leaveOffline_joinState _ _)⟩

theorem Line.listening_driver_faulted (l : Line) : l.listening.driver = .faulted ↔ l.driver = .faulted := by
  simp only [Line.listening]
  split <;> simp_all

theorem State.requestWake_line (s : State) : s.requestWake.line =
    { s.line with wake :=
      if s.line.condition ≠ .stuck ∧ s.line.driver ≠ .faulted then .waiting else s.line.wake } := by
  unfold State.requestWake
  by_cases refused : s.line.condition = .stuck ∨ s.line.driver = .faulted
  · rw [if_pos refused, if_neg (by tauto)]
  · rw [if_neg refused, if_pos (by tauto)]

/-- The Line Controller at the exit from Deep Rest (02 R24, R27, R28). -/
theorem State.exitDeepRest_line (s : State) (c : JoinCause) (pulse : Bool) : (s.exitDeepRest c pulse).line =
    { s.line.listening with
      wake := if pulse = true ∧ s.host.cfg.wakePeers = 1 ∧ s.line.driver ≠ .faulted then .waiting
        else s.line.wake } := by
  have line : (s.woken c).line = s.line.listening := rfl
  have driver := s.line.listening_driver_faulted
  have condition : s.line.listening.condition ≠ .stuck := by simp [Line.listening]
  rw [s.exitDeepRest_eq]
  by_cases asked : pulse = true ∧ s.host.cfg.wakePeers = 1
  · simp only [asked, beq_self_eq_true, Bool.and_self, if_true, State.requestWake_line, line, driver, ne_eq, condition,
      not_false_eq_true, true_and]
    rfl
  · have notAsked : ¬(pulse && s.host.cfg.wakePeers == 1) = true := by simpa using asked
    rw [if_neg notAsked, if_neg (by tauto), line]
    rfl

-- Wake pulses (O23)

theorem classifyDriveRun_wakePulse {n : Nat} (low : 40 ≤ n) (high : n ≤ 120) : classifyDriveRun n = .wakePulse := by
  simp [classifyDriveRun, show ¬n ≤ 39 by omega, high]

/-- Settles O23. -/
theorem wakePulses : Obligations.WakePulses := by
  intro s n
  refine ⟨fun deep low high => ?_, fun shallow on => ?_, fun waiting quiet ready calm => ?_, fun stopped => ?_,
    fun driving => ?_⟩
  · have done : exec (.wakePulse n) s = .next (s.exitDeepRest .wakePulse false).testDoze := by
      simp only [exec, execWakePulse, deep, if_true, classifyDriveRun_wakePulse low high]
    have tested := State.testDoze_changes (s.exitDeepRest .wakePulse false)
    have woken := s.exitDeepRest_changes .wakePulse false
    obtain ⟨rest, member, program, _, told⟩ := s.exitDeepRest_facts .wakePulse false
    have line := tested.line.trans (s.exitDeepRest_line .wakePulse false)
    refine ⟨_, done, (tested.keeps .rest).trans rest, (tested.keeps .member).trans member,
      (tested.keeps .program).trans program, ?_, ?_, ?_, tested.session.trans woken.session,
      tested.config.trans woken.config, (tested.keeps .bins).trans (woken.keeps .bins),
      (tested.keeps .map).trans (woken.keeps .map)⟩
    · rw [line]
      simp
    · rw [line]
      rfl
    · exact (congrArg NoticeRecord.detail (tested.keeps (.notice .joinState))).trans told
  · simp only [exec, execWakePulse, shallow, if_false, on, if_true, State.mapLine]
  · simp only [exec, execWakePulseSend, waiting, quiet, ready, calm, ne_eq, not_false_eq_true, and_self, if_true,
      State.mapLine]
  · have not_sent : ¬(s.line.wake = .waiting ∧ s.line.condition = .quiet ∧ s.line.driver = .ready
        ∧ s.member ≠ .conflict) := fun ⟨waiting, quiet, ready, _⟩ => by
      rcases stopped with h | h | h
      · exact h waiting
      · exact h quiet
      · exact h ready
    simp only [exec, execWakePulseSend, not_sent, if_false]
  · refine ⟨(Config.wakePulseCurrent s.draws).toList, (Config.wakePulseCurrent s.draws).length_toList, ?_⟩
    simp only [exec, execWakePulseDone, driving, if_true]
    rfl

end Machine
end Sys2Proof
end

section
/-! PROOF. O22: the line conditions, the deglitch filter and the sampling of the wire. -/
set_option Elab.async false
namespace Sys2Proof
namespace Machine

-- The deglitch filter (02 R23)

/-- Levels as they are taken pass. -/
theorem deglitchFrom_same (hold : Nat) (level : Bool) (n : Nat) (rest : List Bool) :
    deglitchFrom hold level 0 (List.replicate n level ++ rest) =
      List.replicate n level ++ deglitchFrom hold level 0 rest := by
  induction n with
  | zero => rfl
  | succ n ih => simp [List.replicate_succ, deglitchFrom, ih]

/-- A change that has not held long enough is passed on as the former level. -/
theorem deglitchFrom_short (hold : Nat) (level : Bool) (run n : Nat) (rest : List Bool) (short : run + n < hold) :
    deglitchFrom hold level run (List.replicate n (!level) ++ rest) =
      List.replicate n level ++ deglitchFrom hold level (run + n) rest := by
  induction n generalizing run with
  | zero => rfl
  | succ n ih =>
    have more : run + 1 < hold := by omega
    simp only [List.replicate_succ, List.cons_append, deglitchFrom, Bool.not_eq_eq_eq_not, Bool.eq_not_self, if_false,
      more, if_true, ih (run + 1) (by omega)]
    rw [show run + 1 + n = run + (n + 1) by omega]

/-- A disturbance shorter than the hold time is ignored (02 R23). -/
theorem deglitchFrom_disturbed {hold n : Nat} (short : n < hold) (level : Bool) (rest : List Bool) :
    deglitchFrom hold level 0 (List.replicate n (!level) ++ level :: rest) =
      List.replicate (n + 1) level ++ deglitchFrom hold level 0 rest := by
  rw [deglitchFrom_short hold level 0 n _ (by omega), List.replicate_succ']
  simp [deglitchFrom]

/-- A change that has held is taken (02 R23). -/
theorem deglitchFrom_taken {hold : Nat} (pos : 1 ≤ hold) (level : Bool) (rest : List Bool) :
    deglitchFrom hold level 0 (List.replicate hold (!level) ++ rest) =
      List.replicate (hold - 1) level ++ (!level) :: deglitchFrom hold (!level) 0 rest := by
  obtain ⟨h, rfl⟩ : ∃ h, hold = h + 1 := ⟨hold - 1, by omega⟩
  rw [List.replicate_succ', List.append_assoc, deglitchFrom_short _ level 0 h _ (by omega)]
  simp [deglitchFrom]

/-- A change that holds longer than the hold time is passed on late by the hold time. -/
theorem deglitchFrom_change {hold n : Nat} (pos : 1 ≤ hold) (long : hold ≤ n) (level : Bool) (rest : List Bool) :
    deglitchFrom hold level 0 (List.replicate n (!level) ++ rest) =
      List.replicate (hold - 1) level ++ (List.replicate (n + 1 - hold) (!level) ++ deglitchFrom hold (!level) 0 rest) := by
  obtain ⟨k, rfl⟩ : ∃ k, n = hold + k := ⟨n - hold, by omega⟩
  rw [List.replicate_add, List.append_assoc, deglitchFrom_taken pos, deglitchFrom_same,
    show hold + k + 1 - hold = k + 1 by omega, List.replicate_succ]
  rfl

/-- A filter that holds a change for one sample, or for none, changes nothing. -/
theorem deglitchFrom_one (hold : Nat) (tight : hold ≤ 1) (level : Bool) (wire : List Bool) :
    deglitchFrom hold level 0 wire = wire := by
  induction wire generalizing level with
  | nil => rfl
  | cons b wire ih =>
    have noHold : ¬0 + 1 < hold := by omega
    by_cases same : b = level
    · simp [deglitchFrom, same, ih]
    · simp [deglitchFrom, same, noHold, ih]

-- The sampling (02 R23)

/-- Within a bit the instant of sampling is met once. -/
theorem sampleFrom_within (rate instant : Nat) (b : Bool) (count n : Nat) (rest : List Bool)
    (inBit : count + n ≤ rate) (pos : 1 ≤ n) : sampleFrom rate instant b count (List.replicate n b ++ rest) =
      (if count ≤ instant ∧ instant < count + n then [b] else [])
        ++ sampleFrom rate instant b (if count + n = rate then 0 else count + n) rest := by
  induction n generalizing count with
  | zero => omega
  | succ n ih =>
    have place : (if (b && !b) = true then 0 else count) = count := by simp
    simp only [List.replicate_succ, List.cons_append, sampleFrom, place]
    rcases Nat.eq_zero_or_pos n with none | more
    · subst none
      by_cases here : count = instant
      · simp [here]
      · have elsewhere : ¬(count ≤ instant ∧ instant < count + 1) := by omega
        rw [if_neg here, if_neg elsewhere]
        rfl
    · have notLast : ¬count + 1 = rate := by omega
      rw [if_neg notLast, ih (count + 1) (by omega) more, show count + 1 + n = count + (n + 1) by omega]
      by_cases here : count = instant
      · simp [here]
      · have same : (count + 1 ≤ instant ∧ instant < count + (n + 1)) ↔ (count ≤ instant ∧ instant < count + (n + 1)) := by
          omega
        simp only [here, if_false, same]

/-- A bit at the beginning of a bit time, whatever the level before it. -/
theorem sampleFrom_bit (rate instant : Nat) (last b : Bool) (n : Nat) (rest : List Bool) (inBit : n ≤ rate)
    (met : instant < n) : sampleFrom rate instant last 0 (List.replicate n b ++ rest) =
      b :: sampleFrom rate instant b (if n = rate then 0 else n) rest := by
  have anyLast : sampleFrom rate instant last 0 (List.replicate n b ++ rest) =
      sampleFrom rate instant b 0 (List.replicate n b ++ rest) := by
    obtain ⟨k, rfl⟩ : ∃ k, n = k + 1 := ⟨n - 1, by omega⟩
    simp [List.replicate_succ, sampleFrom]
  rw [anyLast, sampleFrom_within rate instant b 0 n rest (by omega) (by omega)]
  simp [met]

/-- What the filter leaves of the bits that follow a level, and what is sampled of it. -/
theorem sampleFrom_deglitched {rate instant hold : Nat} (pos : 1 ≤ hold) (room : instant + hold ≤ rate) (last level : Bool)
    (bits : List Bool) : sampleFrom rate instant last 0
      (List.replicate (rate + 1 - hold) level ++ deglitchFrom hold level 0 (waveOf rate bits)) = level :: bits := by
  induction bits generalizing last level with
  | nil =>
    have done := sampleFrom_bit rate instant last level (rate + 1 - hold) [] (by omega) (by omega)
    exact done
  | cons b bits ih =>
    have whole (rest : List Bool) : sampleFrom rate instant last 0 (List.replicate rate level ++ rest) =
        level :: sampleFrom rate instant level 0 rest := by
      rw [sampleFrom_bit rate instant last level rate rest le_rfl (by omega), if_pos rfl]
    have next : deglitchFrom hold level 0 (waveOf rate (b :: bits)) =
        List.replicate (hold - 1) level
          ++ (List.replicate (rate + 1 - hold) b ++ deglitchFrom hold b 0 (waveOf rate bits)) := by
      simp only [waveOf, List.flatMap_cons]
      by_cases same : b = level
      · rw [same, deglitchFrom_same, ← List.append_assoc, ← List.replicate_add,
          show hold - 1 + (rate + 1 - hold) = rate by omega]
      · have flip : b = !level := by cases b <;> cases level <;> simp_all
        rw [flip, deglitchFrom_change pos (by omega)]
    rw [next, ← List.append_assoc, ← List.replicate_add, show rate + 1 - hold + (hold - 1) = rate by omega, whole, ih]

theorem dropWhile_rest (n k : Nat) (pos : 1 ≤ k) (rest : List Bool) :
    (List.replicate n true ++ (List.replicate k false ++ rest)).dropWhile id = List.replicate k false ++ rest := by
  obtain ⟨j, rfl⟩ : ∃ j, k = j + 1 := ⟨k - 1, by omega⟩
  simp [List.replicate_succ]

theorem waveOf_append (rate : Nat) (a b : List Bool) : waveOf rate (a ++ b) = waveOf rate a ++ waveOf rate b := by
  simp [waveOf]

theorem waveOf_replicate (rate n : Nat) (b : Bool) : waveOf rate (List.replicate n b) = List.replicate (rate * n) b := by
  induction n with
  | zero => rfl
  | succ n ih =>
    rw [List.replicate_succ, show rate * (n + 1) = rate + rate * n by ring, List.replicate_add, ← ih]
    simp [waveOf]

/-- The bits of a frame are read back from its wave through a filter that leaves the instant of sampling within each bit. -/
theorem sampled_wave {rate instant hold : Nat} (pos : 1 ≤ hold) (room : instant + hold ≤ rate) (n : Nat)
    (bits : List Bool) : sampleFrom rate instant true 0
      ((deglitchFrom hold true 0 (waveOf rate (List.replicate n true ++ false :: bits))).dropWhile id) =
        false :: bits := by
  have wave : waveOf rate (List.replicate n true ++ false :: bits) =
      List.replicate (rate * n) true ++ (List.replicate rate false ++ waveOf rate bits) := by
    rw [waveOf_append, waveOf_replicate]
    rfl
  rw [wave, deglitchFrom_same, show (false : Bool) = !true from rfl, deglitchFrom_change pos (by omega),
    ← List.append_assoc, ← List.replicate_add]
  rw [show (!true) = false from rfl, dropWhile_rest _ _ (by omega)]
  exact sampleFrom_deglitched pos room true false bits

theorem wireBits_wave (c : Configuration) {rate instant : Nat} (n : Nat) (bits : List Bool) (inBit : instant < rate)
    (filter : c.deglitch = 0 ∨ (c.deglitch = 1 ∧ instant + rate / 8 ≤ rate)) :
    wireBits c rate instant (waveOf rate (List.replicate n true ++ false :: bits)) = false :: bits := by
  have unheld := sampled_wave (hold := 1) le_rfl (show instant + 1 ≤ rate by omega) n bits
  rw [deglitchFrom_one 1 le_rfl] at unheld
  unfold wireBits wireLevels
  rcases filter with off | ⟨enabled, room⟩
  · rw [if_neg (by omega)]
    exact unheld
  · rw [if_pos enabled]
    by_cases tight : rate / 8 ≤ 1
    · rw [deglitchFrom_one _ tight]
      exact unheld
    · exact sampled_wave (by omega) room n bits

-- The runs (02 R24, R26)

theorem splitBy_replicate (n : Nat) (pos : 1 ≤ n) (b : Bool) : (List.replicate n b).splitBy (· == ·) = [List.replicate n b] := by
  have nonempty : List.replicate n b ≠ [] := by
    simp only [ne_eq, List.replicate_eq_nil_iff]
    omega
  refine List.splitBy_of_isChain nonempty ?_
  exact List.isChain_replicate_of_rel n (by simp)

/-- Two runs of different levels are split where they meet. -/
theorem splitBy_runs (n m : Nat) (hn : 1 ≤ n) (hm : 1 ≤ m) (b : Bool) (rest : List Bool) :
    (List.replicate n b ++ (List.replicate m (!b) ++ rest)).splitBy (· == ·) =
      List.replicate n b :: (List.replicate m (!b) ++ rest).splitBy (· == ·) := by
  obtain ⟨m, rfl⟩ : ∃ k, m = k + 1 := ⟨m - 1, by omega⟩
  rw [List.replicate_succ, List.cons_append, List.splitBy_append_cons, splitBy_replicate n hn]
  · rfl
  · intro x mem
    have last : x = b := List.eq_of_mem_replicate (List.mem_of_mem_getLast? mem)
    simp [last]

/-- The run of a level with its length in bit times. -/
theorem run_of_replicate (rate n : Nat) (pos : 1 ≤ n) (b : Bool) :
    ((if (List.replicate n b).headD true then .rest else .drive : WireLevel), (List.replicate n b).length / rate) =
      ((if b then .rest else .drive : WireLevel), n / rate) := by
  obtain ⟨n, rfl⟩ : ∃ k, n = k + 1 := ⟨n - 1, by omega⟩
  simp [List.replicate_succ]

theorem wireRuns_clear (c : Configuration) {rate m n : Nat} (off : c.deglitch = 0) (hr : 1 ≤ rate) (hm : 1 ≤ m)
    (hn : 1 ≤ n) : wireRuns c rate (List.replicate (rate * m) true ++ List.replicate (rate * n) false) =
      [(.rest, m), (.drive, n)] := by
  have rm : 1 ≤ rate * m := Nat.mul_pos hr hm
  have rn : 1 ≤ rate * n := Nat.mul_pos hr hn
  have runs := splitBy_runs (rate * m) (rate * n) rm rn true []
  simp only [Bool.not_true, List.append_nil, splitBy_replicate _ rn] at runs
  simp only [wireRuns, wireLevels, off, show ¬(0 = 1) by decide, if_false, runs, List.map_cons, List.map_nil,
    run_of_replicate rate _ rm, run_of_replicate rate _ rn, Nat.mul_div_cancel_left _ hr]
  rfl

/-- Rest, drive and rest with disturbances that the filter ignores (02 R23). -/
theorem deglitched_runs {hold p q r a d b e : Nat} (pos : 1 ≤ hold) (hd : d < hold) (ha : a + d < p) (he : e < hold)
    (hb : hold ≤ b) (hbe : b + e < q) (hr : hold ≤ r) :
    deglitchFrom hold true 0 (List.replicate a true ++ List.replicate d false ++ List.replicate (p - (a + d)) true
      ++ List.replicate b false ++ List.replicate e true ++ List.replicate (q - (b + e)) false
      ++ List.replicate r true) =
    List.replicate (p + hold - 1) true ++ (List.replicate q false ++ List.replicate (r + 1 - hold) true) := by
  have disturbed (level : Bool) (k j : Nat) (hk : k < hold) (hj : 1 ≤ j) (rest : List Bool) :
      deglitchFrom hold level 0 (List.replicate k (!level) ++ (List.replicate j level ++ rest)) =
        List.replicate (k + j) level ++ deglitchFrom hold level 0 rest := by
    obtain ⟨j, rfl⟩ : ∃ i, j = i + 1 := ⟨j - 1, by omega⟩
    rw [List.replicate_succ, List.cons_append, deglitchFrom_disturbed hk, deglitchFrom_same, ← List.append_assoc,
      ← List.replicate_add, show k + 1 + j = k + (j + 1) by omega]
  have first := disturbed true d (p - (a + d)) hd (by omega)
  have second := disturbed false e (q - (b + e)) he (by omega)
  have drive := deglitchFrom_change pos hb true
  have rest := deglitchFrom_change pos hr false []
  simp only [Bool.not_true, Bool.not_false, List.append_nil] at first second drive rest
  simp only [List.append_assoc]
  rw [deglitchFrom_same, first, drive, second, rest]
  simp only [deglitchFrom, List.append_nil]
  simp only [← List.append_assoc, ← List.replicate_add]
  rw [show a + (d + (p - (a + d)) + (hold - 1)) = p + hold - 1 by omega,
    show b + 1 - hold + (e + (q - (b + e)) + (hold - 1)) = q by omega]

theorem wireRuns_disturbed (c : Configuration) {rate m n k a d b e : Nat} (enabled : c.deglitch = 1) (fine : 8 ≤ rate)
    (hk : 1 ≤ k) (hd : d < rate / 8) (ha : a + d < rate * m) (he : e < rate / 8) (hb : rate / 8 ≤ b)
    (hbe : b + e < rate * n) : wireRuns c rate
      (List.replicate a true ++ List.replicate d false ++ List.replicate (rate * m - (a + d)) true
        ++ List.replicate b false ++ List.replicate e true ++ List.replicate (rate * n - (b + e)) false
        ++ List.replicate (rate * k + (rate / 8 - 1)) true) = [(.rest, m), (.drive, n), (.rest, k)] := by
  have hold : 1 ≤ rate / 8 := by omega
  have rk : rate ≤ rate * k := Nat.le_mul_of_pos_right _ hk
  have levels := deglitched_runs hold hd ha he hb hbe (show rate / 8 ≤ rate * k + (rate / 8 - 1) by omega)
  rw [show rate * k + (rate / 8 - 1) + 1 - rate / 8 = rate * k by omega] at levels
  have rn : 1 ≤ rate * n := by omega
  have rest : 1 ≤ rate * m + rate / 8 - 1 := by omega
  have runs := splitBy_runs (rate * m + rate / 8 - 1) (rate * n) rest rn true (List.replicate (rate * k) true)
  have tail := splitBy_runs (rate * n) (rate * k) rn (by omega) false []
  simp only [Bool.not_true, Bool.not_false, List.append_nil, splitBy_replicate _ (show 1 ≤ rate * k by omega)] at runs tail
  have times : (rate * m + rate / 8 - 1) / rate = m := by
    rw [show rate * m + rate / 8 - 1 = rate * m + (rate / 8 - 1) by omega, Nat.mul_add_div (by omega),
      Nat.div_eq_of_lt (by omega), Nat.add_zero]
  simp only [wireRuns, wireLevels, enabled, if_true, levels, runs, tail, List.map_cons, List.map_nil,
    run_of_replicate rate _ rest, run_of_replicate rate _ rn, run_of_replicate rate _ (show 1 ≤ rate * k by omega), times,
    Nat.mul_div_cancel_left _ (show 0 < rate by omega)]
  rfl

-- The line condition (02 R24, R25)

/-- The Line Controller of a STUCK line (02 R25, R27). -/
def Line.stuck (l : Line) : Line :=
  { l with
    condition := .stuck, runLevel := .drive, runLength := 201, missing := true, objecting := false, slot := .none
    wake := if l.wake = .waiting then .none else l.wake }

theorem exec_lineStuck {s : State} (on : s.online = true) (busy : s.line.condition = .busy) :
    exec .lineStuck s = .next ((s.failAttempt.mapLine Line.stuck).raise (.lineFault .stuck)) := by
  simp only [exec, execLineStuck, on, busy, beq_self_eq_true, Bool.and_self, if_true]
  rfl

/-- Settles O22. -/
theorem lineCondition : Obligations.LineCondition := by
  refine ⟨fun s n on => ⟨fun quiet => ?_, fun busy => ?_, fun busy waiting => ?_, fun pre g post busy q hp hq hg => ?_,
      fun stuck => ?_⟩,
    fun c rate instant n bits inBit filter => wireBits_wave c n bits inBit filter, fun c rate wire => ⟨?_, ?_⟩,
    fun hold n level rest => ⟨fun short => deglitchFrom_disturbed short level rest, fun pos =>
      deglitchFrom_taken pos level rest⟩, fun rate instant count rest => by simp [sampleFrom],
    fun c rate m n off hr hm hn => wireRuns_clear c off hr hm hn,
    fun c rate m n k a d b e enabled fine _ hk hd ha he hb hbe =>
      wireRuns_disturbed c enabled fine hk hd ha he hb hbe⟩
  · simp only [exec, execLineBusy, on, quiet, beq_self_eq_true, Bool.and_self, if_true, State.mapLine]
  · simp only [exec, execLineQuiet, on, busy, beq_self_eq_true, Bool.and_self, if_true, State.mapLine, Line.quieted]
  · rw [exec_lineStuck on busy, State.failAttempt_of_waiting waiting]
    rfl
  · have counts := State.lineFault_count_after (t := s.failAttempt.mapLine Line.stuck) q hp hq hg .stuck rfl
    refine ⟨_, exec_lineStuck on busy, ?_, State.raise_noticeOf (k := .lineFault) _ (.lineFault _) rfl, counts.1, counts.2,
      State.failedFor.after (State.failAttempt_failedFor q hp hq hg) rfl
        ((State.raise_changes _ _ (k := .lineFault)).sameNoticesBut _)⟩
    change Line.stuck s.failAttempt.line = _
    rw [State.failAttempt_line q hp hq hg]
    rfl
  · simp only [exec, execStuckCleared, stuck, if_true, State.mapLine, Line.quieted, State.raiseLineFault]
  · intro off
    simp [wireLevels, off]
  · intro enabled
    simp [wireLevels, enabled]

end Machine
end Sys2Proof
end

section
/-! PROOF. O5, O39: the channels by name, power-on reset, and START. -/
set_option Elab.async false
namespace Sys2Proof
namespace Machine

-- The channels (09 R151, R153)

@[simp] theorem Drives.get_put (d : Drives) (c : Channel) (r : ChannelRecord) : (d.put c r).get c = r := by
  cases c with
  | entry | hold | flap => rfl
  | gate g => simp [Drives.get, Drives.put]

theorem Drives.get_put_other (d : Drives) {c e : Channel} (r : ChannelRecord) (other : e ≠ c) :
    (d.put c r).get e = d.get e := by
  cases c with
  | gate g =>
    cases e with
    | gate k =>
      have apart : g.val ≠ k.val := fun same => other (congrArg Channel.gate (Fin.ext same.symm))
      simp [Drives.get, Drives.put, Vector.getElem_set_ne _ _ apart]
    | entry | hold | flap => rfl
  | entry => cases e with
    | entry => exact absurd rfl other
    | _ => rfl
  | hold => cases e with
    | hold => exact absurd rfl other
    | _ => rfl
  | flap => cases e with
    | flap => exact absurd rfl other
    | _ => rfl

theorem Drives.get_mapAll (d : Drives) (f : Bool → ChannelRecord → ChannelRecord) (c : Channel) :
    (d.mapAll f).get c = f (c == .flap) (d.get c) := by
  cases c with
  | entry | hold | flap => rfl
  | gate g =>
    have apart : (Channel.gate g == .flap) = false := rfl
    simp [Drives.mapAll, Drives.get, apart]

theorem State.channel_mapChannel (s : State) (c : Channel) (f : ChannelRecord → ChannelRecord) :
    (s.mapChannel c f).channel c = f (s.channel c) := Drives.get_put _ _ _

theorem State.channel_mapChannel_other (s : State) {c e : Channel} (f : ChannelRecord → ChannelRecord) (other : e ≠ c) :
    (s.mapChannel c f).channel e = s.channel e := Drives.get_put_other _ _ other

/-- A channel is a part of the drives. -/
theorem Changes.channel {ps : List Part} {s t : State} (h : Changes ps s t) (c : Channel)
    (out : channelPart c ∉ ps := by simp [NoticeDetail.kind]) : t.channel c = s.channel c := by
  cases c with
  | entry => exact h .entryDrive out
  | hold => exact h .holdDrive out
  | flap => exact congrArg Prod.fst (h .flapDrive out)
  | gate g => exact congrArg (fun v : Vector ChannelRecord 8 => v[g]) (h .gateDrives out)

theorem Drives.initial_get (c : Channel) : Drives.initial.get c = .initial := by
  cases c with
  | entry | hold | flap => rfl
  | gate g => simp [Drives.initial, Drives.get]

/-- The channels after power-on reset and RESTART, CUT where the cut condition holds (09 R153). -/
theorem State.resetDrives_initial_channel (s : State) (c : Channel) : (s.resetDrives .initial).channel c =
    { ChannelRecord.initial with state := if s.cutCondition then .cut else .off } := by
  unfold State.resetDrives State.channel
  by_cases cut : s.cutCondition = true
  · simp only [cut, if_true, Drives.get_mapAll, Drives.initial_get]
    rfl
  · rw [if_neg cut, if_neg cut, Drives.initial_get]
    rfl

-- Power-on reset (O5)

/-- A raised notice by its kind (11 R182). -/
theorem State.raise_record (s : State) (d : NoticeDetail) {k : NoticeKind} (kind : d.kind = k) :
    (s.raise d).notices[k.index] = { detail := some d, count := min 255 (s.notices[k.index].count + 1) } := by
  subst kind
  exact (noticeRaised s d).1

theorem Drives.initial_states : Drives.initial.states = Vector.replicate 11 .off := by decide

/-- No notice stands at power-on. -/
theorem State.powerOnBlocks_notice (s : State) (temperature : Int) (k : NoticeKind) :
    (s.powerOnBlocks temperature).notices[k.index] = { detail := none, count := 0 } := by
  simp [State.powerOnBlocks, State.reset]

theorem thermalCause_stageOf (temperature : Int) : thermalCause (stageOf temperature) =
    if 130 < temperature then some (if 160 < temperature then .hot else .warm) else none := by
  unfold stageOf
  by_cases hot : 160 < temperature
  · rw [if_pos hot, if_pos (by omega), if_pos hot]
    rfl
  · by_cases warm : 130 < temperature <;> simp [hot, warm, thermalCause]

/-- THERMAL is raised at power-on where the output stage is not cool (09 R161). -/
theorem State.powerOnTold_warm (s : State) {temperature : Int} (warm : 130 < temperature) :
    (s.powerOnTold temperature).notices[NoticeKind.thermal.index] =
      { detail := some (.thermal (if 160 < temperature then .hot else .warm) (Config.powerOnFormerStage s.draws)
          (stageOf temperature) (Vector.replicate 11 .off)), count := 1 } := by
  have cause := thermalCause_stageOf temperature
  rw [if_pos warm] at cause
  have states : (s.powerOnBlocks temperature).drives.states = Vector.replicate 11 .off := Drives.initial_states
  simp only [State.powerOnTold, cause, states]
  rw [State.raise_record _ _ (k := .thermal) rfl, s.powerOnBlocks_notice]
  rfl

theorem State.powerOnTold_cool (s : State) {temperature : Int} (cool : temperature ≤ 130) :
    s.powerOnTold temperature = s.powerOnBlocks temperature := by
  have cause := thermalCause_stageOf temperature
  rw [if_neg (by omega)] at cause
  simp only [State.powerOnTold, cause]

theorem State.powerOnBlocks_cut (s : State) (temperature : Int) :
    (s.powerOnBlocks temperature).cutCondition = decide (160 < temperature) := by
  simp only [State.powerOnBlocks, State.cutCondition, ScanUnit.initial, stageOf]
  by_cases hot : 160 < temperature
  · simp [hot]
  · by_cases warm : 130 < temperature <;> simp [hot, warm]

/-- Settles O5. -/
theorem powerOnReset : Obligations.PowerOnReset := by
  intro temperature s
  have toldParts := s.powerOnTold_changes temperature
  have told : Changes (.notice .thermal :: driveParts) (s.powerOnBlocks temperature)
      ((s.powerOnTold temperature).resetDrives (s.powerOnTold temperature).drives) :=
    toldParts.andThen (State.resetDrives_changes _ _)
  have drives : (s.powerOnTold temperature).drives = .initial := toldParts.drives
  have cut : (s.powerOnTold temperature).cutCondition = decide (160 < temperature) := by
    rw [← s.powerOnBlocks_cut temperature, State.cutCondition, State.cutCondition, toldParts.scan]
    exact congrArg (fun h => h == HeatStage.hot || _) (toldParts.keeps .heat)
  refine ⟨_, exec_powerOnReset temperature s, ?_⟩
  generalize final : (s.powerOnTold temperature).resetDrives (s.powerOnTold temperature).drives = t at told
  have host : t.host = .initial := told.host
  have bins : t.bins = Vector.replicate 9 .initial := told.keeps .bins
  have map : t.map = Vector.replicate 256 .free := told.keeps .map
  have scan : t.scan = .initial s.eyes.scan := told.scan
  have article : t.article = .initial := told.article
  have number : t.stationNumber = none := by
    unfold State.stationNumber
    rw [host]
    rfl
  refine ⟨congrArg HostPort.configured host, congrArg HostPort.started host, number, congrArg HostPort.rest host,
    congrArg HostPort.answer host, congrArg HostPort.cfg host, congrArg HostPort.dozeTimer host,
    congrArg HostPort.offered host, told.keeps .belt, fun x => ?_, fun b => ⟨?_, ?_⟩, told.keeps .member,
    congrArg (fun c => c.2.2) (told.keeps .cfg), told.keeps .gates, told.keeps .dutyReports, told.line, told.path,
    congrArg ScanUnit.program scan, congrArg ScanUnit.supply scan, congrArg ScanUnit.reference scan,
    congrArg ScanUnit.record scan, congrArg ScanUnit.filtered scan, congrArg Reader.run (told.keeps .reader),
    congrArg ArticleUnit.lookup article, congrArg ArticleUnit.access article, fun n => ?_, told.session,
    told.keeps .heat, fun c => ?_, fun k other => ?_, fun warm => ⟨Config.powerOnFormerStage s.draws, ?_⟩, fun cool => ?_, told.keeps .eyes,
    told.keeps .pending⟩
  · simp [State.entryAt, map]
  · simp [State.capacity, host, HostPort.initial]
  · simp [bins, BinRecord.initial]
  · simp [article, ArticleUnit.initial]
  · rw [← final, drives, State.resetDrives_initial_channel, cut]
    simp
  · exact (told.keeps (.notice k) (by simp [other])).trans (s.powerOnBlocks_notice temperature k)
  · have kept : t.notices = (s.powerOnTold temperature).notices := by rw [← final]; rfl
    have heat : t.heat = stageOf temperature := told.keeps .heat
    rw [kept, heat, s.powerOnTold_warm warm]
  · have kept : t.notices = (s.powerOnTold temperature).notices := by rw [← final]; rfl
    rw [kept, s.powerOnTold_cool cool, s.powerOnBlocks_notice]

-- START (O39)

/-- The station out of OFFLINE (05 R87; 02 R24, R28; 07 R124, R130). -/
theorem State.leaveOffline_facts (s : State) (c : JoinCause) :
    (s.leaveOffline c).member = .listening .waitingHome ∧ (s.leaveOffline c).line = s.line.listening
      ∧ (s.leaveOffline c).reader = { run := .settling, assembly := .idle }
      ∧ (s.leaveOffline c).scan = { s.scan with filtered := s.eyes.scan, gap := none }
      ∧ (s.leaveOffline c).noticeOf .joinState = some (.joinState .listening s.member.state c) :=
  ⟨rfl, rfl, rfl, rfl, s.leaveOffline_joinState c⟩

theorem State.testDoze_starts {s : State} (condition : s.dozeCondition = true) (stopped : s.host.dozeTimer = none)
    (notOffered : s.host.offered = false) : s.testDoze.host.dozeTimer = some 0 := by
  simp [State.testDoze, condition, stopped, notOffered]

/-- Settles O39. -/
theorem startListens : Obligations.StartListens := by
  intro s awake
  have taken : exec .start s = .next (s.shiftOut.handle startRequest) := by
    simp only [exec, execStart, State.transact_awake awake, State.judge_of_no_need]
  refine ⟨fun configured fresh => ?_, fun refused => ?_⟩
  · have done : exec .start s = .next (s.shiftOut.startUp.setAnswer (.done .none)) := by
      rw [taken]
      simp [State.handle, startRequest, State.shiftOut, configured, fresh]
    let opened : State := { s.shiftOut with host := { s.shiftOut.host with started := true, rest := .active } }
    have tested := (State.testDoze_changes (opened.leaveOffline .start)).andThen
      (State.setAnswer_changes _ (.done .none)) (rs := [.doze, .answers])
    have left : Changes listenParts opened (opened.leaveOffline .start) := opened.leaveOffline_changes .start
    obtain ⟨member, line, reader, scan, told⟩ := opened.leaveOffline_facts .start
    have all := left.andThen tested (rs := .doze :: .answers :: listenParts)
    have lineNow := tested.line.trans line
    refine ⟨_, done, all.keeps .started, all.keeps .rest, rfl, all.config, (tested.keeps .member).trans member,
      (congrArg NoticeRecord.detail (tested.keeps (.notice .joinState))).trans told, all.sameNoticesBut [.joinState], ?_,
      ?_, ?_, congrArg Reader.run ((tested.keeps .reader).trans reader),
      congrArg ScanUnit.filtered (tested.scan.trans scan), fun empty idle stopped notOffered => ?_, all.keeps .belt,
      all.keeps .map, all.keeps .bins, all.path, all.session, all.drives, all.article⟩
    · exact congrArg Line.condition lineNow
    · exact congrArg Line.driver lineNow
    · exact all.keeps .queue
    · have condition : (opened.leaveOffline .start).dozeCondition = true := by
        simp only [State.dozeCondition, State.pathEmpty, left.path, left.session, left.host]
        exact by simpa [opened, idle, State.shiftOut, State.pathEmpty] using empty
      exact State.testDoze_starts condition ((congrArg HostPort.dozeTimer left.host).trans stopped)
        ((congrArg HostPort.offered left.host).trans notOffered)
  · rw [taken]
    have turned : (s.shiftOut.host.configured && !s.shiftOut.host.started) = false := by
      rcases refused with off | on
      · simp [State.shiftOut, off]
      · simp [State.shiftOut, on]
    simp only [State.handle, startRequest, turned]
    rfl

end Machine
end Sys2Proof
end

section
/-! PROOF. O57: RESTART. -/
set_option Elab.async false
namespace Sys2Proof
namespace Machine

-- The close that RESTART begins (10 R174)

theorem State.restartSession_of_waiting {s : State} (rests : s.session.state = .idle ∨ s.session.state = .closed) :
    s.restartSession = s.mapSession fun n => { n with pending := 0, undecided := false, idleTimer := none } := by
  unfold State.restartSession
  rcases rests with h | h <;> rw [h]

/-- The session as RESTART closes it (10 R174). -/
def State.abandoned (s : State) : State := s.mapSession fun n => { n with pending := 0, undecided := false }

theorem State.restartSession_of_open {s : State} (runs : s.session.state = .opened ∨ s.session.state = .closing) :
    s.restartSession = s.abandoned.beginClose .restart := by
  unfold State.restartSession
  rcases runs with h | h <;> rw [h] <;> rfl

/-- The notices of a close with a number (10 R170, R171). -/
theorem State.assignNumber_records (s : State) :
    s.assignNumber.notices[NoticeKind.sessionClosed.index] =
        { detail := some (.sessionClosed (s.voucherNumber s.session.sequence) (s.session.reason.getD .customer)
            s.session.total s.session.count s.session.lines.length)
          count := min 255 (s.notices[NoticeKind.sessionClosed.index].count + 1) }
      ∧ (s.session.sequence + 1 = Config.lastSequence → s.assignNumber.notices[NoticeKind.vouchersExhausted.index] =
        { detail := some (.vouchersExhausted (s.voucherNumber s.session.sequence))
          count := min 255 (s.notices[NoticeKind.vouchersExhausted.index].count + 1) })
      ∧ (s.session.sequence + 1 ≠ Config.lastSequence → s.assignNumber.notices[NoticeKind.vouchersExhausted.index] =
        s.notices[NoticeKind.vouchersExhausted.index]) := by
  have closed := State.raise_record (s.mapSession fun n => { n with
    state := .closed, number := some (s.voucherNumber n.sequence), sequence := n.sequence + 1 })
    (.sessionClosed (s.voucherNumber s.session.sequence) (s.session.reason.getD .customer) s.session.total
      s.session.count s.session.lines.length) rfl
  have exhausted : s.numbered.notices[NoticeKind.vouchersExhausted.index] =
      s.notices[NoticeKind.vouchersExhausted.index] := State.raise_notices_other _ _ (k := .vouchersExhausted) (by simp [NoticeDetail.kind])
  refine ⟨?_, fun last => ?_, fun more => ?_⟩
  · rw [s.assignNumber_eq]
    split
    · exact (State.raise_notices_other _ _ (k := .sessionClosed) (by simp [NoticeDetail.kind])).trans closed
    · exact closed
  · rw [s.assignNumber_eq, if_pos last, State.raise_record _ _ (k := .vouchersExhausted) rfl, exhausted]
  · rw [s.assignNumber_eq, if_neg more, exhausted]

-- RESTART (11 R189)

theorem State.testDoze_offered {s : State} (notOffered : s.host.offered = false) : s.testDoze.host.offered = false := by
  unfold State.testDoze
  split
  · split <;> exact notOffered
  · rfl

theorem State.restartEmptied_cut (s : State) : s.restartEmptied.cutCondition = s.cutCondition := rfl

theorem State.restartEmptied_notice (s : State) (k : NoticeKind) :
    s.restartEmptied.notices[k.index] = { detail := none, count := 0 } := by
  simp [State.restartEmptied, State.resetDrives, clearedNotices]

/-- What the session's part of RESTART leaves behind (10 R174). -/
def State.sessionRestarted (s t : State) : Prop :=
  (s.session.state = .idle ∨ s.session.state = .closed → t.session.state = s.session.state
      ∧ t.session.number = s.session.number ∧ t.session.total = s.session.total)
  ∧ (s.session.state = .opened ∨ s.session.state = .closing → 1 ≤ s.session.count →
      t.session.state = .closed ∧ t.session.reason = some .restart ∧ t.session.count = s.session.count
      ∧ t.session.number = some (s.host.cfg.stationNumber * 1048576 + s.session.sequence)
      ∧ t.session.sequence = s.session.sequence + 1
      ∧ t.notices[NoticeKind.sessionClosed.index] =
          { detail := some (.sessionClosed (s.host.cfg.stationNumber * 1048576 + s.session.sequence) .restart
              s.session.total s.session.count s.session.lines.length)
            count := 1 }
      ∧ (s.session.sequence + 1 = Config.lastSequence → t.notices[NoticeKind.vouchersExhausted.index] =
          { detail := some (.vouchersExhausted (s.host.cfg.stationNumber * 1048576 + s.session.sequence))
            count := 1 }))
  ∧ (s.session.state = .opened ∨ s.session.state = .closing → s.session.count = 0 →
      t.session.state = .idle ∧ t.session.sequence = s.session.sequence)
  ∧ (∀ k : NoticeKind, k ≠ .joinState →
      ¬((s.session.state = .opened ∨ s.session.state = .closing) ∧ 1 ≤ s.session.count
        ∧ (k = .sessionClosed ∨ (k = .vouchersExhausted ∧ s.session.sequence + 1 = Config.lastSequence))) →
      t.notices[k.index] = { detail := none, count := 0 })

theorem State.restartSession_restarted (s : State) : s.sessionRestarted s.restartEmptied.restartSession := by
  have clean := s.restartEmptied_notice
  have session : s.restartEmptied.session = s.session := rfl
  have ended := State.restartSession_changes s.restartEmptied
  -- the course of a close that numbers a voucher
  have numbered (runs : s.session.state = .opened ∨ s.session.state = .closing) (one : 1 ≤ s.session.count) :
      s.restartEmptied.restartSession = (s.restartEmptied.abandoned.mapSession (.closeBegun .restart)).assignNumber :=
    (State.restartSession_of_open (s := s.restartEmptied) runs).trans
      (State.beginClose_of_credited (s := s.restartEmptied.abandoned) .restart rfl rfl one)
  have records := State.assignNumber_records (s.restartEmptied.abandoned.mapSession (.closeBegun .restart))
  have blank (k : NoticeKind) : (s.restartEmptied.abandoned.mapSession (.closeBegun .restart)).notices[k.index] =
      { detail := none, count := 0 } := clean k
  refine ⟨fun waits => ?_, fun runs one => ?_, fun runs empty => ?_, fun k other quiet => ?_⟩
  · rw [State.restartSession_of_waiting (s := s.restartEmptied) waits]
    exact ⟨rfl, rfl, rfl⟩
  · rw [numbered runs one]
    have after := State.assignNumber_session (s.restartEmptied.abandoned.mapSession (.closeBegun .restart))
    rw [after]
    refine ⟨rfl, rfl, rfl, rfl, rfl, ?_, fun last => ?_⟩
    · rw [records.1, blank]
      rfl
    · rw [records.2.1 last, blank]
      rfl
  · rw [State.restartSession_of_open (s := s.restartEmptied) runs,
      State.beginClose_of_empty (s := s.restartEmptied.abandoned) .restart rfl rfl empty]
    exact ⟨rfl, rfl⟩
  · by_cases voucher : (s.session.state = .opened ∨ s.session.state = .closing) ∧ 1 ≤ s.session.count
    · obtain ⟨runs, one⟩ := voucher
      have notClosed : k ≠ .sessionClosed := fun same => quiet ⟨runs, one, .inl same⟩
      rcases eq_or_ne k .vouchersExhausted with rfl | notExhausted
      · have more : s.session.sequence + 1 ≠ Config.lastSequence := fun last => quiet ⟨runs, one, .inr ⟨rfl, last⟩⟩
        rw [numbered runs one]
        exact (records.2.2 more).trans (blank _)
      · exact (ended.keeps (.notice k) (by simp [notClosed, notExhausted])).trans (clean k)
    · rcases eq_or_ne s.session.state .idle with h | notIdle
      · rw [State.restartSession_of_waiting (s := s.restartEmptied) (.inl h)]
        exact clean k
      · rcases eq_or_ne s.session.state .closed with h | notClosed
        · rw [State.restartSession_of_waiting (s := s.restartEmptied) (.inr h)]
          exact clean k
        · have runs : s.session.state = .opened ∨ s.session.state = .closing := by
            cases h : s.session.state <;> simp_all
          have empty : s.session.count = 0 := Nat.lt_one_iff.mp (Nat.lt_of_not_le fun one => voucher ⟨runs, one⟩)
          rw [State.restartSession_of_open (s := s.restartEmptied) runs,
            State.beginClose_of_empty (s := s.restartEmptied.abandoned) .restart rfl rfl empty]
          exact clean k

theorem State.leaveOffline_record (s : State) (c : JoinCause) :
    (s.leaveOffline c).notices[NoticeKind.joinState.index] =
      { detail := some (.joinState .listening s.member.state c)
        count := min 255 (s.notices[NoticeKind.joinState.index].count + 1) } :=
  State.raise_record _ (.joinState .listening s.member.state c) (k := .joinState) rfl

theorem State.restart_restartedTo {s : State} (started : s.host.started = true) : s.restartedTo s.restart := by
  have kept := State.restartSession_changes s.restartEmptied
  have left := State.leaveOffline_changes s.restartEmptied.restartSession .restart
  have tested := State.testDoze_changes (s.restartEmptied.restartSession.leaveOffline .restart)
  rw [s.restart_eq]
  have notOffered : (s.restartEmptied.restartSession.leaveOffline .restart).host.offered = false :=
    congrArg HostPort.offered (left.host.trans kept.host)
  have offered := State.testDoze_offered notOffered
  have later := left.andThen tested (rs := .doze :: listenParts)
  have emptied := kept.andThen later (rs := .doze :: .undecided :: (closeParts ++ listenParts))
  obtain ⟨idles, numbers, empties, quiet⟩ := s.restartSession_restarted
  have lineNow : (s.restartEmptied.restartSession.leaveOffline .restart).testDoze.line = Line.initial.listening :=
    tested.line.trans (congrArg Line.listening kept.line)
  have pathNow := emptied.path
  have articleNow := emptied.article
  have joined := State.leaveOffline_record s.restartEmptied.restartSession .restart
  refine ⟨emptied.config, congrArg (fun c => c.2.1) (emptied.keeps .cfg), (emptied.keeps .started).trans started,
    emptied.keeps .rest, emptied.keeps .restartPending, offered, emptied.keeps .belt, fun x => ?_, fun b => ?_,
    tested.keeps .member, emptied.keeps .dutyReports, congrArg Line.queue lineNow, congrArg Line.driver lineNow,
    congrArg Line.wake lineNow, congrArg Line.overloadCount lineNow, congrArg Line.aloneCount lineNow,
    congrArg Path.entry pathNow, congrArg Path.hold pathNow, congrArg Path.transfer pathNow,
    congrArg Path.givenUp pathNow, emptied.keeps .program, congrArg Prod.fst (emptied.keeps .scanRecord),
    congrArg Reader.run (tested.keeps .reader), congrArg ArticleUnit.lookup articleNow,
    congrArg ArticleUnit.access articleNow, fun k => ?_, fun c => ?_, emptied.keeps .heat, emptied.keeps .history,
    fun rests => ?_, fun runs one => ?_, fun runs empty => ?_, ?_, fun k other quietly => ?_⟩
  · have map : (s.restartEmptied.restartSession.leaveOffline .restart).testDoze.map = freeMap := emptied.keeps .map
    simp [State.entryAt, map, freeMap]
  · have bins : (s.restartEmptied.restartSession.leaveOffline .restart).testDoze.bins = Vector.replicate 9 .initial :=
      emptied.keeps .bins
    simp [bins, BinRecord.initial]
  · rw [articleNow]
    simp [State.restartEmptied, State.resetDrives, ArticleUnit.clearCache]
  · have drives : (s.restartEmptied.restartSession.leaveOffline .restart).testDoze.channel c =
        s.restartEmptied.channel c := emptied.channel c (by cases c <;> simp)
    exact drives.trans (State.resetDrives_initial_channel _ c)
  · rw [later.session]
    exact idles rests
  · obtain ⟨closed, reason, count, number, sequence, told, exhausted⟩ := numbers runs one
    rw [later.session]
    refine ⟨closed, reason, count, number, sequence, ?_, fun last => ?_⟩
    · exact (later.keeps (.notice .sessionClosed)).trans told
    · exact (later.keeps (.notice .vouchersExhausted)).trans (exhausted last)
  · rw [later.session]
    exact empties runs empty
  · have before : s.restartEmptied.restartSession.notices[NoticeKind.joinState.index] = { detail := none, count := 0 } :=
      (kept.keeps (.notice .joinState)).trans (s.restartEmptied_notice .joinState)
    have member : s.restartEmptied.restartSession.member = .offline := kept.keeps .member
    refine (tested.keeps (.notice .joinState)).trans (joined.trans ?_)
    rw [before, member]
    rfl
  · exact (later.keeps (.notice k) (by simp [other])).trans (quiet k other quietly)

theorem State.restart_shifted (s : State) : s.restart.host.shifted = s.host.shifted := by
  have ended := State.restartSession_changes s.restartEmptied
  have emptied := (ended.andThen (State.leaveOffline_changes _ .restart) (rs := .undecided :: (closeParts ++ listenParts))).andThen
    (State.testDoze_changes _) (rs := .doze :: .undecided :: (closeParts ++ listenParts))
  exact congrArg Prod.snd (emptied.keeps .answers)

/-- The answer registers are no part of what RESTART does to the blocks. -/
theorem State.restartedTo.answer {s t : State} (h : s.restartedTo t) (a : Answer) : s.restartedTo (t.setAnswer a) := h

/-- Settles O57. -/
theorem restartEmptiesTheStation : Obligations.RestartEmptiesTheStation := by
  intro s address data started
  refine ⟨fun awake => ?_, fun busy idle => ?_, fun running => ?_, fun polling waits => ⟨?_, fun timed => ?_⟩⟩
  · have done : exec .restart s = .next (s.shiftOut.restart.setAnswer (.done .none)) := by
      simp [exec, execRestart, awake.1, State.transact_awake awake, State.judge, started, State.shiftOut, State.handle,
        doneWith]
    exact ⟨_, done, rfl, s.shiftOut.restart_shifted, (State.restart_restartedTo (s := s.shiftOut) started).answer _⟩
  · have done : exec .restart s = .next (s.shiftBusy.restart.setAnswer (.done .none)) := by
      simp [exec, execRestart, busy, State.restartDuringAccess, State.shiftBusy, started, idle]
    exact ⟨_, done, rfl, s.shiftBusy.restart_shifted, (State.restart_restartedTo (s := s.shiftBusy) started).answer _⟩
  · have busy : s.storeBusy = true := by
      cases access : s.article.access with
      | none => simp [ArticleUnit.writeRunning, access] at running
      | some a => simp [State.storeBusy, access]
    simp [exec, execRestart, busy, State.restartDuringAccess, State.shiftBusy, started, running]
  · have done : exec (.statusRead 0) s = .next (s.restart.setAnswer (.done .none)) := by
      simp [exec, execStatusRead, polling, State.endWrite, waits]
    exact ⟨_, done, rfl, s.restart_shifted, (State.restart_restartedTo started).answer _⟩
  · have done : exec .storeBusyTimeExpired s =
        .next ((s.raise (.storeFault (.busyTimeout address data.length))).restart.setAnswer (.done .none)) := by
      simp [exec, execStoreBusyTimeExpired, polling, State.endWrite, waits, timed]
    exact ⟨_, done, rfl, State.restart_shifted _,
      (State.restart_restartedTo (s := s.raise (.storeFault (.busyTimeout address data.length))) started).answer _⟩

end Machine
end Sys2Proof
end

section
/-! PROOF. O56: the rest levels. -/
set_option Elab.async false
namespace Sys2Proof
namespace Machine

-- The return from Doze reads no answer register (11 R186)

/-- The state with other answer registers (11 R176). -/
def State.withAnswers (s : State) (a b : Answer) : State := { s with host := { s.host with answer := a, shifted := b } }

/-- An operation that neither reads nor writes the answer registers. -/
def AnswerBlind (f : State → State) : Prop := ∀ s a b, f (s.withAnswers a b) = (f s).withAnswers a b

namespace AnswerBlind

theorem comp {f g : State → State} (hg : AnswerBlind g) (hf : AnswerBlind f) : AnswerBlind fun s => g (f s) :=
  fun s a b => (congrArg g (hf s a b)).trans (hg (f s) a b)

theorem ite {c : State → Prop} [DecidablePred c] {f g : State → State}
    (same : ∀ s a b, c (s.withAnswers a b) ↔ c s) (hf : AnswerBlind f) (hg : AnswerBlind g) :
    AnswerBlind fun s => if c s then f s else g s := by
  intro s a b
  by_cases h : c s
  · simp only [h, same, if_true]
    exact hf s a b
  · simp only [h, same, if_false]
    exact hg s a b

/-- An operation on what a state holds, chosen by something that is no answer register. -/
theorem choice {α : Type} (key : State → α) {f : α → State → State} (same : ∀ s a b, key (s.withAnswers a b) = key s)
    (hf : ∀ k, AnswerBlind (f k)) : AnswerBlind fun s => f (key s) s := by
  intro s a b
  simp only [same]
  exact hf (key s) s a b

theorem id : AnswerBlind fun s => s := fun _ _ _ => rfl

end AnswerBlind

theorem State.assignNumber_answerBlind : AnswerBlind State.assignNumber :=
  .ite (c := fun s => State.exhausted (((s.mapSession fun n => { n with
      state := .closed, number := some (s.voucherNumber s.session.sequence), sequence := n.sequence + 1 }).raise
      (.sessionClosed (s.voucherNumber s.session.sequence) (s.session.reason.getD .customer) s.session.total
        s.session.count s.session.lines.length))) = true) (fun _ _ _ => .rfl) (fun _ _ _ => rfl) fun _ _ _ => rfl

theorem State.endClose_answerBlind : AnswerBlind State.endClose :=
  .ite (c := fun s => s.session.state = .closing ∧ s.session.pending = 0 ∧ s.session.undecided = false)
    (fun _ _ _ => .rfl)
    (.ite (c := fun s => 1 ≤ s.session.count) (fun _ _ _ => .rfl) State.assignNumber_answerBlind fun _ _ _ => rfl) .id

theorem State.endReport_answerBlind (g : Stage) : AnswerBlind fun s => s.endReport g :=
  .ite (c := fun _ => g = .waitingHold) (fun _ _ _ => .rfl)
    (State.endClose_answerBlind.comp (f := fun s => s.mapSession _) fun _ _ _ => rfl)
    (.ite (c := fun _ => g.undecided = true) (fun _ _ _ => .rfl)
      (State.endClose_answerBlind.comp (f := fun s => s.mapSession _) fun _ _ _ => rfl) .id)

theorem State.jamEntry_answerBlind (c : Container) (j : JamCause) (d : Option Channel) :
    AnswerBlind fun s => s.jamEntry c j d :=
  AnswerBlind.comp (g := fun s => s.raise _) (fun _ _ _ => rfl)
    ((State.endReport_answerBlind c.stage).comp
      (f := fun s => s.emptyEntry.stopEntry.setEntryRecord { c with stage := .stuck }) fun _ _ _ => rfl)

theorem State.checkEntryDrive_answerBlind : AnswerBlind State.checkEntryDrive :=
  .ite (c := fun s => (s.entryTroubled && s.entryMoving) = true) (fun _ _ _ => .rfl)
    (AnswerBlind.choice (fun s => s.path.entry)
      (f := fun k s => match k with | some c => s.jamEntry c .drive (some .entry) | none => s)
      (fun _ _ _ => rfl) fun k => by
        cases k with
        | none => exact .id
        | some c => exact State.jamEntry_answerBlind c .drive (some .entry)) .id

theorem State.startMove_answerBlind (d : Direction) : AnswerBlind fun s => s.startMove d :=
  State.checkEntryDrive_answerBlind.comp
    (f := fun s => (s.requestEntry d).mapPath fun p => { p with entryTimer := some 0 }) fun _ _ _ => rfl

theorem State.trigger_answerBlind : AnswerBlind State.trigger :=
  .ite (c := fun s => s.scan.program = .scanning) (fun _ _ _ => .rfl) (fun _ _ _ => rfl)
    (AnswerBlind.choice (fun s => s.scan.record)
      (f := fun k s => match k with
        | some r => { s with scan := { s.scan with record := some { r with overrun := true } } }
        | none => s)
      (fun _ _ _ => rfl) fun k => by cases k <;> exact fun _ _ _ => rfl)

theorem State.requestScan_answerBlind : AnswerBlind State.requestScan :=
  .ite (c := fun s => (s.scan.program = .scanning || s.scan.record.isSome) = true) (fun _ _ _ => .rfl)
    State.trigger_answerBlind
    (.ite (c := fun s => s.scan.program = .watching) (fun _ _ _ => .rfl) (fun _ _ _ => rfl) .id)

theorem State.scanEyeSeen_answerBlind : AnswerBlind State.scanEyeSeen :=
  AnswerBlind.choice (fun s => s.path.entry)
    (f := fun k s => match k with | some c => if c.stage = .entering then s.enterScanning c else s | none => s)
    (fun _ _ _ => rfl) fun k => by
      cases k with
      | none => exact .id
      | some r =>
        change AnswerBlind fun s => if r.stage = .entering then s.enterScanning r else s
        exact .ite (fun _ _ _ => Iff.rfl) (State.requestScan_answerBlind.comp (f := fun s =>
          (s.stopEntry.setEntryRecord { r with stage := .scanning }).mapPath fun p =>
            { p with entryTimer := none, window := true, readTimer := some 0 }) fun _ _ _ => rfl) .id

theorem State.begun_answerBlind : AnswerBlind State.begun :=
  (State.startMove_answerBlind .forward).comp (f := fun s => ((s.setEntryRecord (.entering s.path.tagCounter)).mapPath
    fun p => { p with tagCounter := p.tagCounter + 1 }).setUndecided) fun _ _ _ => rfl

theorem State.tryStart_answerBlind : AnswerBlind State.tryStart :=
  .ite (c := fun s => s.mayStart = true) (fun _ _ _ => .rfl)
    ((AnswerBlind.ite (c := fun s => s.scan.filtered = true) (fun _ _ _ => .rfl) State.scanEyeSeen_answerBlind .id).comp
      State.begun_answerBlind) .id

theorem State.testDoze_answerBlind : AnswerBlind State.testDoze :=
  .ite (c := fun s => s.dozeCondition = true) (fun _ _ _ => .rfl)
    (.ite (c := fun s => (s.host.dozeTimer.isNone && !s.host.offered) = true) (fun _ _ _ => .rfl) (fun _ _ _ => rfl) .id)
    fun _ _ _ => rfl

theorem State.returnActive_answerBlind : AnswerBlind State.returnActive :=
  State.testDoze_answerBlind.comp (State.tryStart_answerBlind.comp (f := fun s => { s with
    host := { s.host with rest := .active }
    reader := { run := if s.online then .settling else .stopped, assembly := .idle } }) fun _ _ _ => rfl)

theorem State.shiftOut_returnActive (s : State) : s.shiftOut.returnActive = s.returnActive.shiftOut := by
  have answers : s.returnActive.host.answer = s.host.answer := congrArg Prod.fst (s.returnActive_changes.keeps .answers)
  refine (State.returnActive_answerBlind s .empty s.host.answer).trans ?_
  rw [← answers]
  rfl

theorem State.returnActive_rest (s : State) : s.returnActive.host.rest = .active :=
  ((State.testDoze_changes _).keeps .rest).trans ((State.tryStart_changes _).keeps .rest)

theorem State.returnActive_storeBusy (s : State) : s.returnActive.storeBusy = s.storeBusy := by
  have pending : s.returnActive.host.restartPending = s.host.restartPending :=
    s.returnActive_changes.keeps .restartPending
  simp only [State.storeBusy, s.returnActive_changes.article, pending]

/-- A request that ends Doze is taken in the state that the return from Doze leaves (11 R177). -/
theorem State.transact_doze {s : State} (doze : s.host.rest = .doze) (n : Bool) (h : Handler) (free : s.storeBusy = false) :
    s.transact n true h = s.returnActive.transact n true h := by
  have active : s.returnActive.shiftOut.host.rest ≠ .doze := by
    simp [State.shiftOut, s.returnActive_rest]
  have left : s.readied true = s.returnActive.shiftOut := by
    rw [← s.shiftOut_returnActive]
    exact if_pos doze
  have right : s.returnActive.readied true = s.returnActive.shiftOut := if_neg active
  have stillFree : s.returnActive.storeBusy = false := s.returnActive_storeBusy.trans free
  simp [State.transact, free, stillFree, left, right]

/-- Every transaction but a RESTART is a request with its two marks (11 R176, R177), or carries no request. -/
theorem exec_transaction {i : Instr} (h : isTransaction i = true) :
    (∃ handler, ∀ s, exec i s = .next (s.transact (needsStart i) (endsDoze i) handler))
      ∨ (∃ r, i = .badRequest r) ∨ i = .emptyTransaction := by
  cases i <;> simp only [isTransaction, Bool.false_eq_true] at h
  case badRequest r => exact .inr (.inl ⟨r, rfl⟩)
  case emptyTransaction => exact .inr (.inr rfl)
  all_goals exact .inl ⟨_, fun _ => rfl⟩

theorem isTransaction_of_endsDoze {i : Instr} (ends : endsDoze i = true) : isTransaction i = true ∨ i = .restart := by
  cases i <;> simp_all [endsDoze, isTransaction]

theorem exec_endsDoze {i : Instr} (ends : endsDoze i = true) {s : State} (doze : s.host.rest = .doze)
    (free : s.storeBusy = false) : exec i s = exec i s.returnActive := by
  have kept : s.returnActive.storeBusy = false := s.returnActive_storeBusy.trans free
  rcases isTransaction_of_endsDoze ends with transaction | rfl
  · rcases exec_transaction transaction with ⟨handler, taken⟩ | ⟨r, rfl⟩ | rfl
    · rw [taken, taken, ends, State.transact_doze doze _ _ free]
    · simp [endsDoze] at ends
    · simp [endsDoze] at ends
  · simp only [exec, execRestart, free, kept, Bool.false_eq_true, if_false, State.transact_doze doze _ _ free]

-- Deep Rest entry (11 R187)

/-- A channel at Deep Rest entry, CUT where the cut condition holds (09 R153, R162). -/
theorem State.enterDeepRest_channel (s : State) (c : Channel) :
    (s.enterDeepRest.channel c).state =
        (if (s.channel c).state = .faulted then .faulted else if s.cutCondition = true then .cut else .off)
      ∧ (s.enterDeepRest.channel c).standing = false ∧ (s.enterDeepRest.channel c).coolOff = none
      ∧ (s.enterDeepRest.channel c).retry = (s.channel c).retry := by
  have rested : s.drives.atDeepRest.get c = (s.channel c).atDeepRest := by
    have same : s.drives.atDeepRest.get c = (s.drives.mapAll fun _ r => r.atDeepRest).get c := by cases c <;> rfl
    rw [same, Drives.get_mapAll]
    rfl
  have drives : s.enterDeepRest.channel c = if s.cutCondition then (s.channel c).atDeepRest.cut (c == .flap)
      else (s.channel c).atDeepRest := by
    rw [← rested, ← Drives.get_mapAll s.drives.atDeepRest (fun pulse r => r.cut pulse)]
    exact apply_ite (fun d : Drives => d.get c) _ _ _
  rw [drives]
  by_cases faulted : (s.channel c).state = .faulted
  · by_cases cut : s.cutCondition = true <;> simp [cut, faulted, ChannelRecord.atDeepRest, ChannelRecord.cut]
  · by_cases cut : s.cutCondition = true <;>
      simp [cut, faulted, ChannelRecord.atDeepRest, ChannelRecord.cut, ChannelRecord.release]

theorem State.mayRest_iff (s : State) : s.mayRest = true ↔ s.host.started = true ∧ s.host.rest ≠ .deepRest
    ∧ s.member ≠ .conflict ∧ s.path.entry = none ∧ s.path.hold = [] ∧ s.path.transfer = none
    ∧ (s.session.state = .idle ∨ s.session.state = .closed) := by
  simp [State.mayRest, State.pathEmpty, and_assoc]

theorem State.transact_started {s : State} (started : s.host.started = true) (awake : s.awake) (n d : Bool) (h : Handler) :
    s.transact n d h = s.shiftOut.handle h := by
  rw [State.transact_awake awake]
  simp [State.judge, State.shiftOut, started]

/-- Settles O56. -/
theorem restLevels : Obligations.RestLevels := by
  intro s
  refine ⟨fun runs => ?_, fun started awake => ⟨fun offered => ?_, fun notOffered => ?_⟩, fun i ends doze free =>
    ⟨exec_endsDoze ends doze free, s.returnActive_rest⟩, fun started awake => ⟨fun active calm entry hold transfer rests => ?_,
      fun barred => ?_⟩, fun started free => ⟨fun active => ?_, fun doze => ?_, fun deep => ?_⟩⟩
  · simp [exec, execDozeTimerExpired, runs]
  · have done : exec .grantDoze s = .next (s.shiftOut.enterDoze.setAnswer (.done .none)) := by
      simp only [exec, execGrantDoze, State.transact_started started awake]
      simp [State.handle, dozeRequest, State.shiftOut, offered]
    exact ⟨_, done, rfl, rfl, rfl, rfl, rfl, rfl, rfl, rfl, rfl, rfl, rfl, rfl, rfl⟩
  · simp only [exec, execGrantDoze, State.transact_started started awake]
    simp [State.handle, dozeRequest, State.shiftOut, notOffered, State.answered, State.setAnswer]
  · have may : s.shiftOut.mayRest = true := (State.mayRest_iff _).mpr
      ⟨started, by simp [State.shiftOut, active], calm, entry, hold, transfer, rests⟩
    have done : exec .deepRest s = .next (s.shiftOut.enterDeepRest.setAnswer (.done .none)) := by
      simp only [exec, execDeepRest, State.transact_started started awake]
      simp [State.handle, restRequest, may]
    refine ⟨_, done, rfl, rfl, rfl, rfl, rfl, rfl, rfl, rfl, fun x => ?_, fun b => ?_, rfl, rfl, rfl, rfl, rfl, rfl, rfl,
      rfl, rfl, rfl, rfl, ?_, fun k => ?_, s.shiftOut.enterDeepRest_channel, rfl, rfl, rfl, rfl, rfl, rfl, rfl⟩
    · simp [State.entryAt, State.setAnswer, State.enterDeepRest, State.resetDrives, State.emptyBank, freeMap]
    · simp [State.setAnswer, State.enterDeepRest, State.resetDrives, State.emptyBank, BinRecord.initial]
    · by_cases keep : s.host.cfg.keepCache = 1 <;>
        simp [keep, State.setAnswer, State.enterDeepRest, State.resetDrives, State.shiftOut, State.emptyBank,
          ArticleUnit.endLookup, ArticleUnit.clearCache]
    · by_cases keep : s.host.cfg.keepCache = 1
      · simp [keep, State.setAnswer, State.enterDeepRest, State.resetDrives, State.shiftOut, State.emptyBank,
          ArticleUnit.endLookup]
      · simp [keep, State.setAnswer, State.enterDeepRest, State.resetDrives, State.shiftOut, State.emptyBank,
          ArticleUnit.clearCache]
  · have may : s.shiftOut.mayRest = false := by
      rw [Bool.eq_false_iff, Ne, State.mayRest_iff]
      rintro ⟨_, shallow, calm, entry, hold, transfer, rests⟩
      change s.host.rest ≠ _ at shallow
      change s.member ≠ _ at calm
      change s.path.entry = _ at entry
      change s.path.hold = _ at hold
      change s.path.transfer = _ at transfer
      change s.session.state = _ ∨ s.session.state = _ at rests
      rcases rests with h | h <;> simp [shallow, calm, entry, hold, transfer, h] at barred
    simp only [exec, execDeepRest, State.transact_started started awake]
    simp [State.handle, restRequest, may]
    rfl
  · have awake : s.awake := ⟨free, by simp [active]⟩
    simp only [exec, execWake, State.transact_started started awake]
    simp [State.handle, wakeRequest, State.shiftOut, active, State.answered, State.setAnswer]
  · have done : exec .wake s = .next (s.shiftOut.returnActive.setAnswer (.done .none)) := by
      simp [exec, execWake, State.transact, free, State.readied, State.judge, State.handle, State.shiftOut, wakeRequest,
        doze, started]
    have reader := ((State.tryStart_changes { s.shiftOut with
      host := { s.shiftOut.host with rest := .active }
      reader := { run := if s.shiftOut.online then .settling else .stopped, assembly := .idle } }).andThen
      (State.testDoze_changes _) (rs := .doze :: startParts)).keeps .reader
    refine ⟨_, done, rfl, s.shiftOut.returnActive_rest, (congrArg Reader.run reader).trans ?_⟩
    by_cases off : s.member = .offline <;> simp [State.part, State.online, State.shiftOut, off]
  · have done : exec .wake s = .next ((s.shiftOut.exitDeepRest .wakeRequest true).testDoze.setAnswer (.done .none)) := by
      simp [exec, execWake, State.transact, free, State.readied, State.judge, State.handle, State.shiftOut, wakeRequest,
        deep, started]
    have tested := (State.testDoze_changes (s.shiftOut.exitDeepRest .wakeRequest true)).andThen
      (State.setAnswer_changes _ (.done .none)) (rs := [.doze, .answers])
    have woken := s.shiftOut.exitDeepRest_changes .wakeRequest true
    have all := woken.andThen tested (rs := .doze :: .answers :: wakeParts)
    obtain ⟨rest, member, program, reader, told⟩ := s.shiftOut.exitDeepRest_facts .wakeRequest true
    have line := tested.line.trans (s.shiftOut.exitDeepRest_line .wakeRequest true)
    refine ⟨_, done, rfl, (tested.keeps .rest).trans rest, (tested.keeps .member).trans member,
      (tested.keeps .program).trans program, (congrArg Reader.run (tested.keeps .reader)).trans reader, ?_,
      fun peers driver => ?_, (congrArg NoticeRecord.detail (tested.keeps (.notice .joinState))).trans told,
      all.sameNoticesBut [.joinState], all.session, all.config⟩
    · rw [line]
      rfl
    · rw [line]
      exact if_pos ⟨rfl, peers, driver⟩

end Machine
end Sys2Proof
end

section
/-! PROOF. O36, O41, O42: the records read, the voucher taken, the query answered. -/
set_option Elab.async false
namespace Sys2Proof
namespace Machine

-- The reads of records (O36)

theorem State.transact_read {s : State} (awake : s.awake) (d : Bool) (data : State → AnswerData) :
    s.transact false d (answerOnly data) = s.answered (.done (data s.shiftOut)) := by
  rw [State.transact_awake awake]
  rfl

theorem State.shiftOut_binData (s : State) (b : BinNo) : s.shiftOut.binData b =
    { bin := b, capacity := if s.host.configured = true ∧ b ≠ 0 then some (s.capacityOf b) else none
      used := if b = 0 then none else s.bins[b].used, state := s.bins[b].state
      claimed := s.claimedCount b, full := s.full b } := by
  have zero : b.val = 0 ↔ b = 0 := ⟨fun h => Fin.ext h, fun h => by rw [h]; rfl⟩
  have capacity : s.capacity b = if s.host.configured = true ∧ b ≠ 0 then some (s.capacityOf b) else none := by
    simp [State.capacity, zero]
  rw [← capacity]
  simp only [State.binData, zero]
  rfl

/-- Settles O36. -/
theorem recordsAreRead : Obligations.RecordsAreRead := by
  intro s awake
  refine ⟨⟨_, congrArg _ (State.transact_read awake true _), by simp, fun b => ?_⟩,
    ⟨_, congrArg _ (State.transact_read awake true _), ?_⟩, congrArg _ (State.transact_read awake true _),
    congrArg _ (State.transact_read awake true _)⟩
  · simp [s.shiftOut_binData]
  · have path : s.shiftOut.path = s.path := rfl
    simp only [State.pathRecords, path]
    cases s.path.hold <;> rfl

-- A new container leaves the session as it is, but for the undecided mark (10 R167)

theorem State.clearUndecided_session {s : State} (notClosing : s.session.state ≠ .closing) :
    s.clearUndecided.session = { s.session with undecided := false } := by
  rw [State.clearUndecided, State.endClose_of_not_closing (by exact notClosing)]
  rfl

theorem State.checkEntryDrive_session {s : State} {c : Container} (entry : s.path.entry = some c)
    (entering : c.stage = .entering) (notClosing : s.session.state ≠ .closing) :
    ∃ u, s.checkEntryDrive.session = { s.session with undecided := u } := by
  unfold State.checkEntryDrive
  split
  · rw [entry]
    have jammed : (s.jamEntry c .drive (some .entry)).session =
        ((s.emptyEntry.stopEntry).setEntryRecord { c with stage := .stuck }).clearUndecided.session := by
      simp only [State.jamEntry, State.endReport, entering, reduceCtorEq, if_false, Stage.undecided, if_true]
      rfl
    exact ⟨false, jammed.trans (State.clearUndecided_session notClosing)⟩
  · exact ⟨_, rfl⟩

theorem State.tryStart_session {s : State} (notClosing : s.session.state ≠ .closing) :
    ∃ u, s.tryStart.session = { s.session with undecided := u } := by
  have begun : ∃ u, s.begun.session = { s.session with undecided := u } :=
    State.checkEntryDrive_session (c := .entering s.path.tagCounter)
      (s := ((((s.setEntryRecord (.entering s.path.tagCounter)).mapPath fun p =>
        { p with tagCounter := p.tagCounter + 1 }).setUndecided).requestEntry .forward).mapPath fun p =>
        { p with entryTimer := some 0 }) rfl rfl notClosing
  rw [s.tryStart_eq]
  split
  · split
    · rw [State.scanEyeSeen_session]
      exact begun
    · exact begun
  · exact ⟨_, rfl⟩

-- TAKE VOUCHER and the idle timer (O41)

/-- Settles O41. -/
theorem voucherIsTaken : Obligations.VoucherIsTaken := by
  intro s n r
  refine ⟨fun started awake closed number reason => ?_, fun started awake other => ?_, fun runs opened => ?_⟩
  · have done : exec .takeVoucher s = .next (((s.shiftOut.mapSession Session.vouched).tryStart.testDoze).setAnswer
        (.done s.session.voucherData)) := by
      simp only [exec, execTakeVoucher, State.transact_started started awake]
      simp [State.handle, voucherRequest, State.shiftOut, closed]
    obtain ⟨u, session⟩ := State.tryStart_session (s := s.shiftOut.mapSession Session.vouched) (by
      simp [State.mapSession, Session.vouched, Session.emptied])
    have last : (((s.shiftOut.mapSession Session.vouched).tryStart.testDoze).setAnswer (.done s.session.voucherData)).session
        = { s.session.vouched with undecided := u } := (State.testDoze_session _).trans session
    refine ⟨_, done, ?_, ?_⟩
    · simp [State.setAnswer, Session.voucherData, Session.voucher, number, reason]
    · rw [last]
      refine ⟨?_, rfl, rfl, rfl, rfl, rfl, rfl, rfl⟩
      simp only [Session.vouched, addVoucher, Session.voucher, number, reason, Option.getD_some, Config.historyPlaces]
      rfl
  · simp only [exec, execTakeVoucher, State.transact_started started awake]
    simp [State.handle, voucherRequest, State.shiftOut, other, State.setAnswer, State.answered]
  · have done : exec .idleTimerExpired s = .next (s.beginClose .idle).testDoze := by
      simp [exec, execIdleTimerExpired, runs, opened]
    have tested := (s.beginClose .idle).testDoze_changes
    have closes := s.beginClose_changes .idle
    have session : (s.beginClose .idle).testDoze.session = (s.beginClose .idle).session := tested.session
    have all := closes.andThen tested (rs := .doze :: closeParts)
    refine ⟨_, done, ?_, fun waits => ?_, fun pending decided one => ?_, all.path, all.line, all.drives⟩
    · rw [session]
      by_cases waits : s.session.pending = 0 ∧ s.session.undecided = false
      · rcases Nat.eq_zero_or_pos s.session.count with empty | one
        · rw [State.beginClose_of_empty .idle waits.1 waits.2 empty]
          rfl
        · rw [State.beginClose_of_credited .idle waits.1 waits.2 one, State.assignNumber_session]
          rfl
      · rw [State.beginClose_of_waiting .idle waits]
        rfl
    · rw [session, State.beginClose_of_waiting .idle waits]
      rfl
    · rw [session, State.beginClose_of_credited .idle pending decided one, State.assignNumber_session]
      exact ⟨rfl, rfl, rfl, rfl, rfl⟩

-- ARTICLE ANSWER (O42)

theorem readEntry_of_malformed {e : EntryBytes} (bad : malformedField e ≠ none) : ∃ f, readEntry e = .error f := by
  obtain ⟨f, field⟩ := Option.ne_none_iff_exists'.mp bad
  exact ⟨f, by simp [readEntry, field]⟩

/-- Settles O42. -/
theorem queryIsAnswered : Obligations.QueryIsAnswered := by
  intro s code kind option record p tag
  refine ⟨fun started awake => ?_, fun querying runs => ?_⟩
  · have taken : exec (.articleAnswer code kind record option) s =
        .next (s.shiftOut.handle (answerArticle code kind record option)) := by
      simp only [exec, execArticleAnswer, State.transact_started started awake]
    have article : s.shiftOut.article = s.article := rfl
    rw [taken]
    refine ⟨fun none => ?_, fun querying other => ?_, fun querying same record' optional bad => ?_,
      fun querying same absent optional => ?_, fun a querying same found own read => ⟨fun plain => ?_, fun cached => ?_⟩⟩
    · have turned : answerArticle code kind record option s.shiftOut = (s.shiftOut, some (.refused .none)) := by
        unfold answerArticle
        rw [article]
        split
        · rfl
        · rfl
        · exact absurd ‹_› (none _ _)
      simp only [State.handle, turned]
      rfl
    · simp only [State.handle, answerArticle, article, querying, ne_eq, other, not_false_eq_true, if_true]
      rfl
    · have kinds : ¬(1 < kind ∨ 1 < option) := by omega
      have notAbsent : ¬kind = 1 := by omega
      by_cases own : entryCode record = p
      · obtain ⟨f, malformed⟩ := readEntry_of_malformed (bad.resolve_left (fun other => other own))
        simp only [State.handle, answerArticle, article, querying, same, ne_eq, not_true, if_false, kinds, notAbsent, own,
          malformed]
        rfl
      · simp only [State.handle, answerArticle, article, querying, same, ne_eq, not_true, if_false, kinds, notAbsent, own,
          not_false_eq_true, if_true]
        rfl
    · have kinds : ¬(1 < 1 ∨ 1 < option) := by omega
      simp only [State.handle, answerArticle, article, querying, same, ne_eq, not_true, if_false, kinds, absent, if_true]
      rfl
    · have kinds : ¬(1 < kind ∨ 1 < option) := by omega
      have notAbsent : ¬kind = 1 := by omega
      have notCached : ¬option = 1 := by omega
      simp only [State.handle, answerArticle, article, querying, same, ne_eq, not_true, if_false, kinds, notAbsent, own,
        read, notCached]
      rfl
    · have kinds : ¬(1 < kind ∨ 1 < 1) := by omega
      have notAbsent : ¬kind = 1 := by omega
      simp only [State.handle, answerArticle, article, querying, same, ne_eq, not_true, if_false, kinds, notAbsent, own,
        read, cached, if_true]
      rfl
  · simp only [exec, execQueryTimeExpired, runs, if_true, querying]
    rfl

end Machine
end Sys2Proof
end

section
/-! PROOF. O37: the requests turned away, and the bytes of a transaction. -/
set_option Elab.async false
namespace Sys2Proof
namespace Machine

-- Every transaction shifts one answer out (11 R176)

/-- A request leaves the answer that has been shifted out as it is. -/
def Handler.KeepsShifted (h : Handler) : Prop := ∀ s, (h s).1.host.shifted = s.host.shifted

theorem Handler.Writes.keepsShifted {parts : List Part} {h : Handler} (w : h.Writes parts)
    (out : .answers ∉ parts := by simp [NoticeDetail.kind]) : h.KeepsShifted := fun s =>
  congrArg Prod.snd ((w s).keeps .answers out)

theorem restRequest_keepsShifted : restRequest.KeepsShifted := fun s => by
  unfold restRequest
  split <;> rfl

/-- Every transaction but a RESTART is a request with its two marks (11 R176, R177), or carries no request; and the request
leaves alone what has been shifted out. -/
theorem exec_transaction_shifted {i : Instr} (h : isTransaction i = true) :
    (∃ handler : Handler, handler.KeepsShifted
        ∧ ∀ s, exec i s = .next (s.transact (needsStart i) (endsDoze i) handler))
      ∨ (∃ r, i = .badRequest r) ∨ i = .emptyTransaction := by
  cases i <;> simp only [isTransaction, Bool.false_eq_true] at h
  case badRequest r => exact .inr (.inl ⟨r, rfl⟩)
  case emptyTransaction => exact .inr (.inr rfl)
  case setConfiguration c => exact .inl ⟨_, (configureRequest_writes c).keepsShifted, fun _ => rfl⟩
  case start => exact .inl ⟨_, startRequest_writes.keepsShifted, fun _ => rfl⟩
  case readNotices => exact .inl ⟨_, noticesRequest_writes.keepsShifted (by simp [allNoticeKinds]), fun _ => rfl⟩
  case readMap first count => exact .inl ⟨_, (mapRequest_writes first count).keepsShifted, fun _ => rfl⟩
  case closeSession => exact .inl ⟨_, closeRequest_writes.keepsShifted, fun _ => rfl⟩
  case takeVoucher => exact .inl ⟨_, voucherRequest_writes.keepsShifted, fun _ => rfl⟩
  case articleAnswer code kind record o =>
    exact .inl ⟨_, (answerArticle_writes code kind record o).keepsShifted, fun _ => rfl⟩
  case revokeArticle code => exact .inl ⟨_, (revokeRequest_writes code).keepsShifted, fun _ => rfl⟩
  case storeRead a n => exact .inl ⟨_, (storeRequest_writes a n _).keepsShifted, fun _ => rfl⟩
  case storeWrite a d => exact .inl ⟨_, (storeRequest_writes a d.length _).keepsShifted, fun _ => rfl⟩
  case binSet b u => exact .inl ⟨_, (binRequest_writes _ _).keepsShifted, fun _ => rfl⟩
  case binHold b => exact .inl ⟨_, (binRequest_writes _ _).keepsShifted, fun _ => rfl⟩
  case binOpen b => exact .inl ⟨_, (binRequest_writes _ _).keepsShifted, fun _ => rfl⟩
  case grantDoze => exact .inl ⟨_, dozeRequest_writes.keepsShifted, fun _ => rfl⟩
  case deepRest => exact .inl ⟨_, restRequest_keepsShifted, fun _ => rfl⟩
  case wake => exact .inl ⟨_, wakeRequest_writes.keepsShifted, fun _ => rfl⟩
  case clearDrive n => exact .inl ⟨_, (clearRequest_writes n).keepsShifted, fun _ => rfl⟩
  case clearJam => exact .inl ⟨_, jamRequest_writes.keepsShifted, fun _ => rfl⟩
  all_goals exact .inl ⟨_, (answerOnly_writes _).keepsShifted, fun _ => rfl⟩

theorem State.handle_shifted (s : State) {h : Handler} (keeps : h.KeepsShifted) :
    (s.handle h).host.shifted = s.host.shifted := by
  have kept := keeps s
  unfold State.handle
  split <;> rename_i same <;> rw [same] at kept <;> exact kept

theorem State.transact_shifted (s : State) (n d : Bool) {h : Handler} (keeps : h.KeepsShifted) :
    (s.transact n d h).host.shifted = s.outgoing := by
  unfold State.transact State.outgoing
  by_cases busy : s.storeBusy = true
  · rw [if_pos busy, if_pos busy]
    rfl
  · rw [if_neg busy, if_neg busy]
    have ready : (s.readied d).host.shifted = s.host.answer := by
      unfold State.readied
      split
      · exact congrArg Prod.snd (s.shiftOut.endDoze_changes.keeps .answers)
      · rfl
    have judged : ((s.readied d).judge n h).host.shifted = (s.readied d).host.shifted := by
      unfold State.judge
      split
      · exact State.handle_shifted _ fun _ => rfl
      · exact State.handle_shifted _ keeps
    exact judged.trans ready

-- The bytes of an answer (11 R176)

theorem shiftedBytes_length (a : Answer) (data : List Byte) (n : Nat) : (shiftedBytes a data n).length = n := by
  simp [shiftedBytes]

theorem shiftedBytes_getElem? (a : Answer) (data : List Byte) {n i : Nat} (lt : i < n) :
    (shiftedBytes a data n)[i]? = some ((answerBytes a data).getD i 0) := by
  unfold shiftedBytes
  rw [List.getElem?_take_of_lt lt]
  by_cases inside : i < (answerBytes a data).length
  · simp [List.getElem?_append_left inside, List.getD_eq_getElem?_getD, List.getElem?_eq_getElem inside]
  · have rest : i - (answerBytes a data).length < n := by omega
    simp [List.getElem?_append_right (Nat.le_of_not_lt inside), List.getD_eq_getElem?_getD,
      List.getElem?_eq_none (Nat.le_of_not_lt inside), rest]

theorem answerBytes_length (a : Answer) (data : List Byte) : (answerBytes a data).length = data.length + 5 := by
  simp [answerBytes]

-- The bytes of a request (11 R176, R178)

theorem payloadByte_cons (b : Byte) (rest : List Byte) : payloadByte (b :: rest) 0 = b.toNat := by
  simp [payloadByte, payloadNat, bytesValue]

theorem payloadLength_cons (b c d : Byte) (rest : List Byte) :
    payloadNat (b :: c :: d :: rest) 1 2 = 256 * c.toNat + d.toNat := by
  simp [payloadNat, bytesValue]

/-- Bytes that are fewer than the length field and the check require (11 R176). -/
theorem transactionCommand_short {bytes : List Byte} (some : 1 ≤ bytes.length)
    (short : bytes.length < 4 ∨ bytes.length < 4 + payloadNat bytes 1 2) :
    transactionCommand bytes = .badRequest .length := by
  simp only [transactionCommand, show ¬bytes.length = 0 by omega, if_false, short, if_true]

/-- Bytes after the check are ignored (11 R176). -/
theorem transactionCommand_append {bytes : List Byte} (more : List Byte) (whole : 4 ≤ bytes.length)
    (inside : 4 + payloadNat bytes 1 2 ≤ bytes.length) :
    transactionCommand (bytes ++ more) = transactionCommand bytes := by
  obtain ⟨b, c, d, e, rest, rfl⟩ : ∃ b c d e rest, bytes = b :: c :: d :: e :: rest := by
    match bytes, whole with
    | b :: c :: d :: e :: rest, _ => exact ⟨b, c, d, e, rest, rfl⟩
  rw [payloadLength_cons] at inside
  have room : 3 + (256 * c.toNat + d.toNat) < (b :: c :: d :: e :: rest).length := by
    simp only [List.length_cons] at inside ⊢
    omega
  have payload : ((b :: c :: d :: e :: rest ++ more).drop 3).take (256 * c.toNat + d.toNat) =
      ((b :: c :: d :: e :: rest).drop 3).take (256 * c.toNat + d.toNat) := by
    rw [List.drop_append_of_le_length (by omega), List.take_append_of_le_length (by
      simp only [List.length_drop]
      omega)]
  have checked : (b :: c :: d :: e :: rest ++ more).take (3 + (256 * c.toNat + d.toNat)) =
      (b :: c :: d :: e :: rest).take (3 + (256 * c.toNat + d.toNat)) := List.take_append_of_le_length (by omega)
  have check : ((b :: c :: d :: e :: rest ++ more).drop (3 + (256 * c.toNat + d.toNat))).headD 0 =
      ((b :: c :: d :: e :: rest).drop (3 + (256 * c.toNat + d.toNat))).headD 0 := by
    rw [List.drop_append_of_le_length (by omega), List.drop_eq_getElem_cons room]
    rfl
  have fields (tail : List Byte) : payloadByte (b :: c :: d :: e :: tail) 0 = b.toNat
      ∧ payloadNat (b :: c :: d :: e :: tail) 1 2 = 256 * c.toNat + d.toNat :=
    ⟨payloadByte_cons b _, payloadLength_cons b c d _⟩
  have longer : ¬((b :: c :: d :: e :: rest ++ more).length < 4
      ∨ (b :: c :: d :: e :: rest ++ more).length < 4 + (256 * c.toNat + d.toNat)) := by
    rw [List.length_append]
    omega
  have long : ¬((b :: c :: d :: e :: rest).length < 4
      ∨ (b :: c :: d :: e :: rest).length < 4 + (256 * c.toNat + d.toNat)) := by omega
  simp only [transactionCommand]
  rw [show b :: c :: d :: e :: rest ++ more = b :: c :: d :: e :: (rest ++ more) from rfl] at *
  simp only [fields, payload, checked, check, longer, long]
  simp

theorem payloadLength_getD {bytes : List Byte} (whole : 4 ≤ bytes.length) :
    payloadNat bytes 1 2 = 256 * (bytes.getD 1 0).toNat + (bytes.getD 2 0).toNat := by
  match bytes, whole with
  | b :: c :: d :: e :: rest, _ => exact payloadLength_cons b c d _

theorem isTransaction_of_needsStart {i : Instr} (needs : needsStart i = true) : isTransaction i = true ∨ i = .restart := by
  cases i <;> simp_all [needsStart, isTransaction]

/-- Settles O37. -/
theorem requestsTurnedAway : Obligations.RequestsTurnedAway := by
  intro s
  refine ⟨fun i transaction busy => ?_, fun i needs awake fresh => ?_, fun r free => ?_, fun free => ?_,
    fun i transaction => ?_, fun busy => if_pos busy, fun free => ?_, fun _ _ => rfl, fun a data n i lt =>
      ⟨shiftedBytes_length a data n, shiftedBytes_getElem? a data lt, ?_, ?_, answerBytes_length a data, ?_⟩, rfl,
    fun bytes one short => ?_, fun bytes more whole inside => ?_⟩
  · rcases exec_transaction transaction with ⟨handler, taken⟩ | ⟨r, rfl⟩ | rfl
    · rw [taken]
      exact congrArg _ (if_pos busy)
    · exact congrArg _ (if_pos busy)
    · exact congrArg _ (if_pos busy)
  · have refused (handler : Handler) (d : Bool) : s.transact true d handler = s.answered (.refused .state) := by
      rw [State.transact_awake awake]
      simp [State.judge, State.shiftOut, fresh, State.handle, refuse, State.setAnswer, State.answered]
    rcases isTransaction_of_needsStart needs with transaction | rfl
    · rcases exec_transaction transaction with ⟨handler, taken⟩ | ⟨r, rfl⟩ | rfl
      · rw [taken, needs, refused]
      · simp [needsStart] at needs
      · simp [needsStart] at needs
    · simp only [exec, execRestart, awake.1, Bool.false_eq_true, if_false, refused]
  · simp [exec, execBadRequest, free, State.shiftOut, State.setAnswer, State.answered]
  · simp [exec, execEmptyTransaction, free, State.shiftOut, State.answered]
  · rcases exec_transaction_shifted transaction with ⟨handler, keeps, taken⟩ | ⟨r, rfl⟩ | rfl
    · exact ⟨_, taken s, s.transact_shifted _ _ keeps⟩
    · refine ⟨_, rfl, ?_⟩
      unfold State.outgoing
      split <;> rfl
    · refine ⟨_, rfl, ?_⟩
      unfold State.outgoing
      split <;> rfl
  · simp [State.outgoing, free]
  · simp [answerBytes]
  · simp [answerBytes]
  · simp [answerBytes]
  · refine transactionCommand_short one ?_
    by_cases few : bytes.length < 4
    · exact .inl few
    · rw [payloadLength_getD (by omega)]
      omega
  · exact transactionCommand_append more whole (by
      rw [payloadLength_getD whole]
      omega)

end Machine
end Sys2Proof
end

section
/-! PROOF. O35: READ STATUS, READ NOTICES and the NOTICE output. -/
set_option Elab.async false
namespace Sys2Proof
namespace Machine

-- The kinds by number (11 R182)

theorem index_noticeKindAt (k : Fin 22) : (noticeKindAt k).index = k := by
  revert k
  decide

theorem NoticeKind.exists_index (j : Fin 22) : ∃ k : NoticeKind, k.index = j := ⟨noticeKindAt j, index_noticeKindAt j⟩

theorem State.noticeAsserted_iff (s : State) : s.noticeAsserted = true ↔
    ∃ k : NoticeKind, s.host.cfg.notice[k.index].enable = 1 ∧ (s.noticeOf k).isSome = true := by
  simp only [State.noticeAsserted, List.any_eq_true, List.mem_finRange, true_and, Bool.and_eq_true, beq_iff_eq]
  constructor
  · rintro ⟨j, flag, enabled⟩
    obtain ⟨k, rfl⟩ := NoticeKind.exists_index j
    exact ⟨k, enabled, flag⟩
  · rintro ⟨k, enabled, flag⟩
    exact ⟨k.index, flag, enabled⟩

/-- The entries of one priority (11 R183). -/
theorem State.mem_noticesOf (s : State) (p : Nat) (k : NoticeKind) (d : NoticeDetail) (n : Nat) :
    (k, d, n) ∈ s.noticesOf p ↔ s.host.cfg.notice[k.index].priority = p ∧ s.noticeOf k = some d
      ∧ s.notices[k.index].count = n := by
  simp only [State.noticesOf, List.mem_filterMap, List.mem_finRange, true_and]
  constructor
  · rintro ⟨j, listed⟩
    obtain ⟨i, rfl⟩ := NoticeKind.exists_index j
    split at listed
    · rename_i priority
      simp only [Option.map_eq_some_iff, Prod.mk.injEq, noticeKindAt_index] at listed
      obtain ⟨d', flag, rfl, rfl, rfl⟩ := listed
      exact ⟨priority, flag, rfl⟩
    · simp at listed
  · rintro ⟨priority, flag, rfl⟩
    refine ⟨k.index, ?_⟩
    rw [if_pos priority, noticeKindAt_index]
    exact (congrArg _ flag).trans rfl

/-- The kinds of one priority come in kind order (11 R183). -/
theorem State.noticesOf_pairwise (s : State) (p : Nat) : (s.noticesOf p).Pairwise fun a b => a.1.index < b.1.index := by
  unfold State.noticesOf
  rw [List.pairwise_filterMap]
  refine (List.pairwise_lt_finRange 22).imp fun {i j} lt => ?_
  intro a ha b hb
  split at ha
  · split at hb
    · simp only [Option.map_eq_some_iff] at ha hb
      obtain ⟨_, _, rfl⟩ := ha
      obtain ⟨_, _, rfl⟩ := hb
      simpa only [index_noticeKindAt] using lt
    · simp at hb
  · simp at ha

theorem priority_le_of_meetsBounds {c : Configuration} (h : c.MeetsBounds) (k : Fin 22) : c.notice[k].priority ≤ 7 := by
  obtain ⟨_, _, _, _, _, _, _, _, _, _, _, _, _, _, _, _, _, _, _, _, _, _, notice⟩ := h
  exact (notice k).1

theorem State.mem_noticeEntries {s : State} (bounds : s.host.cfg.MeetsBounds) (k : NoticeKind) (d : NoticeDetail) (n : Nat) :
    (k, d, n) ∈ s.noticeEntries ↔ s.noticeOf k = some d ∧ s.notices[k.index].count = n := by
  have top := priority_le_of_meetsBounds bounds k.index
  simp only [State.noticeEntries, List.mem_flatten, List.mem_map, exists_exists_and_eq_and, s.mem_noticesOf]
  constructor
  · rintro ⟨p, _, _, standing⟩
    exact standing
  · intro standing
    refine ⟨_, ?_, rfl, standing⟩
    interval_cases s.host.cfg.notice[k.index].priority <;> simp

theorem State.noticeEntries_pairwise (s : State) : s.noticeEntries.Pairwise fun a b =>
    s.host.cfg.notice[b.1.index].priority < s.host.cfg.notice[a.1.index].priority
      ∨ (s.host.cfg.notice[a.1.index].priority = s.host.cfg.notice[b.1.index].priority ∧ a.1.index < b.1.index) := by
  unfold State.noticeEntries
  have falling : [7, 6, 5, 4, 3, 2, 1, 0].Pairwise (· > ·) := by decide
  rw [List.pairwise_flatten, List.pairwise_map]
  constructor
  · intro l mem
    obtain ⟨p, _, rfl⟩ := List.mem_map.mp mem
    refine (List.Pairwise.and_mem.mp (s.noticesOf_pairwise p)).imp fun {a b} h => ?_
    obtain ⟨ha, hb, lt⟩ := h
    have pa := ((s.mem_noticesOf p a.1 a.2.1 a.2.2).mp ha).1
    have pb := ((s.mem_noticesOf p b.1 b.2.1 b.2.2).mp hb).1
    exact .inr ⟨pa.trans pb.symm, lt⟩
  · refine falling.imp fun {p q} lt a ha b hb => .inl ?_
    rw [((s.mem_noticesOf p a.1 a.2.1 a.2.2).mp ha).1, ((s.mem_noticesOf q b.1 b.2.1 b.2.2).mp hb).1]
    exact lt

theorem channelAt_channelIndex (c : Channel) : channelAt (channelIndex c) = c := by
  cases c with
  | entry | hold | flap => rfl
  | gate g => fin_cases g <;> rfl

-- Reading clears the flags returned (11 R183)

theorem State.clearRead_record (s : State) (k : NoticeKind) : s.clearRead.notices[k.index] =
    if (s.noticeOf k).isSome then { detail := none, count := 0 } else s.notices[k.index] := by
  simp only [State.clearRead, State.noticeOf, Fin.getElem_fin, Vector.getElem_map]
  rfl

theorem State.clearRead_noticeOf (s : State) (k : NoticeKind) : s.clearRead.noticeOf k = none := by
  rw [State.noticeOf, s.clearRead_record]
  split
  · rfl
  · rename_i clear
    simpa [State.noticeOf] using clear

-- The first frame (02 R42)

theorem State.firstFrame_waiting {s : State} (waiting : allWaiting s.line.queue) : s.firstFrame = s.line.queue.head? := by
  rw [State.firstFrame, (s.inFlight_none_iff).mpr waiting]
  rfl

theorem State.firstFrame_sent {s : State} {pre post : List QueuedFrame} {g : QueuedFrame}
    (q : s.line.queue = pre ++ g :: post) (hp : allWaiting pre) (sent : g.phase ≠ .waiting) : s.firstFrame = some g := by
  rw [State.firstFrame, State.inFlight_split q hp sent]
  rfl

/-- Settles O35. -/
theorem statusAndNoticesAreRead : Obligations.StatusAndNoticesAreRead := by
  refine ⟨State.noticeAsserted_iff, fun s free => ⟨?_, fun bounds => ?_⟩⟩
  · have taken : exec .readStatus s = .next (s.answered (.done (.status s.shiftOut.statusData))) := by
      simp [exec, execReadStatus, State.transact, free, State.readied, State.judge, State.handle, answerOnly,
        State.setAnswer, State.shiftOut, State.answered]
    refine ⟨_, taken, rfl, rfl, rfl, rfl, rfl, beq_iff_eq, rfl, rfl, rfl, rfl, rfl, rfl, beq_iff_eq, rfl, rfl, rfl, rfl,
      rfl, rfl, rfl, rfl, fun c => ?_, fun pre g post q hp sent => ?_, fun waiting => ?_, rfl, fun w walking => ?_,
      fun idle => ?_, fun a access => ?_, fun access => ?_⟩
    · have status : s.shiftOut.statusData.channels[channelIndex c] = s.shiftOut.channelStatus c := by
        simp [State.statusData, channelAt_channelIndex]
      rw [status]
      exact ⟨rfl, rfl, rfl, rfl, rfl, rfl⟩
    · simp only [State.statusData, State.firstFrame_sent (s := s.shiftOut) q hp sent, Option.map_some]
    · simp only [State.statusData, State.firstFrame_waiting (s := s.shiftOut) waiting]
      rfl
    · simp [State.statusData, State.shiftOut, ArticleUnit.walkState, ArticleUnit.walk, walking]
    · have noWalk : s.article.walk = none := by
        unfold ArticleUnit.walk
        split
        · exact absurd ‹_› (idle _)
        · rfl
        · rfl
      simp [State.statusData, State.shiftOut, ArticleUnit.walkState, noWalk]
    · simp [State.statusData, State.shiftOut, ArticleUnit.accessState, access]
    · simp [State.statusData, State.shiftOut, ArticleUnit.accessState, access]
  · have taken : exec .readNotices s =
        .next (s.shiftOut.clearRead.setAnswer (.done (.notices s.shiftOut.noticeEntries))) := by
      simp [exec, execReadNotices, State.transact, free, State.readied, State.judge, State.handle, noticesRequest]
    refine ⟨_, _, taken, rfl, State.mem_noticeEntries (s := s.shiftOut) bounds, s.shiftOut.noticeEntries_pairwise,
      fun k => ⟨s.shiftOut.clearRead_noticeOf k, ?_⟩, ?_⟩
    · have record := congrArg NoticeRecord.count (s.shiftOut.clearRead_record k)
      exact record.trans (apply_ite NoticeRecord.count _ _ _)
    · rw [Bool.eq_false_iff, Ne, State.noticeAsserted_iff]
      rintro ⟨k, _, flag⟩
      have clear : (s.shiftOut.clearRead.setAnswer (.done (.notices s.shiftOut.noticeEntries))).noticeOf k = none :=
        s.shiftOut.clearRead_noticeOf k
      rw [clear] at flag
      simp at flag

end Machine
end Sys2Proof
end

section
/-! PROOF. O53, the Article Cache (08 R139, R149): which way a fill takes, and what REVOKE ARTICLE leaves. -/
set_option Elab.async false
namespace Sys2Proof
namespace Machine

/-- The first of the places in order that satisfies a test is the lowest one. -/
theorem finRange_find_some {n : Nat} {p : Fin n → Bool} {w : Fin n} (found : (List.finRange n).find? p = some w) :
    p w = true ∧ ∀ v < w, p v = false := by
  obtain ⟨holds, pre, post, split, before⟩ := List.find?_eq_some_iff_append.mp found
  have sorted : (pre ++ w :: post).Pairwise (· < ·) := split ▸ List.pairwise_lt_finRange n
  refine ⟨holds, fun v below => ?_⟩
  have inside : v ∈ pre ++ w :: post := split ▸ List.mem_finRange v
  rcases List.mem_append.mp inside with early | late
  · simpa using before v early
  · rcases List.mem_cons.mp late with rfl | later
    · exact absurd below (lt_irrefl _)
    · have above := List.rel_of_pairwise_cons (List.pairwise_append.mp sorted).2.1 later
      exact absurd (below.trans above) (lt_irrefl _)

theorem finRange_find_none {n : Nat} {p : Fin n → Bool} : (List.finRange n).find? p = none ↔ ∀ v, p v = false := by
  simp [List.find?_eq_none]

namespace CacheSet

/-- A way of the set holds the code. -/
def Holds (c : CacheSet) (code : Code) (w : Fin 4) : Prop := ∃ b, c.ways[w] = some b ∧ b.code = code

theorem any_code_iff (c : CacheSet) (code : Code) (w : Fin 4) :
    ((c.ways[w]).any fun a => a.code == code) = true ↔ c.Holds code w := by
  simp only [Option.any_eq_true, beq_iff_eq, Holds]

theorem any_code_eq_false (c : CacheSet) (code : Code) (w : Fin 4) :
    ((c.ways[w]).any fun a => a.code == code) = false ↔ ¬c.Holds code w := by
  rw [← any_code_iff, Bool.not_eq_true]

theorem holds_of_wayOf {c : CacheSet} {code : Code} {w : Fin 4} (way : c.wayOf code = some w) : c.Holds code w :=
  (c.any_code_iff code w).mp (finRange_find_some way).1

theorem not_holds_below_wayOf {c : CacheSet} {code : Code} {w v : Fin 4} (way : c.wayOf code = some w) (below : v < w) :
    ¬c.Holds code v := (c.any_code_eq_false code v).mp ((finRange_find_some way).2 v below)

theorem wayOf_eq_none_iff {c : CacheSet} {code : Code} : c.wayOf code = none ↔ ∀ v, ¬c.Holds code v := by
  rw [wayOf, finRange_find_none]
  exact forall_congr' fun v => c.any_code_eq_false code v

theorem exists_wayOf {c : CacheSet} {code : Code} {v : Fin 4} (holds : c.Holds code v) : ∃ w, c.wayOf code = some w :=
  Option.ne_none_iff_exists'.mp fun none => wayOf_eq_none_iff.mp none v holds

theorem fillWay_of_wayOf {c : CacheSet} {code : Code} {w : Fin 4} (way : c.wayOf code = some w) : c.fillWay code = w := by
  simp [fillWay, way]

/-- A set without the code: the fill takes the lowest invalid way, or the victim (08 R139). -/
theorem fillWay_of_absent {c : CacheSet} {code : Code} (absent : c.wayOf code = none) :
    ((∃ v : Fin 4, c.ways[v] = none) → c.ways[c.fillWay code] = none ∧ ∀ v : Fin 4, v < c.fillWay code → c.ways[v] ≠ none)
      ∧ ((∀ v : Fin 4, c.ways[v] ≠ none) → c.fillWay code = c.victim) := by
  cases invalid : (List.finRange 4).find? fun w => (c.ways[w]).isNone with
  | some w =>
    obtain rfl : c.fillWay code = w := by simp only [fillWay, absent, invalid]
    obtain ⟨free, lowest⟩ := finRange_find_some invalid
    exact ⟨fun _ => ⟨Option.isNone_iff_eq_none.mp free, fun v below free => by simpa [free] using lowest v below⟩,
      fun full => absurd (Option.isNone_iff_eq_none.mp free) (full _)⟩
  | none =>
    have way : c.fillWay code = c.victim := by simp only [fillWay, absent, invalid]
    exact ⟨fun ⟨v, free⟩ => absurd (finRange_find_none.mp invalid v) (by simp only [free]; nofun), fun _ => way⟩

theorem access_ways (c : CacheSet) (w : Fin 4) : (c.access w).ways = c.ways := by
  unfold access
  split_ifs <;> rfl

theorem fill_ways (c : CacheSet) (a : Article) (v : Fin 4) :
    (c.fill a).ways[v] = if v = c.fillWay a.code then some a else c.ways[v] := by
  simp only [fill, access_ways, Fin.getElem_fin, Vector.getElem_set, Fin.ext_iff, eq_comm (a := v.val)]

theorem invalidate_ways (c : CacheSet) (w v : Fin 4) : (c.invalidate w).ways[v] = if v = w then none else c.ways[v] := by
  simp only [invalidate, Fin.getElem_fin, Vector.getElem_set, Fin.ext_iff, eq_comm (a := v.val)]

/-- A fill keeps at most one way for a code: no other way than the filled one holds the code filled in (08 R139). -/
theorem fill_oneWayPerCode {c : CacheSet} (one : c.oneWayPerCode) (a : Article) : (c.fill a).oneWayPerCode := by
  have other (v : Fin 4) (b : Article) (held : c.ways[v] = some b) (same : b.code = a.code) : v = c.fillWay a.code := by
    obtain ⟨w, way⟩ := exists_wayOf ⟨b, held, same⟩
    obtain ⟨b', held', same'⟩ := holds_of_wayOf way
    rw [fillWay_of_wayOf way]
    exact one v w b b' held held' (same.trans same'.symm)
  intro v w x y atV atW same
  rw [fill_ways] at atV atW
  split at atV <;> split at atW
  next hv hw => rw [hv, hw]
  next hv hw =>
    obtain rfl := Option.some.inj atV
    rw [hv, other w y atW same.symm]
  next hv hw =>
    obtain rfl := Option.some.inj atW
    rw [hw, other v x atV same]
  next hv hw => exact one v w x y atV atW same

end CacheSet

namespace ArticleUnit

theorem putSet_setFor (u : ArticleUnit) (code : Code) (c : CacheSet) : (u.putSet code c).setFor code = c := by
  simp [setFor, putSet]

theorem putSet_other (u : ArticleUnit) (code : Code) (c : CacheSet) {k : Fin 64} (other : k ≠ cacheSetOf code) :
    (u.putSet code c).cache[k] = u.cache[k] := by
  simp only [putSet, Fin.getElem_fin]
  exact Vector.getElem_set_ne _ _ fun same => other (Fin.ext same.symm)

theorem revoke_of_wayOf {u : ArticleUnit} {code : Code} {w : Fin 4} (way : (u.setFor code).wayOf code = some w) :
    (u.revoke code).setFor code = (u.setFor code).invalidate w := by
  rw [revoke, way]
  exact u.putSet_setFor code _

theorem revoke_of_absent {u : ArticleUnit} {code : Code} (absent : (u.setFor code).wayOf code = none) :
    u.revoke code = u := by rw [revoke, absent]

/-- The set of a code after REVOKE ARTICLE (08 R149): the way of the code is invalid and the tree bits stand. -/
theorem revoke_setFor {u : ArticleUnit} {code : Code} (one : (u.setFor code).oneWayPerCode) :
    (∀ v : Fin 4, ((u.revoke code).setFor code).ways[v] = ((u.setFor code).ways[v]).filter fun b => b.code != code)
      ∧ ((u.revoke code).setFor code).t0 = (u.setFor code).t0 ∧ ((u.revoke code).setFor code).t1 = (u.setFor code).t1
      ∧ ((u.revoke code).setFor code).t2 = (u.setFor code).t2 := by
  have kept (v : Fin 4) (absent : ¬(u.setFor code).Holds code v) :
      (u.setFor code).ways[v] = ((u.setFor code).ways[v]).filter fun b => b.code != code := by
    cases way : (u.setFor code).ways[v] with
    | none => rfl
    | some b =>
      have differs : b.code ≠ code := fun same => absent ⟨b, way, same⟩
      exact (if_pos (bne_iff_ne.mpr differs)).symm
  cases way : (u.setFor code).wayOf code with
  | none =>
    rw [revoke_of_absent way]
    exact ⟨fun v => kept v (CacheSet.wayOf_eq_none_iff.mp way v), rfl, rfl, rfl⟩
  | some w =>
    rw [revoke_of_wayOf way]
    refine ⟨fun v => ?_, rfl, rfl, rfl⟩
    obtain ⟨b, held, same⟩ := CacheSet.holds_of_wayOf way
    rw [CacheSet.invalidate_ways]
    split
    next here =>
      subst here
      simp only [held, Option.filter, same, bne_self_eq_false, Bool.false_eq_true, if_false]
    next there =>
      exact kept v fun ⟨b', held', same'⟩ => there (one v w b' b held' held (same'.trans same.symm))

theorem revoke_other {u : ArticleUnit} {code : Code} {k : Fin 64} (other : k ≠ cacheSetOf code) :
    (u.revoke code).cache[k] = u.cache[k] := by
  unfold revoke
  split
  · exact u.putSet_other code _ other
  · rfl

theorem revoke_lookup (u : ArticleUnit) (code : Code) : (u.revoke code).lookup = u.lookup := by
  unfold revoke
  split <;> rfl

theorem markRevoked_cache (u : ArticleUnit) (code : Code) : (u.markRevoked code).cache = u.cache := by
  unfold markRevoked
  split
  · split <;> rfl
  · rfl
  · rfl

theorem markRevoked_walking {u : ArticleUnit} {w : Walk} (walking : u.lookup = .walking w) :
    (u.markRevoked w.code).lookup = .walking { w with revoked := true } := by
  simp [markRevoked, walking]

theorem markRevoked_of_other {u : ArticleUnit} {code : Code} (other : ∀ w, u.lookup = .walking w → w.code ≠ code) :
    u.markRevoked code = u := by
  unfold markRevoked
  split
  next w walking => rw [if_neg (other w walking)]
  · rfl
  · rfl

end ArticleUnit

/-- Settles O53. -/
theorem cacheFillsAndRevokes : Obligations.CacheFillsAndRevokes := by
  refine ⟨fun c a => ⟨?_, rfl, rfl, rfl, rfl, ⟨c.fillWay a.code, rfl, fun ⟨v, b, held, same⟩ => ?_, fun absent => ?_⟩,
    fun one => CacheSet.fill_oneWayPerCode one a⟩, fun s n started awake => ⟨fun bad => ?_, fun least most one => ?_⟩⟩
  · cases h0 : c.t0 <;> cases h1 : c.t1 <;> cases h2 : c.t2 <;> simp [CacheSet.victim, h0, h1, h2]
  · obtain ⟨w, way⟩ := CacheSet.exists_wayOf ⟨b, held, same⟩
    rw [CacheSet.fillWay_of_wayOf way]
    exact CacheSet.holds_of_wayOf way
  · exact CacheSet.fillWay_of_absent (CacheSet.wayOf_eq_none_iff.mpr fun v ⟨b, held, same⟩ => absent v b held same)
  · have code : codeOf n = none := by simp only [codeOf]; rw [if_neg (by omega)]
    simp only [exec, execRevokeArticle, State.transact_started started awake, State.handle, revokeRequest, code]
    rfl
  · have code : codeOf n = some (BitVec.ofNat 48 n) := by simp only [codeOf]; rw [if_pos (by omega)]
    obtain ⟨ways, b0, b1, b2⟩ := ArticleUnit.revoke_setFor one
    have cache := (s.article.revoke (BitVec.ofNat 48 n)).markRevoked_cache (BitVec.ofNat 48 n)
    have sets : ((s.article.revoke (BitVec.ofNat 48 n)).markRevoked (BitVec.ofNat 48 n)).setFor (BitVec.ofNat 48 n)
        = (s.article.revoke (BitVec.ofNat 48 n)).setFor (BitVec.ofNat 48 n) := by
      simp only [ArticleUnit.setFor, cache]
    have taken : exec (.revokeArticle n) s = .next ((s.shiftOut.mapArticle fun u =>
        (u.revoke (BitVec.ofNat 48 n)).markRevoked (BitVec.ofNat 48 n)).setAnswer
          (.done (.revoked ((s.article.setFor (BitVec.ofNat 48 n)).wayOf (BitVec.ofNat 48 n)).isSome))) := by
      simp only [exec, execRevokeArticle, State.transact_started started awake, State.handle, revokeRequest, code]
      rfl
    refine ⟨_, _, taken, rfl, ?_, ?_⟩
    · rw [Option.isSome_iff_ne_none, Ne, CacheSet.wayOf_eq_none_iff]
      simp [CacheSet.Holds]
    · refine ⟨sets ▸ ways, sets ▸ b0, sets ▸ b1, sets ▸ b2, fun k other => ?_, fun w walking same => ?_, fun other => ?_⟩
      · exact (congrArg (fun sets : Vector CacheSet 64 => sets[k]) cache).trans (ArticleUnit.revoke_other other)
      · rw [← same]
        exact ArticleUnit.markRevoked_walking ((ArticleUnit.revoke_lookup _ _).trans walking)
      · have kept : ∀ w, (s.article.revoke (BitVec.ofNat 48 n)).lookup = .walking w → w.code ≠ BitVec.ofNat 48 n :=
          fun w walking => other w ((ArticleUnit.revoke_lookup _ _).symm.trans walking)
        exact (congrArg ArticleUnit.lookup (ArticleUnit.markRevoked_of_other kept)).trans (ArticleUnit.revoke_lookup _ _)

end Machine
end Sys2Proof
end

section
/-! PROOF. O54, the host store accesses (08 R142 to R146): the port after an access has ended, and the transactions on it. -/
set_option Elab.async false
namespace Sys2Proof
namespace Machine

-- The arbiter after a host access has ended (08 R143)

theorem ArticleUnit.arbitrate_access_none {u : ArticleUnit} (none : u.access = .none) : u.arbitrate.access = .none := by
  unfold ArticleUnit.arbitrate
  split
  · split
    · exact none
    all_goals simp only [none]
  · exact none

theorem ArticleUnit.arbitrate_busyTimer (u : ArticleUnit) : u.arbitrate.busyTimer = u.busyTimer := by
  unfold ArticleUnit.arbitrate
  split
  · split
    · rfl
    all_goals split <;> rfl
  · rfl

/-- A waiting walk starts on a port that no host access holds (08 R143). -/
theorem ArticleUnit.arbitrate_walking {u : ArticleUnit} {w : Walk} (walking : u.lookup = .walking w)
    (waits : w.phase = .waitingPort) (free : u.access = none) :
    u.arbitrate.lookup = .walking { w with phase := .primary } := by
  have portFree : u.portFree = true := by
    simp [ArticleUnit.portFree, ArticleUnit.walkRunning, ArticleUnit.walk, walking, waits, ArticleUnit.accessRunning, free]
  simp only [ArticleUnit.arbitrate, portFree, if_true, walking]

theorem State.endAccess_facts (s : State) (a : Answer) :
    (s.endAccess a).host.answer = a
      ∧ s.endAccess a = { s with
          host := { s.host with answer := (s.endAccess a).host.answer }, article := (s.endAccess a).article }
      ∧ (s.endAccess a).article.access = none ∧ (s.endAccess a).article.busyTimer = none
      ∧ (s.endAccess a).article.cache = s.article.cache :=
  ⟨rfl, rfl, ArticleUnit.arbitrate_access_none rfl, ArticleUnit.arbitrate_busyTimer _, ArticleUnit.arbitrate_cache _⟩

theorem State.endWrite_of_not_pending {s : State} (plain : s.host.restartPending = false) (a : Answer) :
    s.endWrite a = s.endAccess a := by simp [State.endWrite, plain]

theorem exec_statusRead_ready {s : State} {status : Byte} {address : Nat} {data : List Byte}
    (polling : s.article.access = some { request := .write address data, stage := .polling })
    (ready : status.getLsbD 0 = false) (plain : s.host.restartPending = false) :
    exec (.statusRead status) s = .next (s.endAccess (.done .none)) := by
  simp only [exec, execStatusRead, polling, ready, Bool.false_eq_true, if_false, State.endWrite_of_not_pending plain]

theorem exec_storeBusyTimeExpired_busy {s : State} {address : Nat} {data : List Byte}
    (polling : s.article.access = some { request := .write address data, stage := .polling })
    (runs : s.article.busyTimer.isSome = true) (plain : s.host.restartPending = false) :
    exec .storeBusyTimeExpired s =
      .next ((s.raise (.storeFault (.busyTimeout address data.length))).endAccess .failed) := by
  have pending : (s.raise (.storeFault (.busyTimeout address data.length))).host.restartPending = false := plain
  simp only [exec, execStoreBusyTimeExpired, polling, runs, if_true, State.endWrite_of_not_pending pending]

-- The port carries out the host access while no walk runs (08 R143)

theorem State.portTransactions_of_no_walk {s : State} (idle : s.article.walkRunning = false) (group : GroupBytes) :
    s.portTransactions group = s.article.access.toList.flatMap HostAccess.transactions := by
  unfold State.portTransactions
  cases walk : s.article.walk with
  | none => rfl
  | some w =>
    have waits : w.phase = .waitingPort := by simpa [ArticleUnit.walkRunning, walk] using idle
    simp only [waits, if_true]

-- The requests (08 R144, R145)

theorem State.storeRequest_taken {s : State} (awake : s.awake) {address length : Nat} (r : StoreRequest)
    (good : storeRangeGood address length = true) :
    s.transact false true (storeRequest address length r) =
      { s.answered .empty with article := s.article.requestAccess r } := by
  rw [State.transact_awake awake, State.judge_of_no_need]
  simp only [State.handle, storeRequest, good, if_true]
  rfl

theorem State.storeRequest_refused {s : State} (awake : s.awake) {address length : Nat} (r : StoreRequest)
    (bad : storeRangeGood address length = false) :
    s.transact false true (storeRequest address length r) = s.answered (.refused .range) := by
  rw [State.transact_awake awake, State.judge_of_no_need]
  simp only [State.handle, storeRequest, bad, Bool.false_eq_true, if_false]
  rfl

/-- Settles O54. -/
theorem storeIsAccessed : Obligations.StoreIsAccessed := by
  intro s address length data status
  refine ⟨fun awake least most place within => ?_, fun awake bad => ?_, fun running same => ?_, fun running => ?_,
    fun polling => ⟨fun busy => ?_, fun ready plain => ?_, fun runs plain => ?_⟩, fun group idle => ?_, fun group => rfl,
    fun latency => ?_⟩
  · have good : storeRangeGood address length = true := decide_eq_true ⟨least, most, place, within⟩
    refine ⟨congrArg _ (State.storeRequest_taken awake _ good), fun same => ?_⟩
    exact congrArg _ (State.storeRequest_taken awake (.write address data) (same ▸ good))
  · have refused : storeRangeGood address length = false := decide_eq_false fun good => by omega
    refine ⟨congrArg _ (State.storeRequest_refused awake _ refused), fun same => ?_⟩
    exact congrArg _ (State.storeRequest_refused awake (.write address data) (same ▸ refused))
  · have ended : exec (.storeReadEnd data) s = .next (s.endAccess (.done (.bytes data))) := by
      simp only [exec, execStoreReadEnd, running, same, if_true]
    obtain ⟨answer, frame, access, _, cache⟩ := s.endAccess_facts (.done (.bytes data))
    exact ⟨_, ended, answer, frame, access, cache, fun w walking waits =>
      ArticleUnit.arbitrate_walking (u := { s.article with access := none, busyTimer := none }) walking waits rfl⟩
  · simp only [exec, execWriteTransactionEnd, running]
    rfl
  · simp only [exec, execStatusRead, polling, busy, if_true]
  · obtain ⟨answer, frame, access, timer, cache⟩ := s.endAccess_facts (.done .none)
    exact ⟨_, exec_statusRead_ready polling ready plain, answer, access, timer, frame, cache⟩
  · let fault : NoticeDetail := .storeFault (.busyTimeout address data.length)
    obtain ⟨answer, _, access, timer, cache⟩ := (s.raise fault).endAccess_facts .failed
    exact ⟨_, exec_storeBusyTimeExpired_busy polling runs plain, answer, access, timer, cache,
      s.raise_noticeOf fault rfl, s.raise_sameNoticesBut fault, rfl⟩
  · rw [State.portTransactions_of_no_walk idle]
    refine ⟨fun access => ?_, fun access => ?_, fun access => ?_⟩ <;> rw [access] <;> rfl
  · refine ⟨rfl, rfl, ?_, rfl, ?_, rfl, ?_, rfl⟩ <;>
      simp [StoreTransaction.bytesSent, StoreTransaction.byteTimes, StoreTransaction.received, addressBytes] <;> omega

end Machine
end Sys2Proof
end

section
/-! PROOF. O55, the host's bin requests (04 R81, R82): the frame in the queue after it was taken, the waiting opposing frame
withdrawn, and the mark of a BIN HOLD behind the BIN OPEN being sent. -/
set_option Elab.async false
namespace Sys2Proof
namespace Machine

-- A frame that the queue takes (02 R43, R44)

/-- The queue after it took a frame: the frame waits in it, and the frames of other slots are as they were. -/
structure TookFrame (f : Frame) (q r : List QueuedFrame) : Prop where
  waits : ∃ g ∈ r, g.frame = f ∧ g.phase = .waiting
  old : ∀ g ∈ r, (g.frame = f ∧ g.phase = .waiting) ∨ g ∈ q
  kept : ∀ g ∈ q, g.frame.sameSlot f = false → g ∈ r

/-- A frame whose slot holds waiting frames alone is taken by a queue with a place for it. -/
theorem State.enqueue_takes {s : State} {f : Frame} (filled : s.fill f = f) (room : s.line.queue.length < f.kind.places)
    (waiting : ∀ g ∈ s.line.queue, g.frame.sameSlot f = true → g.phase = .waiting) :
    ∃ r outcome, s.enqueue f = (s.setQueue r, outcome) ∧ (outcome = .queued ∨ outcome = .replaced)
      ∧ TookFrame f s.line.queue r := by
  have notFull : s.queueFullFor f.kind = false := decide_eq_false (by omega)
  cases like : s.queuedLike f with
  | none =>
    refine ⟨insertFrame (.fresh f) s.line.queue, .queued, ?_, .inl rfl, ⟨.fresh f, mem_insertFrame.mpr (.inl rfl), rfl, rfl⟩,
      fun g mem => ?_, fun g mem _ => mem_insertFrame.mpr (.inr mem)⟩
    · simp only [State.enqueue, filled, like, notFull, Bool.false_eq_true, if_false]
    · rcases mem_insertFrame.mp mem with rfl | old
      · exact .inl ⟨rfl, rfl⟩
      · exact .inr old
  | some h =>
    have inQueue : h ∈ s.line.queue := List.mem_of_find?_eq_some like
    have same : h.frame.sameSlot f = true := by simpa using List.find?_some like
    have waits := waiting h inQueue same
    refine ⟨s.line.queue.map fun g => if g.frame.sameSlot f then { g with frame := f } else g, .replaced, ?_, .inr rfl,
      ⟨{ h with frame := f }, ?_, rfl, waits⟩, fun g mem => ?_, fun g mem other => ?_⟩
    · simp only [State.enqueue, filled, like, waits, if_true]
      rfl
    · exact List.mem_map.mpr ⟨h, inQueue, by rw [if_pos same]⟩
    · obtain ⟨g', mem', rfl⟩ := List.mem_map.mp mem
      split
      next slot => exact .inl ⟨rfl, waiting g' mem' slot⟩
      next => exact .inr mem'
    · exact List.mem_map.mpr ⟨g, mem, by rw [if_neg (by simp [other])]⟩

theorem State.enqueue_discards {s : State} {f : Frame} (filled : s.fill f = f) {g : QueuedFrame}
    (inQueue : g ∈ s.line.queue) (same : g.frame.sameSlot f = true)
    (sent : ∀ g ∈ s.line.queue, g.frame.sameSlot f = true → g.phase ≠ .waiting) : s.enqueue f = (s, .discarded) := by
  have found : s.queuedLike f ≠ none := fun none => by
    simpa [same] using List.find?_eq_none.mp none g inQueue
  obtain ⟨h, like⟩ := Option.ne_none_iff_exists'.mp found
  have busy := sent h (List.mem_of_find?_eq_some like) (by simpa using List.find?_some like)
  simp only [State.enqueue, filled, like, busy, if_false]

-- The opposing frame withdrawn, and the BIN HOLD gone behind (04 R82)

/-- The queue after a request was taken: the waiting frames that the request opposes withdrawn, and the frame marked. -/
def settledQueue (f : Frame) (opposes : Frame → Bool) (r : List QueuedFrame) : List QueuedFrame :=
  let left := r.filter fun g => !(g.phase == .waiting && opposes g.frame)
  left.map fun g =>
    if f.kind == .binHold && g.frame.sameSlot f
        && left.any fun h => h.phase != .waiting && h.frame.kind == .binOpen && h.frame.subject == f.subject then
      { g with behind := true }
    else g

theorem State.withdraw_deferHold (s : State) (f : Frame) (opposes : Frame → Bool) (r : List QueuedFrame) :
    ((s.setQueue r).withdraw opposes).deferHold f = s.setQueue (settledQueue f opposes r) := rfl

theorem stays_iff {opposes : Frame → Bool} {g : QueuedFrame} :
    (!(g.phase == .waiting && opposes g.frame)) = true ↔ (g.phase = .waiting → opposes g.frame = false) := by
  by_cases waits : g.phase = .waiting <;> simp [waits]

/-- A frame of the settled queue is one that was not withdrawn, but for its mark. -/
theorem of_mem_settledQueue {f : Frame} {opposes : Frame → Bool} {r : List QueuedFrame} {g : QueuedFrame}
    (mem : g ∈ settledQueue f opposes r) :
    ∃ h ∈ r, g.frame = h.frame ∧ g.phase = h.phase ∧ (h.phase = .waiting → opposes h.frame = false) := by
  obtain ⟨h, inLeft, rfl⟩ := List.mem_map.mp mem
  obtain ⟨inQueue, stays⟩ := List.mem_filter.mp inLeft
  refine ⟨h, inQueue, ?_, ?_, stays_iff.mp stays⟩ <;> split <;> rfl

/-- A frame that is not withdrawn is in the settled queue, but for its mark. -/
theorem mem_settledQueue {f : Frame} {opposes : Frame → Bool} {r : List QueuedFrame} {h : QueuedFrame} (mem : h ∈ r)
    (stays : (h.phase = .waiting → opposes h.frame = false)) :
    ∃ g ∈ settledQueue f opposes r, g.frame = h.frame ∧ g.phase = h.phase := by
  have inLeft : h ∈ r.filter fun g => !(g.phase == .waiting && opposes g.frame) :=
    List.mem_filter.mpr ⟨mem, stays_iff.mpr stays⟩
  refine ⟨_, List.mem_map.mpr ⟨h, inLeft, rfl⟩, ?_, ?_⟩ <;> split <;> rfl

/-- Nothing that waits in the settled queue is opposed. -/
theorem settledQueue_waiting {f : Frame} {opposes : Frame → Bool} {r : List QueuedFrame} {g : QueuedFrame}
    (mem : g ∈ settledQueue f opposes r) (opposed : opposes g.frame = true) : g.phase ≠ .waiting := by
  obtain ⟨h, _, frame, phase, stays⟩ := of_mem_settledQueue mem
  exact fun waits => absurd (frame ▸ opposed) (by simp [stays (phase ▸ waits)])

/-- The BIN HOLD goes behind the BIN OPEN of its bin that is being sent. -/
theorem settledQueue_behind {f : Frame} {opposes : Frame → Bool} {r : List QueuedFrame} {g h : QueuedFrame}
    (hold : f.kind = .binHold) (mem : g ∈ r) (frame : g.frame = f) (unopposed : opposes f = false)
    (sent : h ∈ r) (phase : h.phase ≠ .waiting) (opens : h.frame.kind = .binOpen) (about : h.frame.subject = f.subject) :
    ∃ g ∈ settledQueue f opposes r, g.frame = f ∧ g.behind = true := by
  have inLeft : g ∈ r.filter fun g => !(g.phase == .waiting && opposes g.frame) :=
    List.mem_filter.mpr ⟨mem, by simp [frame, unopposed]⟩
  have sentLeft : h ∈ r.filter fun g => !(g.phase == .waiting && opposes g.frame) :=
    List.mem_filter.mpr ⟨sent, by simp [phase]⟩
  have slot : g.frame.sameSlot f = true := by rw [frame, Frame.sameSlot_iff]; exact ⟨rfl, rfl⟩
  have going : ((r.filter fun g => !(g.phase == .waiting && opposes g.frame)).any fun h =>
      h.phase != .waiting && h.frame.kind == .binOpen && h.frame.subject == f.subject) = true :=
    List.any_eq_true.mpr ⟨h, sentLeft, by simp [phase, opens, about]⟩
  refine ⟨{ g with behind := true }, List.mem_map.mpr ⟨g, inLeft, ?_⟩, frame, rfl⟩
  rw [hold, slot, going]
  rfl

-- The request (04 R81)

theorem binRequest_of_not_synced {s : State} (out : s.member ≠ .synced) (frame : Option Frame) (opposes : Frame → Bool) :
    s.shiftOut.handle (binRequest frame opposes) = s.answered (.refused .state) := by
  have notSynced : s.shiftOut.synced = false := by simpa [State.synced, State.shiftOut] using out
  simp only [State.handle, binRequest, notSynced, Bool.not_false, if_true]
  rfl

theorem binRequest_none {s : State} (synced : s.member = .synced) (opposes : Frame → Bool) :
    s.shiftOut.handle (binRequest none opposes) = s.answered (.refused .range) := by
  have isSynced : s.shiftOut.synced = true := by simpa [State.synced, State.shiftOut] using synced
  simp only [State.handle, binRequest, isSynced, Bool.not_true, Bool.false_eq_true, if_false]
  rfl

section Request
variable {s : State} {f : Frame} (synced : s.member = .synced) (opposes : Frame → Bool)
include synced

theorem binRequest_full (full : f.kind.places ≤ s.line.queue.length) :
    s.shiftOut.handle (binRequest (some f) opposes) = s.answered (.refused .full) := by
  have isSynced : s.shiftOut.synced = true := by simpa [State.synced, State.shiftOut] using synced
  have isFull : s.shiftOut.queueFullFor f.kind = true := decide_eq_true full
  simp only [State.handle, binRequest, isSynced, isFull, Bool.not_true, Bool.false_eq_true, if_false, if_true]
  rfl

variable (filled : s.shiftOut.fill f = f) (room : s.line.queue.length < f.kind.places)
include filled room

theorem binRequest_busy {g : QueuedFrame} (inQueue : g ∈ s.line.queue) (same : g.frame.sameSlot f = true)
    (sent : ∀ g ∈ s.line.queue, g.frame.sameSlot f = true → g.phase ≠ .waiting) :
    s.shiftOut.handle (binRequest (some f) opposes) = s.answered (.refused .busy) := by
  have isSynced : s.shiftOut.synced = true := by simpa [State.synced, State.shiftOut] using synced
  have notFull : s.shiftOut.queueFullFor f.kind = false := decide_eq_false (not_le.mpr room)
  have discarded : s.shiftOut.enqueue f = (s.shiftOut, .discarded) := State.enqueue_discards filled inQueue same sent
  simp only [State.handle, binRequest, isSynced, notFull, Bool.not_true, Bool.false_eq_true, if_false, discarded]
  rfl

theorem binRequest_done (waiting : ∀ g ∈ s.line.queue, g.frame.sameSlot f = true → g.phase = .waiting) :
    ∃ r, TookFrame f s.line.queue r ∧ s.shiftOut.handle (binRequest (some f) opposes) =
      { s.answered (.done .none) with line := { s.line with queue := settledQueue f opposes r } } := by
  have isSynced : s.shiftOut.synced = true := by simpa [State.synced, State.shiftOut] using synced
  have notFull : s.shiftOut.queueFullFor f.kind = false := decide_eq_false (not_le.mpr room)
  obtain ⟨r, outcome, taken, good, took⟩ := State.enqueue_takes filled (by exact room) (by exact waiting)
  refine ⟨r, took, ?_⟩
  rcases good with rfl | rfl <;>
    (simp only [State.handle, binRequest, isSynced, notFull, Bool.not_true, Bool.false_eq_true, if_false, taken,
      State.withdraw_deferHold]
     rfl)

end Request

/-- The three ends of a request with a frame for a bin, by the frames of its slot in the queue (04 R81). -/
theorem binRequest_ends {s : State} {f : Frame} {i : Instr} {opposes : Frame → Bool} {k : FrameKind} {x : Subject}
    (synced : s.member = .synced) (kind : f.kind = k) (subject : f.subject = x) (places : k.places = 6)
    (filled : s.shiftOut.fill f = f) (run : exec i s = .next (s.shiftOut.handle (binRequest (some f) opposes))) :
    (6 ≤ s.line.queue.length → exec i s = .next (s.answered (.refused .full)))
      ∧ (s.line.queue.length < 6 →
        (s.queues k x → (∀ g ∈ s.line.queue, g.frame.kind = k → g.frame.subject = x → g.phase ≠ .waiting) →
          exec i s = .next (s.answered (.refused .busy)))
        ∧ ((∀ g ∈ s.line.queue, g.frame.kind = k → g.frame.subject = x → g.phase = .waiting) →
          ∃ r, TookFrame f s.line.queue r ∧ exec i s = .next
            { s.answered (.done .none) with line := { s.line with queue := settledQueue f opposes r } })) := by
  subst kind subject
  refine ⟨fun full => ?_, fun room => ⟨fun ⟨g, inQueue, like⟩ sent => ?_, fun waiting => ?_⟩⟩
  · rw [run, binRequest_full synced opposes (by omega)]
  · rw [run, binRequest_busy synced opposes filled (by omega) inQueue ((Frame.sameSlot_iff _ _).mpr like)
      fun g mem same => have slot := (Frame.sameSlot_iff _ _).mp same; sent g mem slot.1 slot.2]
  · rw [run]
    obtain ⟨r, took, done⟩ := binRequest_done synced opposes filled (by omega) fun g mem same =>
      have slot := (Frame.sameSlot_iff _ _).mp same; waiting g mem slot.1 slot.2
    exact ⟨r, took, congrArg _ done⟩

theorem TookFrame.settled {f : Frame} {opposes : Frame → Bool} {q r : List QueuedFrame} (took : TookFrame f q r)
    (unopposed : opposes f = false) : ∃ g ∈ settledQueue f opposes r, g.frame = f := by
  obtain ⟨g, mem, frame, _⟩ := took.waits
  obtain ⟨g', mem', frame', _⟩ := mem_settledQueue (opposes := opposes) (f := f) mem fun _ => frame ▸ unopposed
  exact ⟨g', mem', frame'.trans frame⟩

theorem gatedBinOf_val {b : BinNo} (gated : b ≠ 0) : gatedBinOf b.val = some b := by
  have positive : b.val ≠ 0 := fun h => gated (Fin.ext h)
  exact dif_pos ⟨by omega, b.isLt⟩

theorem gatedBinOf_eq_none {n : Nat} (out : n = 0 ∨ 8 < n) : gatedBinOf n = none := dif_neg (by omega)

/-- Settles O55. -/
theorem binRequestsAreQueued : Obligations.BinRequestsAreQueued := by
  intro s n used b started awake
  have set (n : Nat) : exec (.binSet n used) s = .next (s.shiftOut.handle (binRequest
      ((gatedBinOf n).bind fun b => if used ≤ Config.usedLimit then some (.binSet b (BitVec.ofNat 16 used)) else none)
      fun _ => false)) := congrArg _ (State.transact_started started awake ..)
  have hold (n : Nat) : exec (.binHold n) s = .next (s.shiftOut.handle (binRequest
      ((gatedBinOf n).map fun b => .binHold b .staff) fun f => (gatedBinOf n).any fun b => f.opens b)) :=
    congrArg _ (State.transact_started started awake ..)
  have opening (n : Nat) : exec (.binOpen n) s = .next (s.shiftOut.handle (binRequest
      ((gatedBinOf n).map .binOpen) fun f => (gatedBinOf n).any fun b => f.holds b)) :=
    congrArg _ (State.transact_started started awake ..)
  refine ⟨fun out => ⟨?_, ?_, ?_⟩, fun synced out => ⟨?_, ?_, ?_⟩, fun synced far => ?_, fun synced gated within => ?_⟩
  · rw [set, binRequest_of_not_synced out]
  · rw [hold, binRequest_of_not_synced out]
  · rw [opening, binRequest_of_not_synced out]
  · rw [set, gatedBinOf_eq_none out, Option.bind_none, binRequest_none synced]
  · rw [hold, gatedBinOf_eq_none out, Option.map_none, binRequest_none synced]
  · rw [opening, gatedBinOf_eq_none out, Option.map_none, binRequest_none synced]
  · have tooMany : ¬used ≤ Config.usedLimit := by simpa [Config.usedLimit] using far
    simp only [set, tooMany, if_false, Option.bind_fun_none, binRequest_none synced]
  · have limit : used ≤ Config.usedLimit := within
    simp only [List.forall_mem_cons, List.not_mem_nil, false_imp_iff, implies_true, and_true]
    refine ⟨?_, ?_, ?_⟩
    · have run := set b.val
      rw [gatedBinOf_val gated, Option.bind_some, if_pos limit] at run
      obtain ⟨full, room⟩ := binRequest_ends synced rfl rfl rfl rfl run
      refine ⟨full, fun few => ⟨(room few).1, fun waiting => ?_⟩⟩
      obtain ⟨r, took, done⟩ := (room few).2 waiting
      obtain ⟨g, mem, frame⟩ := took.settled (opposes := fun _ => false) rfl
      exact ⟨_, done, ⟨g, mem, by rw [frame]; exact ⟨rfl, rfl⟩⟩, rfl, fun _ => ⟨g, mem, frame⟩, nofun, nofun⟩
    · have run : exec (.binHold b.val) s =
          .next (s.shiftOut.handle (binRequest (some (.binHold b .staff)) (Frame.opens b))) := by
        rw [hold, gatedBinOf_val gated]
        rfl
      obtain ⟨full, room⟩ := binRequest_ends synced rfl rfl rfl rfl run
      refine ⟨full, fun few => ⟨(room few).1, fun waiting => ?_⟩⟩
      obtain ⟨r, took, done⟩ := (room few).2 waiting
      obtain ⟨g, mem, frame⟩ := took.settled (opposes := Frame.opens b) rfl
      refine ⟨_, done, ⟨g, mem, by rw [frame]; exact ⟨rfl, rfl⟩⟩, rfl, nofun, fun _ => ⟨⟨g, mem, frame⟩, ?_, ?_⟩, nofun⟩
      · intro g mem opens
        exact settledQueue_waiting (opposes := Frame.opens b) mem (by simp [opens, Frame.opens, Frame.kind, Frame.subject])
      · rintro ⟨h, inQueue, opens, sent⟩
        obtain ⟨g, taken, frame, _⟩ := took.waits
        exact settledQueue_behind (opposes := Frame.opens b) rfl taken frame rfl
          (took.kept h inQueue (by simp [opens, Frame.sameSlot, Frame.kind])) sent (by rw [opens]; rfl) (by rw [opens]; rfl)
    · have run : exec (.binOpen b.val) s =
          .next (s.shiftOut.handle (binRequest (some (.binOpen b)) (Frame.holds b))) := by
        rw [opening, gatedBinOf_val gated]
        rfl
      obtain ⟨full, room⟩ := binRequest_ends synced rfl rfl rfl rfl run
      refine ⟨full, fun few => ⟨(room few).1, fun waiting => ?_⟩⟩
      obtain ⟨r, took, done⟩ := (room few).2 waiting
      obtain ⟨g, mem, frame⟩ := took.settled (opposes := Frame.holds b) rfl
      refine ⟨_, done, ⟨g, mem, by rw [frame]; exact ⟨rfl, rfl⟩⟩, rfl, nofun, nofun, fun _ g mem kind about => ?_⟩
      exact settledQueue_waiting (opposes := Frame.holds b) mem (by simp [Frame.holds, kind, about])

end Machine
end Sys2Proof
end

section
/-! PROOF. O58, CLEAR DRIVE (09 R163, 02 R30) and CLEAR JAM (06 R115). -/
set_option Elab.async false
namespace Sys2Proof
namespace Machine

-- CLEAR DRIVE (09 R163)

theorem ClearTarget.ofPosition_far {n : Nat} (far : 11 < n) : ClearTarget.ofPosition n = none := by
  unfold ClearTarget.ofPosition
  split
  · omega
  · omega
  · omega
  · omega
  · exact dif_neg (by omega)

theorem ClearTarget.ofPosition_channelIndex (c : Channel) :
    ClearTarget.ofPosition (1 + (channelIndex c).val) = some (.channel c) := by
  cases c with
  | entry | hold | flap => rfl
  | gate g => fin_cases g <;> rfl

theorem exec_clearDrive {s : State} (awake : s.awake) (n : Nat) :
    exec (.clearDrive n) s = .next (s.shiftOut.handle (clearRequest n)) := by
  simp only [exec, execClearDrive, State.transact_awake awake, State.judge_of_no_need]

theorem exec_clearDrive_channel {s : State} (awake : s.awake) (c : Channel) :
    exec (.clearDrive (1 + (channelIndex c).val)) s = .next (s.shiftOut.handle (clearChannel c)) := by
  rw [exec_clearDrive awake]
  simp only [State.handle, clearRequest, ClearTarget.ofPosition_channelIndex]

/-- A cleared channel has neither a cause nor a retry count, and is CUT, RUNNING or OFF (09 R163). -/
theorem ChannelRecord.cleared_facts (r : ChannelRecord) (cut : Bool) :
    (r.cleared cut).cause = none ∧ (r.cleared cut).retry = 0 ∧ (r.cleared cut).standing = r.standing
      ∧ (r.cleared cut).state = if cut = true then .cut else if r.standing = true then .running else .off := by
  cases cut with
  | true => exact ⟨rfl, rfl, rfl, rfl⟩
  | false =>
    cases standing : r.standing <;> simp [ChannelRecord.cleared, ChannelRecord.settleOff, ChannelRecord.begin, standing]

-- CLEAR JAM (06 R115)

theorem State.tryStart_of_clear_aperture {s : State} (clear : s.eyes.aperture = false) : s.tryStart = s := by
  have noStart : s.mayStart = false := by simp [State.mayStart, clear]
  rw [s.tryStart_eq, noStart]
  rfl

theorem State.mem_stuckRecords (s : State) (tag : Tag) (place : Place) : (tag, place) ∈ s.stuckRecords ↔
    (∃ r, s.path.entry = some r ∧ r.stage = .stuck ∧ r.tag = tag ∧ place = .entryZone)
      ∨ (∃ r, s.path.transfer = some r ∧ r.stage = .stuck ∧ r.tag = tag ∧ place = .transferSlot) := by
  have side (o : Option Container) (here : Place) :
      (tag, place) ∈ (o.toList.filter Container.isStuck).map (fun c => (c.tag, here))
        ↔ ∃ r, o = some r ∧ r.stage = .stuck ∧ r.tag = tag ∧ place = here := by
    simp only [List.mem_map, List.mem_filter, Option.mem_toList, Container.isStuck, beq_iff_eq, Prod.mk.injEq, and_assoc,
      eq_comm (a := here)]
  rw [State.stuckRecords, List.mem_append, side, side]

/-- Settles O58. -/
theorem faultsAndJamsAreCleared : Obligations.FaultsAndJamsAreCleared := by
  intro s n c awake
  refine ⟨fun far => ?_, fun faulted => ?_, fun other => ?_, fun faulted => ?_, fun other => ?_, fun started clear => ?_,
    fun started stuck aperture => ?_⟩
  · simp only [exec_clearDrive awake, State.handle, clearRequest, ClearTarget.ofPosition_far far]
    rfl
  · have driver : s.shiftOut.line.driver = .faulted := faulted
    simp only [exec_clearDrive awake, State.handle, clearRequest, ClearTarget.ofPosition, clearLineDriver, driver, if_true]
    by_cases offline : s.member = .offline <;>
      simp [State.online, State.shiftOut, State.answered, State.setAnswer, offline]
  · have driver : ¬s.shiftOut.line.driver = .faulted := other
    simp only [exec_clearDrive awake, State.handle, clearRequest, ClearTarget.ofPosition, clearLineDriver, driver, if_false]
    rfl
  · have state : (s.shiftOut.channel c).state = .faulted := faulted
    have taken : exec (.clearDrive (1 + (channelIndex c).val)) s =
        .next ((s.shiftOut.mapChannel c fun r => r.cleared s.cutCondition).setAnswer (.done .none)) := by
      simp only [exec_clearDrive_channel awake, State.handle, clearChannel, state, if_true]
      rfl
    have cleared := s.channel_mapChannel c fun r => r.cleared s.cutCondition
    obtain ⟨cause, retry, standing, settled⟩ := (s.channel c).cleared_facts s.cutCondition
    rw [← cleared] at cause retry standing settled
    exact ⟨_, taken, rfl, cause, retry, standing, settled, fun d other =>
      s.channel_mapChannel_other (fun r => r.cleared s.cutCondition) other⟩
  · have state : ¬(s.shiftOut.channel c).state = .faulted := other
    simp only [exec_clearDrive_channel awake, State.handle, clearChannel, state, if_false]
    rfl
  · have noStuck : s.shiftOut.hasStuck = false := clear
    simp only [exec, execClearJam, State.transact_started started awake, State.handle, jamRequest, noStuck,
      Bool.false_eq_true, if_false]
    rfl
  · have isStuck : s.shiftOut.hasStuck = true := stuck
    have start : s.shiftOut.removeStuck.tryStart = s.shiftOut.removeStuck := State.tryStart_of_clear_aperture aperture
    have taken : exec .clearJam s =
        .next (s.shiftOut.removeStuck.testDoze.setAnswer (.done (.removed s.stuckRecords))) := by
      simp only [exec, execClearJam, State.transact_started started awake, State.handle, jamRequest, isStuck, if_true, start]
      rfl
    have tested := s.shiftOut.removeStuck.testDoze_changes
    exact ⟨_, s.stuckRecords, taken, rfl, s.mem_stuckRecords, tested.path, tested.session, tested.line, tested.notices,
      tested.drives⟩

end Machine
end Sys2Proof
end

section
/-! PROOF. A frame that a block queues (02 R43, R44): what the queue holds afterwards. -/
set_option Elab.async false
namespace Sys2Proof
namespace Machine

/-- What the queue holds after a frame was given to it: one of its slot where there was a place, and what it held before. -/
structure GaveFrame (f : Frame) (q r : List QueuedFrame) : Prop where
  old : ∀ g ∈ r, g.frame = f ∨ g ∈ q
  kept : ∀ g ∈ q, g.frame.sameSlot f = false → g ∈ r
  slots : ∀ g ∈ q, ∃ h ∈ r, h.frame.kind = g.frame.kind ∧ h.frame.subject = g.frame.subject ∧ h.phase = g.phase
  room : q.length < f.kind.places → ∃ g ∈ r, g.frame.kind = f.kind ∧ g.frame.subject = f.subject
  length : r.length ≤ q.length + 1

/-- A frame of its slot is in the queue, and the queue stays as it is. -/
theorem GaveFrame.refl {f : Frame} {q : List QueuedFrame}
    (like : q.length < f.kind.places → ∃ g ∈ q, g.frame.kind = f.kind ∧ g.frame.subject = f.subject) : GaveFrame f q q where
  old _ mem := .inr mem
  kept _ mem _ := mem
  slots g mem := ⟨g, mem, rfl, rfl, rfl⟩
  room := like
  length := by omega

theorem GaveFrame.insert (f : Frame) (q : List QueuedFrame) : GaveFrame f q (insertFrame (.fresh f) q) where
  old g mem := by
    rcases mem_insertFrame.mp mem with rfl | old
    · exact .inl rfl
    · exact .inr old
  kept _ mem _ := mem_insertFrame.mpr (.inr mem)
  slots g mem := ⟨g, mem_insertFrame.mpr (.inr mem), rfl, rfl, rfl⟩
  room _ := ⟨.fresh f, mem_insertFrame.mpr (.inl rfl), rfl, rfl⟩
  length := (insertFrame_length _ _).le

theorem GaveFrame.replace {f : Frame} {q : List QueuedFrame} {h : QueuedFrame} (inQueue : h ∈ q)
    (like : h.frame.sameSlot f = true) :
    GaveFrame f q (q.map fun g => if g.frame.sameSlot f then { g with frame := f } else g) where
  old g mem := by
    obtain ⟨g', mem', rfl⟩ := List.mem_map.mp mem
    split
    next => exact .inl rfl
    next => exact .inr mem'
  kept g mem other := List.mem_map.mpr ⟨g, mem, by rw [if_neg (by simp [other])]⟩
  slots g mem := by
    by_cases same : g.frame.sameSlot f = true
    · have slot := (Frame.sameSlot_iff _ _).mp same
      exact ⟨{ g with frame := f }, List.mem_map.mpr ⟨g, mem, if_pos same⟩, slot.1.symm, slot.2.symm, rfl⟩
    · exact ⟨g, List.mem_map.mpr ⟨g, mem, if_neg same⟩, rfl, rfl, rfl⟩
  room _ := ⟨{ h with frame := f }, List.mem_map.mpr ⟨h, inQueue, if_pos like⟩, rfl, rfl⟩
  length := by simp

theorem State.enqueue_gives (s : State) (f : Frame) : GaveFrame (s.fill f) s.line.queue (s.enqueue f).1.line.queue := by
  unfold State.enqueue
  simp only
  split
  next h like =>
    have inQueue : h ∈ s.line.queue := List.mem_of_find?_eq_some like
    have same : h.frame.sameSlot (s.fill f) = true := by simpa using List.find?_some like
    split
    · exact .replace inQueue same
    · have slot := (Frame.sameSlot_iff _ _).mp same
      exact .refl fun _ => ⟨h, inQueue, slot.1, slot.2⟩
  · split
    next full => exact .refl fun room => absurd (of_decide_eq_true full) (not_le.mpr room)
    next => exact .insert _ _

theorem State.queueFrame_queue (s : State) (f : Frame) : (s.queueFrame f).line.queue = (s.enqueue f).1.line.queue := by
  unfold State.queueFrame
  split
  · rename_i taken
    rw [taken]
    split <;> rfl
  · rename_i taken
    rw [taken]

theorem State.queueFrame_gives (s : State) (f : Frame) :
    GaveFrame (s.fill f) s.line.queue (s.queueFrame f).line.queue :=
  (s.queueFrame_queue f).symm ▸ s.enqueue_gives f

/-- A frame with a place is queued, or finds one of its slot in the queue. -/
theorem State.queueFrame_queues {s : State} {f : Frame} (room : s.line.queue.length < f.kind.places) :
    (s.queueFrame f).queues f.kind f.subject := by
  obtain ⟨kind, subject⟩ := s.fill_slot f
  obtain ⟨g, mem, kind', subject'⟩ := (s.queueFrame_gives f).room (by rwa [kind])
  exact ⟨g, mem, kind'.trans kind, subject'.trans subject⟩

/-- Queueing a frame leaves a frame about every subject that had one. -/
theorem State.queueFrame_keeps {s : State} (f : Frame) {k : FrameKind} {x : Subject} (queued : s.queues k x) :
    (s.queueFrame f).queues k x := by
  obtain ⟨g, mem, kind, subject⟩ := queued
  obtain ⟨h, mem', kind', subject', _⟩ := (s.queueFrame_gives f).slots g mem
  exact ⟨h, mem', kind'.trans kind, subject'.trans subject⟩

theorem Changes.queues {ps : List Part} {s t : State} (h : Changes ps s t) {k : FrameKind} {x : Subject}
    (queued : s.queues k x) (out : .queue ∉ ps := by simp [NoticeDetail.kind]) : t.queues k x := by
  have same : t.line.queue = s.line.queue := h .queue out
  unfold State.queues
  rw [same]
  exact queued

end Machine
end Sys2Proof
end

section
/-! PROOF. The owners of the drive channels (09 R154, R162): the gates that left the driven states have missed (01 R20), and
the record that ENTRY moved is jammed (06 R104). -/
set_option Elab.async false
namespace Sys2Proof
namespace Machine

-- A missed gate (01 R20)

/-- The gate was driven before, and is not now. -/
def State.gateLeft (before : Drives) (s : State) (g : Gate) : Bool :=
  (before.get (.gate g)).state.driven && !(s.channel (.gate g)).state.driven

/-- A gate interval marked as missed (01 R20). -/
def GateInterval.marked (i : GateInterval) : GateInterval := { i with missed := true }

theorem State.checkGateLeft_of_left {before : Drives} {s : State} {g : Gate} (left : s.gateLeft before g = true) :
    s.checkGateLeft before g = s.missGate g := if_pos left

theorem State.checkGateLeft_of_not_left {before : Drives} {s : State} {g : Gate} (stays : s.gateLeft before g = false) :
    s.checkGateLeft before g = s := if_neg (by rw [← State.gateLeft, stays]; nofun)

theorem Changes.gateLeft {ps : List Part} {s t : State} (h : Changes ps s t) (before : Drives) (g : Gate)
    (out : .gateDrives ∉ ps := by simp [NoticeDetail.kind]) : t.gateLeft before g = s.gateLeft before g := by
  rw [State.gateLeft, State.gateLeft, h.channel (.gate g) out]

theorem Changes.reportsDuty {ps : List Part} {s t : State} (h : Changes ps s t)
    (member : .member ∉ ps := by simp [NoticeDetail.kind]) (duty : .dutyReports ∉ ps := by simp [NoticeDetail.kind]) :
    t.reportsDuty = s.reportsDuty := by
  have sameMember : t.member = s.member := h .member member
  have sameDuty : t.dutyReports = s.dutyReports := h .dutyReports duty
  rw [State.reportsDuty, State.reportsDuty, State.synced, State.synced, sameMember, sameDuty]

theorem State.reportMiss_of_not_reporting {s : State} (quiet : s.reportsDuty = false) (g : Gate) (x : Cleat) (first : Bool) :
    s.reportMiss g x first = s := if_neg (by rw [quiet]; nofun)

/-- A missed gate marks its interval, and no other. -/
theorem State.missGate_gates (s : State) (g k : Gate) :
    (s.missGate g).gates[k] = if k = g then (s.gates[k]).map GateInterval.marked else s.gates[k] := by
  unfold State.missGate
  split
  next i interval =>
    have kept := (({ s with gates := s.gates.set g.val (some { i with missed := true }) g.isLt }).reportMiss_changes g
      i.cleat (!i.missed)) .gates (by simp)
    refine (congrArg (fun v : Vector (Option GateInterval) 8 => v[k]) kept).trans ?_
    simp only [State.part, Fin.getElem_fin, Vector.getElem_set, Fin.ext_iff, eq_comm (a := k.val)]
    split
    next same =>
      obtain rfl : g = k := Fin.ext same
      exact (congrArg (Option.map GateInterval.marked) interval).symm
    next => rfl
  next none =>
    split
    next same =>
      subst same
      rw [none]
      rfl
    next => rfl

theorem State.missGate_line_of_not_reporting {s : State} (quiet : s.reportsDuty = false) (g : Gate) :
    (s.missGate g).line = s.line := by
  unfold State.missGate
  split
  next i _ =>
    exact (congrArg State.line (State.reportMiss_of_not_reporting
      (s := { s with gates := s.gates.set g.val (some i.marked) g.isLt }) quiet g i.cleat (!i.missed))).trans rfl
  next => rfl

/-- The first miss of an interval queues MISROUTE, and BIN HOLD for a FAULTED channel and an OPEN bin (01 R20). -/
theorem State.reportMiss_queues {s : State} (reports : s.reportsDuty = true) (g : Gate) (x : Cleat)
    (room : s.line.queue.length < Config.queuePlacesOther) :
    (s.reportMiss g x true).queues .misroute (.cleat x)
      ∧ (s.line.queue.length < 5 → (s.channel (.gate g)).state = .faulted → s.bins[g.succ].state = .opened →
        (s.reportMiss g x true).queues .binHold (.bin g.succ)) := by
  have first : (s.queueFrame (.misroute x (gateBin g) 0)).queues .misroute (.cleat x) := State.queueFrame_queues room
  have length := (s.queueFrame_gives (.misroute x (gateBin g) 0)).length
  have told := s.queueFrame_changes (.misroute x (gateBin g) 0)
  have channel := told.channel (.gate g)
  have bins : (s.queueFrame (.misroute x (gateBin g) 0)).bins = s.bins := told .bins (by simp)
  by_cases held : (s.channel (.gate g)).state = .faulted ∧ s.bins[g.succ].state = .opened
  · have both : s.reportMiss g x true =
        (s.queueFrame (.misroute x (gateBin g) 0)).queueFrame (.binHold (gateBin g) .gateFault) := by
      simp only [State.reportMiss, reports, if_true, channel, bins]
      exact if_pos held
    rw [both]
    exact ⟨State.queueFrame_keeps _ first, fun few _ _ => State.queueFrame_queues (by
      have places : (Frame.binHold (gateBin g) .gateFault).kind.places = 6 := rfl
      omega)⟩
  · have one : s.reportMiss g x true = s.queueFrame (.misroute x (gateBin g) 0) := by
      simp only [State.reportMiss, reports, if_true, channel, bins]
      exact if_neg held
    rw [one]
    exact ⟨first, fun _ faulted opened => absurd ⟨faulted, opened⟩ held⟩

theorem State.missGate_queues {s : State} (reports : s.reportsDuty = true) {g : Gate} {i : GateInterval}
    (interval : s.gates[g] = some i) (first : i.missed = false)
    (room : s.line.queue.length < Config.queuePlacesOther) :
    (s.missGate g).queues .misroute (.cleat i.cleat)
      ∧ (s.line.queue.length < 5 → (s.channel (.gate g)).state = .faulted → s.bins[g.succ].state = .opened →
        (s.missGate g).queues .binHold (.bin g.succ)) := by
  have missed : s.missGate g =
      ({ s with gates := s.gates.set g.val (some i.marked) g.isLt }).reportMiss g i.cleat true := by
    simp only [State.missGate, interval, first]
    rfl
  rw [missed]
  exact State.reportMiss_queues (s := { s with gates := s.gates.set g.val (some i.marked) g.isLt }) reports g i.cleat room

-- The gates in the order of their numbers (log 52)

/-- The gates that left the driven states have missed, one after another. -/
def State.missGates (before : Drives) (l : List Gate) (s : State) : State := l.foldl (State.checkGateLeft before) s

theorem State.missGates_changes (before : Drives) (l : List Gate) (s : State) : Changes missParts s (s.missGates before l) :=
  .foldl _ (fun s g => s.checkGateLeft_changes before g) l s

theorem State.tellOwners_eq (before : Drives) (s : State) :
    s.tellOwners before = (s.missGates before (List.finRange 8)).checkEntryDrive := rfl

theorem State.missGates_gates (before : Drives) (l : List Gate) (s : State) (k : Gate) :
    (s.missGates before l).gates[k] =
      if k ∈ l ∧ s.gateLeft before k = true then (s.gates[k]).map GateInterval.marked else s.gates[k] := by
  induction l generalizing s with
  | nil => simp [State.missGates]
  | cons g l ih =>
    have step : s.missGates before (g :: l) = (s.checkGateLeft before g).missGates before l := rfl
    have same := (s.checkGateLeft_changes before g).gateLeft before k
    rw [step, ih, same]
    cases left : s.gateLeft before g with
    | false =>
      rw [State.checkGateLeft_of_not_left left]
      have other : s.gateLeft before k = true → k ≠ g := fun h e => absurd h (by rw [e, left]; nofun)
      by_cases now : s.gateLeft before k = true <;> simp [now, other]
    | true =>
      rw [State.checkGateLeft_of_left left, State.missGate_gates]
      by_cases here : k = g
      · subst here
        cases s.gates[k] <;> simp [left, GateInterval.marked]
      · simp [here]

theorem State.missGates_line_of_not_reporting {s : State} (quiet : s.reportsDuty = false) (before : Drives) (l : List Gate) :
    (s.missGates before l).line = s.line := by
  induction l generalizing s with
  | nil => rfl
  | cons g l ih =>
    have step : (s.checkGateLeft before g).line = s.line := by
      cases left : s.gateLeft before g with
      | false => rw [State.checkGateLeft_of_not_left left]
      | true => rw [State.checkGateLeft_of_left left, State.missGate_line_of_not_reporting quiet]
    have still : (s.checkGateLeft before g).reportsDuty = false :=
      ((s.checkGateLeft_changes before g).reportsDuty).trans quiet
    exact (ih still).trans step

theorem State.missGates_of_none_left {before : Drives} {l : List Gate} {s : State}
    (stays : ∀ k ∈ l, s.gateLeft before k = false) : s.missGates before l = s := by
  induction l with
  | nil => rfl
  | cons g l ih =>
    obtain ⟨first, rest⟩ := List.forall_mem_cons.mp stays
    have step : s.missGates before (g :: l) = (s.checkGateLeft before g).missGates before l := rfl
    rw [step, State.checkGateLeft_of_not_left first, ih rest]

/-- Where one gate alone left the driven states, it alone has missed. -/
theorem State.missGates_of_one_left {before : Drives} {s : State} {g : Gate} (left : s.gateLeft before g = true)
    (others : ∀ k, k ≠ g → s.gateLeft before k = false) : s.missGates before (List.finRange 8) = s.missGate g := by
  obtain ⟨pre, post, split⟩ := List.append_of_mem (List.mem_finRange g)
  have distinct : (pre ++ g :: post).Nodup := split ▸ List.nodup_finRange 8
  have apart := List.nodup_middle.mp distinct
  have notPre : ∀ k ∈ pre, k ≠ g := fun k mem e => (List.nodup_cons.mp apart).1 (e ▸ List.mem_append_left _ mem)
  have notPost : ∀ k ∈ post, k ≠ g := fun k mem e => (List.nodup_cons.mp apart).1 (e ▸ List.mem_append_right _ mem)
  have steps : s.missGates before (List.finRange 8) =
      ((s.missGates before pre).checkGateLeft before g).missGates before post := by
    rw [split]
    exact List.foldl_append
  rw [steps, State.missGates_of_none_left fun k mem => others k (notPre k mem), State.checkGateLeft_of_left left]
  exact State.missGates_of_none_left fun k mem =>
    ((s.missGate_changes g).gateLeft before k).trans (others k (notPost k mem))

-- The record that ENTRY moves (06 R104)

theorem State.checkEntryDrive_of_untroubled {s : State} (runs : s.entryTroubled = false) : s.checkEntryDrive = s := by
  simp [State.checkEntryDrive, runs]

/-- A record in ENTERING found with ENTRY in COOL-OFF or FAULTED is jammed (06 R104). -/
theorem State.checkEntryDrive_jams {s : State} {r : Container} (troubled : s.entryTroubled = true)
    (entry : s.path.entry = some r) (entering : r.stage = .entering) :
    s.checkEntryDrive.path.entry = some { r with stage := .stuck }
      ∧ s.checkEntryDrive.noticeOf .jam = some (.jam r.tag .entryZone .drive .entering (some .entry)) := by
  have moving : s.entryMoving = true := by simp [State.entryMoving, entry, entering]
  have jams : s.checkEntryDrive = s.jamEntry r .drive (some .entry) := by
    simp [State.checkEntryDrive, troubled, moving, entry]
  rw [jams]
  refine ⟨?_, ?_⟩
  · have kept := ((s.emptyEntry.stopEntry).setEntryRecord { r with stage := .stuck }).endReport_changes r.stage
    exact (congrArg Path.entry kept.path).trans rfl
  · rw [← entering]
    exact State.raise_noticeOf (k := .jam) _ _ rfl

/-- A withdrawn request leaves a channel that is not driven as it was, but for the request (09 R154). -/
theorem ChannelRecord.withdraw_of_not_driven {r : ChannelRecord} (idle : r.state.driven = false) :
    r.withdraw = { r with standing := false } := by simp [ChannelRecord.withdraw, idle]

/-- Of the channels a jam changes the request of ENTRY at most. -/
theorem State.checkEntryDrive_channel (s : State) (c : Channel) :
    ∃ standing, s.checkEntryDrive.channel c = { s.channel c with standing := standing }
      ∧ (c ≠ .entry → standing = (s.channel c).standing) := by
  by_cases entryChannel : c = .entry
  · subst entryChannel
    unfold State.checkEntryDrive
    split
    next jams =>
      obtain ⟨troubled, _⟩ := Bool.and_eq_true_iff.mp jams
      have idle : (s.channel .entry).state.driven = false := by
        rcases Bool.or_eq_true_iff.mp troubled with cooling | faulted
        · rw [beq_iff_eq.mp cooling]; rfl
        · rw [beq_iff_eq.mp faulted]; rfl
      split
      next r _ =>
        have ended := (((s.emptyEntry.stopEntry).setEntryRecord { r with stage := .stuck }).endReport_changes r.stage).andThen
          (State.raise_changes _ (.jam r.tag .entryZone .drive r.stage (some .entry)))
          (rs := .notice .jam :: .undecided :: closeParts)
        refine ⟨false, (ended.channel .entry).trans ?_, nofun⟩
        exact (State.channel_mapChannel s.emptyEntry .entry .withdraw).trans (ChannelRecord.withdraw_of_not_driven idle)
      · exact ⟨_, rfl, nofun⟩
    · exact ⟨_, rfl, nofun⟩
  · have out : channelPart c ∉ jamParts := by
      cases c with
      | entry => exact absurd rfl entryChannel
      | hold | flap | gate g => simp [channelPart]
    exact ⟨_, (s.checkEntryDrive_changes).channel c out, fun _ => rfl⟩

/-- Of the channels the owners change the request of ENTRY at most. -/
theorem State.tellOwners_channel (before : Drives) (s : State) (c : Channel) :
    ∃ standing, (s.tellOwners before).channel c = { s.channel c with standing := standing }
      ∧ (c ≠ .entry → standing = (s.channel c).standing) := by
  have out : channelPart c ∉ missParts := by cases c <;> simp [channelPart]
  have kept := (s.missGates_changes before (List.finRange 8)).channel c out
  rw [State.tellOwners_eq, ← kept]
  exact (s.missGates before (List.finRange 8)).checkEntryDrive_channel c

theorem State.tellOwners_gates (before : Drives) (s : State) (k : Gate) : (s.tellOwners before).gates[k] =
    if s.gateLeft before k = true then (s.gates[k]).map GateInterval.marked else s.gates[k] := by
  have jammed : (s.tellOwners before).gates = (s.missGates before (List.finRange 8)).gates :=
    (State.checkEntryDrive_changes _) .gates (by simp)
  rw [jammed, State.missGates_gates]
  simp

theorem State.tellOwners_line (before : Drives) (s : State) :
    (s.tellOwners before).line = (s.missGates before (List.finRange 8)).line := (State.checkEntryDrive_changes _).line

theorem State.tellOwners_line_of_not_reporting {s : State} (quiet : s.reportsDuty = false) (before : Drives) :
    (s.tellOwners before).line = s.line :=
  (s.tellOwners_line before).trans (State.missGates_line_of_not_reporting quiet before _)

/-- Where no gate left the driven states, no gate has missed. -/
theorem State.tellOwners_of_none_left {before : Drives} {s : State} (stays : ∀ k, s.gateLeft before k = false) :
    s.tellOwners before = s.checkEntryDrive := by
  rw [State.tellOwners_eq, State.missGates_of_none_left fun k _ => stays k]

theorem State.tellOwners_queues {before : Drives} {s : State} (reports : s.reportsDuty = true) {g : Gate} {i : GateInterval}
    (left : s.gateLeft before g = true) (others : ∀ k, k ≠ g → s.gateLeft before k = false)
    (interval : s.gates[g] = some i) (first : i.missed = false) (room : s.line.queue.length < Config.queuePlacesOther) :
    (s.tellOwners before).queues .misroute (.cleat i.cleat)
      ∧ (s.line.queue.length < 5 → (s.channel (.gate g)).state = .faulted → s.bins[g.succ].state = .opened →
        (s.tellOwners before).queues .binHold (.bin g.succ)) := by
  obtain ⟨misroute, hold⟩ := State.missGate_queues reports interval first room
  have jammed := (s.missGate g).checkEntryDrive_changes
  rw [State.tellOwners_eq, State.missGates_of_one_left left others]
  exact ⟨jammed.queues misroute, fun few faulted opened => jammed.queues (hold few faulted opened)⟩

end Machine
end Sys2Proof
end

section
/-! PROOF. O59, the channels at their load and their times (09 R154 to R159). -/
set_option Elab.async false
namespace Sys2Proof
namespace Machine

-- A fault (09 R156)

theorem Drives.get_stopIdlePulse (d : Drives) (c : Channel) : d.stopIdlePulse.get c = d.get c := by cases c <;> rfl

/-- The drives after a fault of a channel (09 R156), before its notice. -/
def State.faulted (s : State) (c : Channel) : State :=
  { s with drives := (s.mapChannel c fun r => r.fault (s.driveSetting c) (c == .flap)).drives.stopIdlePulse }

theorem State.faulted_channel (s : State) (c : Channel) :
    (s.faulted c).channel c = (s.channel c).fault (s.driveSetting c) (c == .flap) :=
  (Drives.get_stopIdlePulse _ c).trans (s.channel_mapChannel c _)

theorem State.faulted_channel_other (s : State) {c d : Channel} (other : d ≠ c) :
    (s.faulted c).channel d = s.channel d :=
  (Drives.get_stopIdlePulse _ d).trans (s.channel_mapChannel_other _ other)

theorem State.faultChannel_eq (s : State) (c : Channel) : s.faultChannel c =
    if ((s.faulted c).channel c).state = .faulted then (s.faulted c).raiseDriveFault c else s.faulted c := rfl

theorem State.faultChannel_drives (s : State) (c : Channel) : (s.faultChannel c).drives = (s.faulted c).drives := by
  rw [s.faultChannel_eq]
  split
  · exact (State.raiseDriveFault_changes _ c).drives
  · rfl

theorem State.faultChannel_channel (s : State) (c : Channel) :
    (s.faultChannel c).channel c = (s.channel c).fault (s.driveSetting c) (c == .flap) :=
  (congrArg (fun d : Drives => d.get c) (s.faultChannel_drives c)).trans (s.faulted_channel c)

theorem State.faultChannel_channel_other (s : State) {c d : Channel} (other : d ≠ c) :
    (s.faultChannel c).channel d = s.channel d :=
  (congrArg (fun v : Drives => v.get d) (s.faultChannel_drives c)).trans (s.faulted_channel_other other)

namespace ChannelRecord

variable (r : ChannelRecord) (d : DriveSetting) (pulse : Bool)

theorem fault_kept : (r.fault d pulse).retry = min 3 (r.retry + 1) ∧ (r.fault d pulse).grace = none
    ∧ (r.fault d pulse).standing = (r.standing && !pulse) ∧ (r.fault d pulse).direction = r.direction := by
  unfold fault
  dsimp only
  split
  · exact ⟨rfl, rfl, rfl, rfl⟩
  · split <;> exact ⟨rfl, rfl, rfl, rfl⟩

theorem fault_stop {r : ChannelRecord} {d : DriveSetting} (stop : d.faultResponse = 0) :
    (r.fault d pulse).state = .faulted ∧ (r.fault d pulse).cause = some .stop := by
  simp [fault, DriveSetting.stops, stop, release]

theorem fault_coolOff {r : ChannelRecord} {d : DriveSetting} (retries : d.faultResponse = 1) (few : r.retry < 2) :
    (r.fault d pulse).state = .coolOff ∧ (r.fault d pulse).coolOff = some 0 := by
  have below : r.retry ≤ 1 := by omega
  simp [fault, DriveSetting.stops, retries, release, Config.retryLimit, below]

theorem fault_last {r : ChannelRecord} {d : DriveSetting} (retries : d.faultResponse = 1) (many : 2 ≤ r.retry) :
    (r.fault d pulse).state = .faulted ∧ (r.fault d pulse).cause = some .retries := by
  have atLimit : ¬r.retry ≤ 1 := by omega
  simp [fault, DriveSetting.stops, retries, release, Config.retryLimit, atLimit]

/-- A fault leaves the channel in COOL-OFF or FAULTED. -/
theorem fault_state : (r.fault d pulse).state = .coolOff ∨ (r.fault d pulse).state = .faulted := by
  unfold fault
  dsimp only
  split
  · exact .inr rfl
  · split
    · exact .inl rfl
    · exact .inr rfl

theorem fault_not_driven : (r.fault d pulse).state.driven = false := by
  rcases r.fault_state d pulse with state | state <;> rw [state] <;> rfl

end ChannelRecord

theorem State.raiseDriveFault_noticeOf {s : State} {c : Channel} {cause : FaultCause}
    (known : (s.channel c).cause = some cause) : (s.raiseDriveFault c).noticeOf .driveFault = some (.driveFault c cause
      (s.channel c).retry (s.driveSetting c).limitMilliamps (s.driveSetting c).graceMs
      (if c = .entry then some (s.channel c).direction else none) (s.channel c).standing) := by
  simp only [State.raiseDriveFault, known]
  exact State.raise_noticeOf (k := .driveFault) _ _ rfl

-- The fault and the owners (09 R155, R156)

section Fault
variable {s : State} {c : Channel} (limiting : (s.channel c).state = .limiting)

theorem State.gateLeft_of_same {s t : State} {g : Gate} (same : t.channel (.gate g) = s.channel (.gate g)) :
    t.gateLeft s.drives g = false := by
  have before : s.drives.get (.gate g) = s.channel (.gate g) := rfl
  rw [State.gateLeft, same, before, Bool.and_not_self]

/-- No other gate leaves the driven states at a fault. -/
theorem State.faultChannel_gateLeft_other {k : Gate} (other : Channel.gate k ≠ c) :
    (s.faultChannel c).gateLeft s.drives k = false :=
  State.gateLeft_of_same (s.faultChannel_channel_other other)

include limiting in
theorem State.faultChannel_gateLeft {g : Gate} (gate : c = .gate g) : (s.faultChannel c).gateLeft s.drives g = true := by
  subst gate
  have before : s.drives.get (.gate g) = s.channel (.gate g) := rfl
  rw [State.gateLeft, s.faultChannel_channel, ChannelRecord.fault_not_driven, before, limiting]
  rfl

/-- ENTRY entering COOL-OFF or FAULTED jams the record in ENTERING (06 R104). -/
theorem State.tellOwners_jams {before : Drives} {r : Container} (troubled : s.entryTroubled = true)
    (entry : s.path.entry = some r) (entering : r.stage = .entering) :
    (s.tellOwners before).path.entry = some { r with stage := .stuck }
      ∧ (s.tellOwners before).noticeOf .jam = some (.jam r.tag .entryZone .drive .entering (some .entry)) := by
  have missed := s.missGates_changes before (List.finRange 8)
  have channel := missed.channel .entry
  rw [State.tellOwners_eq]
  refine State.checkEntryDrive_jams ?_ ((congrArg Path.entry missed.path).trans entry) entering
  rw [State.entryTroubled, channel]
  exact troubled

end Fault

theorem exec_graceTimeExpired_limiting {s : State} {c : Channel} (limiting : (s.channel c).state = .limiting)
    (runs : (s.channel c).grace.isSome = true) :
    exec (.graceTimeExpired c) s = .next ((s.faultChannel c).tellOwners s.drives) := by
  simp only [exec, execGraceTimeExpired, runs, limiting, if_true]

/-- The channel of an expired grace time after the owners were told (09 R155, R156). -/
theorem State.graceTime_channel (s : State) (c : Channel) :
    ∃ standing, ((s.faultChannel c).tellOwners s.drives).channel c =
        { (s.channel c).fault (s.driveSetting c) (c == .flap) with standing := standing }
      ∧ (c ≠ .entry → standing = ((s.channel c).standing && !(c == .flap))) := by
  obtain ⟨standing, channel, other⟩ := (s.faultChannel c).tellOwners_channel s.drives c
  rw [s.faultChannel_channel] at channel other
  exact ⟨standing, channel, fun h => (other h).trans ((s.channel c).fault_kept _ _).2.2.1⟩

-- The other times of a channel (09 R157 to R159)

theorem ChannelRecord.coolOffExpired_facts {r : ChannelRecord} (cooling : r.state = .coolOff)
    (runs : r.coolOff.isSome = true) :
    r.coolOffExpired.coolOff = none ∧ r.coolOffExpired.retry = r.retry
      ∧ (r.standing = true → r.coolOffExpired.state = .running ∧ r.coolOffExpired.clean = true
        ∧ r.coolOffExpired.cleanRun = some 0)
      ∧ (r.standing = false → r.coolOffExpired.state = .off) := by
  cases standing : r.standing <;>
    simp [ChannelRecord.coolOffExpired, ChannelRecord.settleOff, ChannelRecord.begin, cooling, runs, standing]

/-- Settles O59. -/
theorem channelsFollowTheirLoad : Obligations.ChannelsFollowTheirLoad := by
  intro s c
  refine ⟨fun running => ?_, fun limiting => ?_, fun limiting runs => ?_, fun cooling runs => ?_,
    fun running clean runs => ?_, fun runs driven => ?_⟩
  · refine ⟨_, rfl, rfl, fun d other => s.channel_mapChannel_other _ other, ?_⟩
    exact (s.channel_mapChannel c _).trans (if_pos running)
  · refine ⟨_, rfl, rfl, fun d other => s.channel_mapChannel_other _ other, ?_⟩
    exact (s.channel_mapChannel c _).trans (if_pos limiting)
  · obtain ⟨standing, channel, other⟩ := s.graceTime_channel c
    have faultKept := s.faultAny_changes c
    have told := (s.faultChannel c).tellOwners_changes s.drives
    have all := faultKept.andThen told (rs := .notice .driveFault :: driveParts ++ ownerParts)
    obtain ⟨retry, grace, ends, _⟩ := (s.channel c).fault_kept (s.driveSetting c) (c == .flap)
    have fault : ((s.faulted c).channel c) = _ := s.faulted_channel c
    refine ⟨_, exec_graceTimeExpired_limiting limiting runs, all .map (by simp), all .bins (by simp), all .belt (by simp),
      ?_, ?_, fun flap => ?_, fun stop => ?_, fun retries few => ?_, fun retries many => ?_, fun r entry record entering => ?_,
      fun quiet => ?_, fun g i gate interval first synced reports room => ?_⟩
    · rw [channel]; exact retry
    · rw [channel]; exact grace
    · rw [channel, other (by rw [flap]; nofun), flap]
      exact Bool.and_false _
    · obtain ⟨state, cause⟩ := ChannelRecord.fault_stop (r := s.channel c) (c == .flap) stop
      rw [channel]
      refine ⟨state, cause, ?_⟩
      have raised : s.faultChannel c = (s.faulted c).raiseDriveFault c := by
        rw [s.faultChannel_eq, fault, if_pos state]
      have notice := State.raiseDriveFault_noticeOf (s := s.faulted c) (c := c) (by rw [fault]; exact cause)
      rw [fault, retry, ends] at notice
      have kept : ((s.faultChannel c).tellOwners s.drives).noticeOf .driveFault = (s.faultChannel c).noticeOf .driveFault :=
        congrArg NoticeRecord.detail (told (.notice .driveFault) (by simp))
      rw [kept, raised, notice, ((s.channel c).fault_kept _ _).2.2.2]
      rfl
    · obtain ⟨state, timer⟩ := ChannelRecord.fault_coolOff (r := s.channel c) (c == .flap) retries few
      rw [channel]
      refine ⟨state, timer, ?_⟩
      have silent : s.faultChannel c = s.faulted c := by
        rw [s.faultChannel_eq, fault, if_neg (by rw [state]; nofun)]
      exact (told (.notice .driveFault) (by simp)).trans
        ((congrArg (fun t : State => t.part (.notice .driveFault)) silent).trans rfl)
    · obtain ⟨state, cause⟩ := ChannelRecord.fault_last (r := s.channel c) (c == .flap) retries many
      rw [channel]
      exact ⟨state, cause⟩
    · subst entry
      have troubled : (s.faultChannel .entry).entryTroubled = true := by
        rw [State.entryTroubled, s.faultChannel_channel]
        rcases (s.channel .entry).fault_state (s.driveSetting .entry) (Channel.entry == .flap) with state | state <;>
          rw [state] <;> rfl
      exact State.tellOwners_jams troubled ((congrArg Path.entry faultKept.path).trans record) entering
    · have still : (s.faultChannel c).reportsDuty = false := faultKept.reportsDuty.trans (by
        rcases quiet with out | off
        · simp [State.reportsDuty, State.synced, out]
        · simp [State.reportsDuty, off])
      exact (State.tellOwners_line_of_not_reporting still s.drives).trans faultKept.line
    · have duty : (s.faultChannel c).reportsDuty = true := faultKept.reportsDuty.trans (by
        simp [State.reportsDuty, State.synced, synced, reports])
      have gates : (s.faultChannel c).gates = s.gates := faultKept .gates (by simp)
      have bins : (s.faultChannel c).bins = s.bins := faultKept .bins (by simp)
      have line : (s.faultChannel c).line = s.line := faultKept.line
      obtain ⟨misroute, hold⟩ := State.tellOwners_queues (before := s.drives) duty
        (State.faultChannel_gateLeft limiting gate)
        (fun k apart => State.faultChannel_gateLeft_other fun same => apart (Channel.gate.inj (same.trans gate)))
        (by rw [gates]; exact interval) first (by rw [line]; exact room.trans (by decide))
      rw [line, bins, ← gate, s.faultChannel_channel] at hold
      refine ⟨misroute, fun state opened => hold room ?_ opened⟩
      rw [channel] at state
      exact state
  · obtain ⟨timer, retry, starts, rests⟩ := ChannelRecord.coolOffExpired_facts cooling runs
    have channel := s.channel_mapChannel c .coolOffExpired
    rw [← channel] at timer retry starts rests
    exact ⟨_, rfl, rfl, fun d other => s.channel_mapChannel_other _ other, timer, retry, starts, rests⟩
  · refine ⟨_, rfl, rfl, fun d other => s.channel_mapChannel_other _ other, ?_⟩
    refine (s.channel_mapChannel c _).trans ?_
    simp [ChannelRecord.cleanRunExpired, runs, clean]
  · have expired : exec .flapTimeExpired s = .next { s with drives :=
        { (s.mapChannel .flap .withdraw).drives with flapTimer := none } } := by
      simp only [exec, execFlapTimeExpired, runs, if_true]
      rfl
    have flap : (s.channel .flap).withdraw = { s.channel .flap with
        state := .off, standing := false, grace := none, cleanRun := none
        retry := if (s.channel .flap).clean then 0 else (s.channel .flap).retry } := by
      simp [ChannelRecord.withdraw, driven, ChannelRecord.release]
    refine ⟨_, expired, rfl, fun d other => ?_, rfl, congrArg ChannelRecord.state flap, congrArg ChannelRecord.standing flap,
      congrArg ChannelRecord.retry flap⟩
    cases d with
    | flap => exact absurd rfl other
    | entry | hold | gate g => rfl

end Machine
end Sys2Proof
end

section
/-! PROOF. The cut of the drives, its beginning and its end (09 R162): O60 by the heat stage, and O49 by the supply (07 R126
to R129). -/
set_option Elab.async false
namespace Sys2Proof
namespace Machine

-- A channel as the cut begins and ends (09 R162)

namespace ChannelRecord

theorem cut_facts (r : ChannelRecord) (pulse : Bool) :
    (r.cut pulse).state = (if r.state = .faulted then .faulted else .cut)
      ∧ (r.cut pulse).grace = (if r.state.driven = true ∨ r.state = .off then none else r.grace)
      ∧ (r.cut pulse).retry = r.retry ∧ (r.cut pulse).coolOff = r.coolOff := by
  cases state : r.state <;> simp [cut, state, release, ChannelState.driven]

theorem cut_not_driven (r : ChannelRecord) (pulse : Bool) : (r.cut pulse).state.driven = false := by
  rw [(r.cut_facts pulse).1]
  split <;> rfl

theorem uncut_facts (r : ChannelRecord) :
    r.uncut.state = (if r.state ≠ .cut then r.state else if r.coolOff.isSome = true then .coolOff
        else if r.standing = true then .running else .off)
      ∧ r.uncut.retry = r.retry ∧ r.uncut.coolOff = r.coolOff := by
  by_cases isCut : r.state = .cut
  · cases timer : r.coolOff with
    | some n => simp [uncut, isCut, timer]
    | none => cases standing : r.standing <;> simp [uncut, isCut, timer, settleOff, begin, standing]
  · simp [uncut, isCut]

/-- The end of the cut ends no drive period. -/
theorem uncut_driven {r : ChannelRecord} (driven : r.state.driven = true) : r.uncut = r := by
  have notCut : r.state ≠ .cut := fun cut => by rw [cut] at driven; contradiction
  exact if_neg notCut

end ChannelRecord

-- The channels as the drives follow a change (09 R162)

theorem State.applyCut_begun {s : State} (cut : s.cutCondition = true) (c : Channel) :
    (s.applyCut false).channel c = (s.channel c).cut (c == .flap) := by
  simp only [State.applyCut, cut, Bool.not_false, Bool.and_self, if_true, State.channel, Drives.get_stopIdlePulse,
    Drives.get_mapAll]

theorem State.applyCut_ended {s : State} (free : s.cutCondition = false) (c : Channel) :
    (s.applyCut true).channel c = (s.channel c).uncut := by
  simp only [State.applyCut, free, Bool.false_and, Bool.false_eq_true, if_false, Bool.not_false, Bool.and_self, if_true,
    State.channel, Drives.get_mapAll]

theorem State.applyCut_kept (s : State) : s.applyCut s.cutCondition = s := by
  cases cut : s.cutCondition <;> simp [State.applyCut, cut]

theorem State.followCut_eq (s u : State) : s.followCut u = (u.applyCut s.cutCondition).tellOwners u.drives := rfl

/-- A change of the heat stage or the supply condition leaves the drives, the line, the gates and the membership alone. -/
structure State.StagesOnly (s u : State) : Prop where
  drives : u.drives = s.drives
  gates : u.gates = s.gates
  line : u.line = s.line
  duty : u.reportsDuty = s.reportsDuty

section Follow
variable {s u : State} (stages : s.StagesOnly u)
include stages

theorem State.StagesOnly.channel (c : Channel) : u.channel c = s.channel c := congrArg (fun d : Drives => d.get c) stages.drives

/-- A change that leaves the cut condition as it was changes no channel's state, no gate and no frame. -/
theorem State.followCut_kept (same : u.cutCondition = s.cutCondition) :
    (∀ c, ((s.followCut u).channel c).state = (s.channel c).state) ∧ (s.followCut u).gates = s.gates
      ∧ (s.followCut u).line = s.line := by
  have follows : s.followCut u = u.checkEntryDrive := by
    rw [State.followCut_eq, ← same, u.applyCut_kept]
    exact State.tellOwners_of_none_left fun k => State.gateLeft_of_same rfl
  have jammed := u.checkEntryDrive_changes
  rw [follows]
  refine ⟨fun c => ?_, (jammed .gates (by simp)).trans stages.gates, jammed.line.trans stages.line⟩
  obtain ⟨standing, channel, _⟩ := u.checkEntryDrive_channel c
  rw [channel, stages.channel]

/-- The end of the cut leaves every channel that was not CUT as it was, and no gate has missed. -/
theorem State.followCut_ended (free : u.cutCondition = false) (was : s.cutCondition = true) :
    (∀ c, ((s.followCut u).channel c).state = (if (s.channel c).state ≠ .cut then (s.channel c).state
          else if (s.channel c).coolOff.isSome = true then .coolOff
          else if (s.channel c).standing = true then .running else .off)
        ∧ ((s.followCut u).channel c).retry = (s.channel c).retry
        ∧ ((s.followCut u).channel c).coolOff = (s.channel c).coolOff)
      ∧ (s.followCut u).gates = s.gates ∧ (s.followCut u).line = s.line := by
  have stays (k : Gate) : (u.applyCut true).gateLeft u.drives k = false := by
    have before : u.drives.get (.gate k) = u.channel (.gate k) := rfl
    rw [State.gateLeft, State.applyCut_ended free, before]
    cases driven : (u.channel (.gate k)).state.driven with
    | false => rfl
    | true => rw [ChannelRecord.uncut_driven driven, driven]; rfl
  have follows : s.followCut u = (u.applyCut true).checkEntryDrive := by
    rw [State.followCut_eq, was]
    exact State.tellOwners_of_none_left stays
  have changed := (u.applyCut_changes true).andThen (State.checkEntryDrive_changes _) (rs := driveParts ++ jamParts)
  rw [follows]
  refine ⟨fun c => ?_, (changed .gates (by simp)).trans stages.gates, changed.line.trans stages.line⟩
  obtain ⟨standing, channel, _⟩ := (u.applyCut true).checkEntryDrive_channel c
  rw [channel, State.applyCut_ended free, stages.channel]
  exact (s.channel c).uncut_facts

/-- The beginning of the cut makes every channel but a FAULTED one CUT, and the gates that were driven have missed (01 R20). -/
theorem State.followCut_begun (cut : u.cutCondition = true) (was : s.cutCondition = false) :
    (∀ c, ((s.followCut u).channel c).state = (if (s.channel c).state = .faulted then .faulted else .cut)
        ∧ ((s.followCut u).channel c).grace = (if (s.channel c).state.driven = true ∨ (s.channel c).state = .off then none
            else (s.channel c).grace)
        ∧ ((s.followCut u).channel c).retry = (s.channel c).retry
        ∧ ((s.followCut u).channel c).coolOff = (s.channel c).coolOff)
      ∧ s.gatesMissed (s.followCut u) := by
  have follows : s.followCut u = (u.applyCut false).tellOwners u.drives := by rw [State.followCut_eq, was]
  have applied := u.applyCut_changes false
  have gates : (u.applyCut false).gates = s.gates := (applied .gates (by simp)).trans stages.gates
  have line : (u.applyCut false).line = s.line := applied.line.trans stages.line
  have duty : (u.applyCut false).reportsDuty = s.reportsDuty := applied.reportsDuty.trans stages.duty
  have left (k : Gate) : (u.applyCut false).gateLeft u.drives k = (s.channel (.gate k)).state.driven := by
    have before : u.drives.get (.gate k) = s.channel (.gate k) := stages.channel (.gate k)
    rw [State.gateLeft, State.applyCut_begun cut, ChannelRecord.cut_not_driven, before]
    exact Bool.and_true _
  have marked := (u.applyCut false).tellOwners_gates u.drives
  simp only [left, gates] at marked
  rw [follows]
  refine ⟨fun c => ?_, fun g i interval driven => ?_, fun g idle => ?_, fun quiet => ?_,
    fun g i interval driven first alone synced reports room => ?_⟩
  · obtain ⟨standing, channel, _⟩ := (u.applyCut false).tellOwners_channel u.drives c
    rw [channel, State.applyCut_begun cut, stages.channel]
    exact (s.channel c).cut_facts _
  · rw [marked, if_pos driven, interval]
    rfl
  · rw [marked]
    rcases idle with none | still
    · rw [none]
      exact ite_self _
    · rw [if_neg (by rw [still]; nofun)]
  · refine (State.tellOwners_line_of_not_reporting (duty.trans ?_) u.drives).trans line
    rcases quiet with out | off
    · simp [State.reportsDuty, State.synced, out]
    · simp [State.reportsDuty, off]
  · have reporting : (u.applyCut false).reportsDuty = true := duty.trans (by
      simp [State.reportsDuty, State.synced, synced, reports])
    exact (State.tellOwners_queues reporting ((left g).trans driven) (fun k apart => (left k).trans (alone k apart))
      (by rw [gates]; exact interval) first (by rw [line]; exact room)).1

end Follow

-- The heat stage (O60)

theorem State.enterStage_stagesOnly (s : State) (stage : HeatStage) (cause : Option ThermalCause) :
    s.StagesOnly (s.enterStage stage cause) := by
  cases cause <;> exact ⟨rfl, rfl, rfl, rfl⟩

/-- THERMAL as the stage is entered stands after the drives have followed (09 R161). -/
theorem State.thermalRaised (s : State) (stage : HeatStage) (cause : ThermalCause) :
    (s.followCut (s.enterStage stage (some cause))).heat = stage
      ∧ (s.followCut (s.enterStage stage (some cause))).noticeOf .thermal =
          some (.thermal cause s.heat stage s.drives.states) := by
  have followed := State.followCut_changes s (s.enterStage stage (some cause))
  have kept := congrArg NoticeRecord.detail (followed (.notice .thermal) (by simp))
  exact ⟨followed .heat (by simp), kept.trans (State.raise_noticeOf (k := .thermal) _ _ rfl)⟩

theorem State.cutCondition_iff (s : State) : s.cutCondition = true ↔ s.heat = .hot ∨ s.scan.supply = .cutoff := by
  simp [State.cutCondition]

theorem State.cutCondition_eq_false_iff (s : State) :
    s.cutCondition = false ↔ s.heat ≠ .hot ∧ s.scan.supply ≠ .cutoff := by
  simp [State.cutCondition]

theorem State.enterStage_cut (s : State) (stage : HeatStage) (cause : Option ThermalCause) :
    (s.enterStage stage cause).cutCondition = (stage == .hot || s.scan.supply == .cutoff) := by cases cause <;> rfl

theorem exec_heatStageChange {s : State} {crossing : HeatCrossing} {stage : HeatStage} {cause : Option ThermalCause}
    (answers : crossed s.heat crossing = some (stage, cause)) :
    exec (.heatStageChange crossing) s = .next (s.followCut (s.enterStage stage cause)) := by
  simp only [exec, execHeatStageChange, answers]

theorem exec_heatStageChange_none {s : State} {crossing : HeatCrossing} (ignored : crossed s.heat crossing = none) :
    exec (.heatStageChange crossing) s = .next s := by
  simp only [exec, execHeatStageChange, ignored]

/-- Settles O60. -/
theorem heatCutsTheDrives : Obligations.HeatCutsTheDrives := by
  intro s
  have stages (stage : HeatStage) (cause : Option ThermalCause) := s.enterStage_stagesOnly stage cause
  refine ⟨fun normal => ?_, fun notHot => ?_, fun hot => ?_, fun warm => ?_, fun notNormal => ?_, fun hot => ?_,
    fun notHot => ?_, fun notWarm => ?_⟩
  · obtain ⟨heat, thermal⟩ := s.thermalRaised .warm .warm
    have same : (s.enterStage .warm (some .warm)).cutCondition = s.cutCondition := by
      rw [s.enterStage_cut, State.cutCondition, normal]
      rfl
    rw [normal] at thermal
    exact ⟨_, exec_heatStageChange (by rw [normal]; rfl), heat, thermal, (State.followCut_kept (stages _ _) same).1⟩
  · obtain ⟨heat, thermal⟩ := s.thermalRaised .hot .hot
    have cut : (s.enterStage .hot (some .hot)).cutCondition = true := s.enterStage_cut .hot (some .hot)
    have crossing : crossed s.heat .above160 = some (.hot, some .hot) := by
      cases stage : s.heat with
      | normal | warm => rfl
      | hot => exact absurd stage notHot
    refine ⟨_, exec_heatStageChange crossing, heat, thermal, fun supplied => ?_, fun supplied => ?_, fun cutoff => ?_⟩
    · exact (State.followCut_begun (stages _ _) cut ((s.cutCondition_eq_false_iff).mpr ⟨notHot, supplied⟩)).1
    · exact (State.followCut_begun (stages _ _) cut ((s.cutCondition_eq_false_iff).mpr ⟨notHot, supplied⟩)).2
    · exact (State.followCut_kept (stages _ _) (cut.trans ((s.cutCondition_iff).mpr (.inr cutoff)).symm)).2
  · obtain ⟨heat, thermal⟩ := s.thermalRaised .warm .cooled
    rw [hot] at thermal
    have was : s.cutCondition = true := (s.cutCondition_iff).mpr (.inl hot)
    refine ⟨_, exec_heatStageChange (by rw [hot]; rfl), heat, thermal, fun supplied c isCut => ?_, fun cutoff => ?_⟩
    · have free : (s.enterStage .warm (some .cooled)).cutCondition = false := by
        simp [s.enterStage_cut, supplied]
      refine ((State.followCut_ended (stages _ _) free was).1 c).1.trans ?_
      rw [if_neg (not_not.mpr isCut)]
    · have same : (s.enterStage .warm (some .cooled)).cutCondition = s.cutCondition := by
        rw [was, s.enterStage_cut, cutoff]
        rfl
      exact (State.followCut_kept (stages _ _) same).1
  · have followed := State.followCut_changes s (s.enterStage .normal none)
    exact ⟨_, exec_heatStageChange (by rw [warm]; rfl), followed .heat (by simp), followed (.notice .thermal) (by simp)⟩
  · refine exec_heatStageChange_none ?_
    cases stage : s.heat with
    | normal => exact absurd stage notNormal
    | warm | hot => rfl
  · exact exec_heatStageChange_none (by rw [hot]; rfl)
  · refine exec_heatStageChange_none ?_
    cases stage : s.heat with
    | normal | warm => rfl
    | hot => exact absurd stage notHot
  · refine exec_heatStageChange_none ?_
    cases stage : s.heat with
    | normal | hot => rfl
    | warm => exact absurd stage notWarm

end Machine
end Sys2Proof
end

section
/-! PROOF. O49, the Supply Watch (07 R126 to R129, 09 R162). -/
set_option Elab.async false
namespace Sys2Proof
namespace Machine

-- A result judged (07 R119, R127, R128)

theorem average_eq (four : Vector Sample 4) :
    average four = (four[0].toNat + four[1].toNat + four[2].toNat + four[3].toNat) / 4 := by
  have entries : four = #v[four[0], four[1], four[2], four[3]] := by
    ext i below
    interval_cases i <;> rfl
  rw [average, entries]
  simp [Nat.add_assoc]

theorem referenceGood_iff (re : Nat) : referenceGood re = true ↔ 480 ≤ re ∧ re ≤ 544 := decide_eq_true_iff

theorem judgeResult_facts (former : SupplyCondition) (su re : Nat) :
    let good := 480 ≤ re ∧ re ≤ 544
    (¬good → judgeResult former su re = .cutoff) ∧ (good → 656 ≤ su → judgeResult former su re = .normal)
      ∧ (good → 625 ≤ su → su < 656 → judgeResult former su re = former)
      ∧ (good → 531 ≤ su → su < 625 → judgeResult former su re = if former = .cutoff then .cutoff else .low)
      ∧ (good → su < 531 → judgeResult former su re = .cutoff) := by
  simp only [judgeResult, judgeSupply, referenceGood_iff]
  refine ⟨fun bad => if_neg bad, fun good high => ?_, fun good high low => ?_, fun good high low => ?_, fun good low => ?_⟩
  · rw [if_pos good, if_pos high]
  · rw [if_pos good, if_neg (by omega), if_pos high]
  · rw [if_pos good, if_neg (by omega), if_neg (by omega), if_pos high]
  · rw [if_pos good, if_neg (by omega), if_neg (by omega), if_neg (by omega)]

/-- The state after a result (07 R127): the condition judged, the drives told, the SUPPLY notices raised. -/
def State.watched (s : State) (su re : Nat) : State :=
  State.supplyTold s.scan.supply (judgeResult s.scan.supply su re) (s.referenceTold (s.followCut (s.supplyJudged su re)) su re)
    su re

theorem exec_watchResult_watching {s : State} (watching : s.scan.program = .watching) (a b : Vector Sample 4) :
    exec (.watchResult a b) s = .next (s.watched (average a) (average b)) := by
  rw [exec_watchResult, if_pos watching]
  rfl

/-- The SUPPLY notices change nothing else. -/
theorem State.watched_changes (s : State) (su re : Nat) :
    Changes [.notice .supply] (s.followCut (s.supplyJudged su re)) (s.watched su re) :=
  (s.referenceTold_changes _ su re).trans (State.supplyTold_changes _ _ _ su re)

theorem State.followCut_supply (s : State) (su re : Nat) :
    (s.followCut (s.supplyJudged su re)).notices[NoticeKind.supply.index] = s.notices[NoticeKind.supply.index] :=
  (State.followCut_changes s (s.supplyJudged su re)) (.notice .supply) (by simp)

theorem State.watched_scan (s : State) (su re : Nat) : (s.watched su re).scan = (s.supplyJudged su re).scan :=
  (s.watched_changes su re).scan.trans (State.followCut_changes s (s.supplyJudged su re)).scan

-- The SUPPLY notices (07 R129)

theorem State.referenceTold_of_not_turned_bad {s : State} {su re : Nat} (t : State)
    (plain : ¬(s.scan.reference = .good ∧ referenceGood re = false)) : s.referenceTold t su re = t := if_neg plain

theorem State.watched_of_cause {s : State} {su re : Nat} {cause : SupplyCause}
    (changed : supplyCause s.scan.supply (judgeResult s.scan.supply su re) = some cause) :
    s.watched su re = (s.referenceTold (s.followCut (s.supplyJudged su re)) su re).raise
      (.supply cause s.scan.supply (judgeResult s.scan.supply su re) su re) := by
  simp only [State.watched, State.supplyTold, changed]

theorem State.watched_of_no_cause {s : State} {su re : Nat}
    (same : supplyCause s.scan.supply (judgeResult s.scan.supply su re) = none) :
    s.watched su re = s.referenceTold (s.followCut (s.supplyJudged su re)) su re := by
  simp only [State.watched, State.supplyTold, same]

theorem State.watched_noticeOf {s : State} {su re : Nat} {cause : SupplyCause}
    (changed : supplyCause s.scan.supply (judgeResult s.scan.supply su re) = some cause) :
    (s.watched su re).noticeOf .supply =
      some (.supply cause s.scan.supply (judgeResult s.scan.supply su re) su re) := by
  rw [State.watched_of_cause changed]
  exact State.raise_noticeOf (k := .supply) _ _ rfl

/-- REFERENCE is raised before the change of condition, so the count rises by two (07 R128, R129). -/
theorem State.watched_count {s : State} {su re : Nat} {cause : SupplyCause}
    (changed : supplyCause s.scan.supply (judgeResult s.scan.supply su re) = some cause)
    (turned : s.scan.reference = .good ∧ referenceGood re = false) :
    (s.watched su re).notices[NoticeKind.supply.index].count = min 255 (s.notices[NoticeKind.supply.index].count + 2) := by
  have told : s.referenceTold (s.followCut (s.supplyJudged su re)) su re = _ := if_pos turned
  rw [State.watched_of_cause changed, State.raise_record (k := .supply) _ _ rfl, told,
    State.raise_record (k := .supply) _ _ rfl, s.followCut_supply]
  dsimp only
  omega

theorem supplyCause_cutoff {former : SupplyCondition} (other : former ≠ .cutoff) :
    supplyCause former .cutoff = some .cutoff := by
  cases former with
  | normal | low => rfl
  | cutoff => exact absurd rfl other

/-- Settles O49. -/
theorem supplyIsJudged : Obligations.SupplyIsJudged := by
  intro s supply reference su re good
  refine ⟨fun watching => ?_, fun other => ?_⟩
  · have taken : exec (.watchResult supply reference) s = .next (s.watched su re) := by
      rw [exec_watchResult_watching watching, average_eq, average_eq]
    have scan := s.watched_scan su re
    have supplyNow : (s.watched su re).scan.supply = judgeResult s.scan.supply su re := congrArg ScanUnit.supply scan
    have referenceNow : (s.watched su re).scan.reference = if referenceGood re then .good else .bad :=
      congrArg ScanUnit.reference scan
    obtain ⟨bad, high, middle, low, lowest⟩ := judgeResult_facts s.scan.supply su re
    have goodIff : referenceGood re = true ↔ good := referenceGood_iff re
    have turnedBad (nowBad : ¬good) : referenceGood re = false := Bool.eq_false_iff.mpr fun h => nowBad (goodIff.mp h)
    have stages : s.StagesOnly (s.supplyJudged su re) := ⟨rfl, rfl, rfl, rfl⟩
    have told := s.watched_changes su re
    have all := ((s.supplyJudged_changes su re).andThen (State.followCut_changes s _)
      (rs := .supply :: driveParts ++ ownerParts)).andThen told (rs := .supply :: .notice .supply :: driveParts ++ ownerParts)
    have channel (c : Channel) := told.channel c (by cases c <;> simp [channelPart])
    have gates : (s.watched su re).gates = (s.followCut (s.supplyJudged su re)).gates := told .gates (by simp)
    have line := told.line
    have cutNow : (s.supplyJudged su re).cutCondition = (s.heat == .hot || judgeResult s.scan.supply su re == .cutoff) := rfl
    have freeIff := s.cutCondition_eq_false_iff
    rw [← supplyNow] at bad high middle low lowest cutNow
    refine ⟨_, taken, congrArg ScanUnit.lastSupply scan, congrArg ScanUnit.lastReference scan, fun h => ?_, fun h => ?_, bad, high,
      middle, low, lowest, fun was now => ?_, fun was now => ⟨?_, fun wasGood nowBad => ?_⟩, fun was now => ?_,
      fun wasGood nowBad was => ?_, fun was now => ?_, fun was now => ?_, fun was now => ?_, fun was cool now => ?_,
      fun same => ?_, fun kept => ?_, (congrArg ScanUnit.record scan).trans rfl, all .belt (by simp), all .map (by simp),
      all .bins (by simp), all .member (by simp)⟩
    · rw [referenceNow, if_pos (goodIff.mpr h)]
    · rw [referenceNow, turnedBad h]
      rfl
    · have changed : supplyCause s.scan.supply (judgeResult s.scan.supply su re) = some .low := by
        rw [was, ← was, ← supplyNow, now, was]
        rfl
      rw [State.watched_noticeOf changed, ← supplyNow, was, now]
    · have changed : supplyCause s.scan.supply (judgeResult s.scan.supply su re) = some .cutoff := by
        rw [← supplyNow, now, supplyCause_cutoff was]
      rw [State.watched_noticeOf changed, ← supplyNow, now]
    · have changed : supplyCause s.scan.supply (judgeResult s.scan.supply su re) = some .cutoff := by
        rw [← supplyNow, now, supplyCause_cutoff was]
      exact State.watched_count changed ⟨wasGood, turnedBad nowBad⟩
    · have changed : supplyCause s.scan.supply (judgeResult s.scan.supply su re) = some .recovered := by
        rw [← supplyNow, now, was]
        rfl
      rw [State.watched_noticeOf changed, ← supplyNow, was, now]
    · have now := supplyNow.symm.trans (bad nowBad)
      have noCause : supplyCause s.scan.supply (judgeResult s.scan.supply su re) = none := by
        rw [now, was]
        rfl
      have raised : s.referenceTold (s.followCut (s.supplyJudged su re)) su re = _ := if_pos ⟨wasGood, turnedBad nowBad⟩
      rw [State.watched_of_no_cause noCause, raised, State.raise_noticeOf (k := .supply) _ _ rfl, now, was]
    · have noCause : supplyCause s.scan.supply (judgeResult s.scan.supply su re) = none := by
        rw [← supplyNow, now, was]
        rfl
      have plain : ¬(s.scan.reference = .good ∧ referenceGood re = false) := fun turned => by
        have cut := bad fun h => by rw [goodIff.mpr h] at turned; exact absurd turned.2 nofun
        rw [now] at cut
        contradiction
      rw [State.watched_of_no_cause noCause, State.referenceTold_of_not_turned_bad _ plain, s.followCut_supply]
    · intro c
      have cut : (s.supplyJudged su re).cutCondition = true := by rw [cutNow, now]; exact Bool.or_true _
      obtain ⟨state, _, retry, timer⟩ := (State.followCut_begun stages cut was).1 c
      rw [channel c]
      exact ⟨state, retry, timer⟩
    · have cut : (s.supplyJudged su re).cutCondition = true := by rw [cutNow, now]; exact Bool.or_true _
      obtain ⟨marked, kept, quiet, misroute⟩ := (State.followCut_begun stages cut was).2
      rw [State.gatesMissed, gates, line]
      exact ⟨marked, kept, quiet, fun g i interval driven first alone synced reports room =>
        told.queues (misroute g i interval driven first alone synced reports room)⟩
    · intro c
      have free : (s.supplyJudged su re).cutCondition = false := by simp [cutNow, cool, now]
      obtain ⟨state, retry, timer⟩ := (State.followCut_ended stages free was).1 c
      rw [channel c]
      exact ⟨state, retry, timer⟩
    · intro c
      have unchanged : (s.supplyJudged su re).cutCondition = s.cutCondition := by
        rw [cutNow, State.cutCondition]
        rcases same with hot | same
        · rw [hot]
          rfl
        · have equal : ((s.watched su re).scan.supply == SupplyCondition.cutoff) = (s.scan.supply == .cutoff) := by
            rw [Bool.eq_iff_iff, beq_iff_eq, beq_iff_eq]
            exact same.symm
          rw [equal]
      rw [channel c]
      exact (State.followCut_kept stages unchanged).1 c
    · rw [gates, line]
      cases was : s.cutCondition with
      | true =>
        cases now : (s.supplyJudged su re).cutCondition with
        | true => exact (State.followCut_kept stages (now.trans was.symm)).2
        | false => exact (State.followCut_ended stages now was).2
      | false =>
        have supplied := kept.resolve_left (by rw [was]; nofun)
        have now : (s.supplyJudged su re).cutCondition = false := by simp [cutNow, supplied, (freeIff.mp was).1]
        exact (State.followCut_kept stages (now.trans was.symm)).2
  · rw [exec_watchResult, if_neg other]

end Machine
end Sys2Proof
end

section
/-! PROOF. O44, what a decision does (06 R107, R109, R110, 10 R165): the moves of ENTRY that are not jammed, the acceptance and
the rejection. -/
set_option Elab.async false
namespace Sys2Proof
namespace Machine

-- A move of ENTRY that is not jammed (06 R104)

theorem ChannelRecord.withdraw_state (r : ChannelRecord) :
    r.withdraw.standing = false ∧ r.withdraw.state = if r.state.driven = true then .off else r.state := by
  unfold ChannelRecord.withdraw
  split <;> exact ⟨rfl, rfl⟩

theorem ChannelRecord.withdraw_not_driven (r : ChannelRecord) : r.withdraw.state.driven = false := by
  rw [r.withdraw_state.2]
  split
  · rfl
  next idle => exact Bool.eq_false_iff.mpr idle

theorem ChannelRecord.request_facts (r : ChannelRecord) :
    r.request.standing = true ∧ r.request.direction = r.direction
      ∧ r.request.state = if r.state = .off then .running else r.state := by
  unfold ChannelRecord.request
  split <;> exact ⟨rfl, rfl, rfl⟩

/-- ENTRY asked to run in a direction (09 R151): it stands, and enters neither COOL-OFF nor FAULTED by it. -/
theorem State.requestEntry_facts (s : State) (d : Direction) :
    ((s.requestEntry d).channel .entry).standing = true ∧ ((s.requestEntry d).channel .entry).direction = d
      ∧ (s.entryRuns → (s.requestEntry d).entryRuns)
      ∧ ((s.channel .entry).state = .off → ((s.requestEntry d).channel .entry).state = .running) := by
  have channel : (s.requestEntry d).channel .entry = ({ (if (s.channel .entry).standing && (s.channel .entry).direction != d
      then (s.channel .entry).withdraw else s.channel .entry) with direction := d } : ChannelRecord).request :=
    s.channel_mapChannel .entry _
  have kept : (if (s.channel .entry).standing && (s.channel .entry).direction != d
      then (s.channel .entry).withdraw else s.channel .entry).state = (s.channel .entry).state
      ∨ (if (s.channel .entry).standing && (s.channel .entry).direction != d
      then (s.channel .entry).withdraw else s.channel .entry).state = .off := by
    split
    · rw [(s.channel .entry).withdraw_state.2]
      split
      · exact .inr rfl
      · exact .inl rfl
    · exact .inl rfl
  obtain ⟨standing, direction, state⟩ := ChannelRecord.request_facts { (if (s.channel .entry).standing &&
    (s.channel .entry).direction != d then (s.channel .entry).withdraw else s.channel .entry) with direction := d }
  rw [← channel] at standing direction state
  refine ⟨standing, direction, fun runs => ?_, fun off => ?_⟩
  · rw [State.entryRuns, state]
    dsimp only
    rcases kept with same | off
    · rw [same]
      split
      · exact ⟨nofun, nofun⟩
      · exact runs
    · rw [off]
      exact ⟨nofun, nofun⟩
  · rw [state]
    dsimp only
    rcases kept with same | now
    · rw [same, off]
      rfl
    · rw [now]
      rfl

theorem State.entryTroubled_of_runs {s : State} (runs : s.entryRuns) : s.entryTroubled = false := by
  simp [State.entryTroubled, runs.1, runs.2]

/-- A move that is asked for with ENTRY ready to run is not jammed (06 R104). -/
theorem State.startMove_of_runs {s : State} (runs : s.entryRuns) (d : Direction) :
    s.startMove d = (s.requestEntry d).mapPath fun p => { p with entryTimer := some 0 } :=
  State.checkEntryDrive_of_untroubled
    (s := (s.requestEntry d).mapPath fun p => { p with entryTimer := some 0 })
    (State.entryTroubled_of_runs ((s.requestEntry_facts d).2.2.1 runs))

theorem State.endClose_of_pending {s : State} (pending : s.session.pending ≠ 0) : s.endClose = s :=
  if_neg fun ⟨_, zero, _⟩ => pending zero

-- The acceptance (06 R109)

/-- The undecided report ends without ending a close (10 R167, R170). -/
theorem State.clearUndecided_of_open {s : State} (goesOn : s.session.state = .closing → s.session.pending ≠ 0) :
    s.clearUndecided = { s with session := { s.session with undecided := false } } :=
  if_neg fun ⟨closing, zero, _⟩ => goesOn closing zero

/-- An accepted record (06 R109). -/
def Container.accepted (c : Container) (a : Article) : Container :=
  { c with stage := .waitingHold, article := some a, bin := some a.bin, value := some a.deposit }

/-- The state as a record is accepted, before its move is asked for. -/
def State.accepting (s : State) (c : Container) (a : Article) : State :=
  { s with
    path := { s.path with entry := some (c.accepted a), entryTimer := none, readTimer := none, window := false }
    scan := { s.scan with record := none, overrunPending := false }
    session := { s.session.accept with undecided := false } }

theorem Session.accept_pending {n : Session} (closing : n.accept.state = .closing) : n.accept.pending ≠ 0 := by
  revert closing
  cases was : n.state <;> simp [Session.accept, was]

theorem State.accept_eq (s : State) (c : Container) (a : Article) : s.accept c a = (s.accepting c a).startHandover :=
  congrArg State.startHandover (State.clearUndecided_of_open
    (s := (s.emptyEntry.setEntryRecord (c.accepted a)).dropScan.mapSession Session.accept) Session.accept_pending)

theorem State.accepting_startHandover (s : State) (c : Container) (a : Article) : s.accept c a =
    if s.path.hold.length < 4 then (s.accepting c a).startMove .forward else s.accepting c a := by
  rw [s.accept_eq]
  by_cases room : s.path.hold.length < 4
  · rw [if_pos room]
    exact if_pos ⟨rfl, rfl, room⟩
  · rw [if_neg room]
    exact if_neg fun ⟨_, _, free⟩ => room free

/-- What an acceptance leaves to the hold queue's places (06 R109). -/
theorem State.accept_kept {s : State} (runs : s.entryRuns) (c : Container) (a : Article) :
    (s.accept c a).session = (s.accepting c a).session ∧ (s.accept c a).scan = (s.accepting c a).scan
      ∧ (s.accept c a).path.hold = s.path.hold ∧ (s.accept c a).path.transfer = s.path.transfer
      ∧ (s.accept c a).notices = s.notices := by
  rw [s.accepting_startHandover]
  split
  · rw [State.startMove_of_runs (s := s.accepting c a) runs]
    exact ⟨rfl, rfl, rfl, rfl, rfl⟩
  · exact ⟨rfl, rfl, rfl, rfl, rfl⟩

-- The rejection (06 R110)

/-- The state as a record is rejected, before its move is asked for. -/
def State.rejecting (s : State) (c : Container) (r : RejectReason) : State :=
  (s.emptyEntry.setEntryRecord { c with stage := .returning .backing, reject := some r }).dropScan.clearUndecided

/-- The rejected record with its move asked for and not jammed, before OFFERED is tested. -/
def State.backing (s : State) (c : Container) (r : RejectReason) : State :=
  ((s.rejecting c r).requestEntry .reverse).mapPath fun p => { p with entryTimer := some 0 }

theorem State.reject_eq (s : State) (c : Container) (r : RejectReason) :
    s.reject c r = ((s.rejecting c r).startMove .reverse).testOffered := rfl

theorem State.clearUndecided_facts (s : State) : s.clearUndecided.session.undecided = false
    ∧ s.clearUndecided.session.pending = s.session.pending := by
  unfold State.clearUndecided State.endClose
  split
  next done =>
    obtain ⟨_, zero, _⟩ := done
    split
    · rw [State.assignNumber_session]
      exact ⟨rfl, rfl⟩
    · exact ⟨rfl, zero.symm⟩
  · exact ⟨rfl, rfl⟩

/-- A BACKING record is OFFERED where the scan eye is clear and the aperture eye blocked, and is left otherwise (06 R110). -/
theorem State.testOffered_offers {s : State} {c : Container} (entry : s.path.entry = some c)
    (backing : c.stage = .returning .backing) (clear : s.scan.filtered = false) (blocked : s.eyes.aperture = true) :
    s.testOffered = (s.stopEntry.setEntryRecord { c with stage := .returning .offered }).mapPath fun p =>
      { p with entryTimer := none } := by
  simp only [State.testOffered, entry, backing, clear, blocked, and_self, if_true]

theorem State.testOffered_waits {s : State} (waits : s.scan.filtered = true ∨ s.eyes.aperture = false) :
    s.testOffered = s := by
  unfold State.testOffered
  split
  · refine if_neg fun ⟨_, clear, blocked⟩ => ?_
    rcases waits with covered | free
    · rw [clear] at covered; contradiction
    · rw [blocked] at free; contradiction
  · rfl

section Reject
variable {s : State} (runs : s.entryRuns) (c : Container) (r : RejectReason)

theorem State.rejecting_changes : Changes (.entry :: .entryTimer :: .window :: .scanRecord :: .undecided :: closeParts) s
    (s.rejecting c r) :=
  (((s.emptyEntry_changes.andThen (State.setEntryRecord_changes _ _) (rs := [.entry, .entryTimer, .window])).andThen
    (State.dropScan_changes _) (rs := [.entry, .entryTimer, .window, .scanRecord])).andThen (State.clearUndecided_changes _))

theorem State.rejecting_entry : (s.rejecting c r).path.entry =
    some { c with stage := .returning .backing, reject := some r } :=
  (State.clearUndecided_changes _) .entry (by simp)

theorem State.rejecting_scan : (s.rejecting c r).scan = { s.scan with record := none, overrunPending := false } :=
  (State.clearUndecided_changes _).scan

theorem State.backing_filtered : (s.backing c r).scan.filtered = s.scan.filtered :=
  (congrArg ScanUnit.filtered (s.rejecting_scan c r)).trans rfl

include runs

/-- The rejected record's move is asked for, and is not jammed. -/
theorem State.reject_of_runs : s.reject c r = (s.backing c r).testOffered := by
  have channel := (s.rejecting_changes c r).channel .entry
  have stillRuns : (s.rejecting c r).entryRuns := by
    rw [State.entryRuns, channel]
    exact runs
  rw [State.reject_eq, State.startMove_of_runs stillRuns]
  rfl

theorem State.reject_offered (clear : s.scan.filtered = false) (blocked : s.eyes.aperture = true) :
    (s.reject c r).path.entry = some { c with stage := .returning .offered, reject := some r } := by
  have filtered : (s.backing c r).scan.filtered = false := (s.backing_filtered c r).trans clear
  have eyes : (s.backing c r).eyes = s.eyes := (s.rejecting_changes c r) .eyes (by simp)
  rw [State.reject_of_runs runs, State.testOffered_offers (s := s.backing c r)
    (c := { c with stage := .returning .backing, reject := some r }) (s.rejecting_entry c r) rfl filtered ((congrArg Eyes.aperture eyes).trans blocked)]
  rfl

theorem State.reject_backing (waits : s.scan.filtered = true ∨ s.eyes.aperture = false) :
    (s.reject c r).path.entry = some { c with stage := .returning .backing, reject := some r }
      ∧ (s.reject c r).path.entryTimer = some 0 ∧ ((s.reject c r).channel .entry).standing = true
      ∧ ((s.reject c r).channel .entry).direction = .reverse := by
  have eyes : (s.backing c r).eyes = s.eyes := (s.rejecting_changes c r) .eyes (by simp)
  have still : (s.backing c r).scan.filtered = true ∨ (s.backing c r).eyes.aperture = false := by
    rwa [s.backing_filtered, eyes]
  obtain ⟨standing, direction, _⟩ := (s.rejecting c r).requestEntry_facts .reverse
  rw [State.reject_of_runs runs, State.testOffered_waits still]
  exact ⟨s.rejecting_entry c r, rfl, standing, direction⟩

theorem State.reject_entry : (s.reject c r).path.entry = some { c with
    stage := .returning (if s.scan.filtered = false ∧ s.eyes.aperture = true then .offered else .backing)
    reject := some r } := by
  by_cases offered : s.scan.filtered = false ∧ s.eyes.aperture = true
  · rw [State.reject_offered runs c r offered.1 offered.2, if_pos offered]
  · rw [(State.reject_backing runs c r (by
      cases filtered : s.scan.filtered <;> cases aperture : s.eyes.aperture <;> simp_all)).1, if_neg offered]

theorem State.reject_kept : (s.reject c r).scan.record = none ∧ (s.reject c r).session.undecided = false
    ∧ (s.reject c r).path.hold = s.path.hold ∧ (s.reject c r).session.pending = s.session.pending
    ∧ (s.reject c r).path.window = false := by
  have moved := ((s.rejecting c r).requestEntry_changes .reverse).andThen (Changes.entryTimer _ (some 0))
    (rs := [.entryDrive, .entry, .entryTimer])
  have tested := Changes.andThen (t := s.backing c r) moved (State.testOffered_changes _) (rs := [.entryDrive, .entry, .entryTimer])
  rw [← State.reject_of_runs runs] at tested
  obtain ⟨undecided, pending⟩ := ((s.emptyEntry.setEntryRecord
    { c with stage := .returning .backing, reject := some r }).dropScan).clearUndecided_facts
  have session := tested.session
  have window := (s.emptyEntry.setEntryRecord
    { c with stage := .returning .backing, reject := some r }).dropScan.clearUndecided_changes .window (by simp)
  refine ⟨?_, ?_, (tested .hold (by simp)).trans ((s.rejecting_changes c r) .hold (by simp)), ?_, ?_⟩
  · rw [tested.scan, s.rejecting_scan]
  · rw [session]
    exact undecided
  · rw [session]
    exact pending
  · exact congrArg Prod.fst ((tested .window (by simp)).trans window)

end Reject

/-- Settles O44. -/
theorem decisionTakesEffect : Obligations.DecisionTakesEffect := by
  intro s c a r _ runs
  obtain ⟨session, scan, hold, transfer, notices⟩ := State.accept_kept runs c a
  obtain ⟨record, undecided, rejectHold, pending, _⟩ := State.reject_kept runs c r
  refine ⟨fun room => ?_, fun full => ?_, fun idle => ?_, fun open' => ?_, congrArg ScanUnit.record scan, hold, transfer,
    notices, State.reject_entry runs c r, fun waits => (State.reject_backing runs c r waits).2, record, undecided, rejectHold,
    pending⟩
  · obtain ⟨standing, direction, _⟩ := (s.accepting c a).requestEntry_facts .forward
    rw [s.accepting_startHandover, if_pos room, State.startMove_of_runs (s := s.accepting c a) runs]
    exact ⟨rfl, rfl, standing, direction⟩
  · rw [s.accepting_startHandover, if_neg (by omega)]
    exact ⟨rfl, rfl⟩
  · rw [session]
    simp only [State.accepting, Session.accept, idle]
  · rw [session]
    rcases open' with opened | closing
    · simp only [State.accepting, Session.accept, opened]
    · simp only [State.accepting, Session.accept, closing]

end Machine
end Sys2Proof
end

section
/-! PROOF. O45, the aperture eye (06 R103, R110, 10 R168, R171, 11 R186, R188): the taking of a container, and the events
that may precede it. -/
set_option Elab.async false
namespace Sys2Proof
namespace Machine

-- The taking of a container (06 R103)

theorem State.tryStart_of_not_mayStart {s : State} (no : s.mayStart = false) : s.tryStart = s := by
  rw [s.tryStart_eq, no]
  rfl

theorem State.mayStart_of_record {s : State} {c : Container} (entry : s.path.entry = some c) : s.mayStart = false := by
  simp [State.mayStart, entry]

theorem State.mayStart_of_clear {s : State} (clear : s.eyes.aperture = false) : s.mayStart = false := by
  simp [State.mayStart, clear]

/-- Nothing is taken by a station that is not SYNCED or not Active, from a session that ends or cannot begin, or behind a
STUCK record (06 R103). -/
theorem State.mayStart_of_barred {s : State} (barred : s.member ≠ .synced ∨ s.host.rest ≠ .active
    ∨ s.session.state = .closing ∨ s.session.state = .closed
    ∨ (s.session.state = .idle ∧ s.session.sequence = Config.lastSequence)
    ∨ ∃ c, s.path.transfer = some c ∧ c.stage = .stuck) : s.mayStart = false := by
  rcases barred with out | rest | closing | closed | ⟨idle, last⟩ | ⟨c, slot, stuck⟩
  · simp [State.mayStart, State.synced, out]
  · simp [State.mayStart, rest]
  · simp [State.mayStart, closing]
  · simp [State.mayStart, closed]
  · simp [State.mayStart, idle, State.exhausted, last]
  · simp [State.mayStart, State.hasStuck, slot, Container.isStuck, stuck]

theorem State.mayStart_of_conditions {s : State} (blocked : s.eyes.aperture = true) (synced : s.member = .synced)
    (active : s.host.rest = .active) (empty : s.path.entry = none)
    (free : ∀ c, s.path.transfer = some c → c.stage ≠ .stuck)
    (open' : s.session.state = .opened ∨ (s.session.state = .idle ∧ s.session.sequence ≠ Config.lastSequence)) :
    s.mayStart = true := by
  have notStuck : s.hasStuck = false := by
    cases slot : s.path.transfer with
    | none => simp [State.hasStuck, empty, slot]
    | some c => simp [State.hasStuck, empty, slot, Container.isStuck, free c slot]
  rcases open' with opened | ⟨idle, before⟩
  · simp [State.mayStart, State.synced, blocked, synced, active, empty, notStuck, opened]
  · simp [State.mayStart, State.synced, blocked, synced, active, empty, notStuck, idle, State.exhausted, before]

/-- A container that may be taken with ENTRY ready to run and the scan eye clear: its record, ENTRY and EntryTime (06 R103). -/
theorem State.tryStart_takes {s : State} (may : s.mayStart = true) (runs : s.entryRuns) (clear : s.scan.filtered = false) :
    s.tryStart.path = { s.path with
        entry := some (.entering s.path.tagCounter), tagCounter := s.path.tagCounter + 1, entryTimer := some 0 }
      ∧ s.tryStart.session = { s.session with undecided := true }
      ∧ (s.tryStart.channel .entry).standing = true ∧ (s.tryStart.channel .entry).direction = .forward
      ∧ ((s.channel .entry).state = .off → (s.tryStart.channel .entry).state = .running) := by
  let taken : State := ((s.setEntryRecord (.entering s.path.tagCounter)).mapPath fun p =>
    { p with tagCounter := p.tagCounter + 1 }).setUndecided
  have begun : s.begun = (taken.requestEntry .forward).mapPath fun p => { p with entryTimer := some 0 } :=
    State.startMove_of_runs (s := taken) runs .forward
  have filtered : s.begun.scan.filtered = false := (congrArg ScanUnit.filtered s.begun_changes.scan).trans clear
  obtain ⟨standing, direction, _, running⟩ := taken.requestEntry_facts .forward
  rw [s.tryStart_eq, if_pos may, filtered, begun]
  exact ⟨rfl, rfl, standing, direction, running⟩

theorem State.testDoze_of_record {s : State} {c : Container} (entry : s.path.entry = some c) :
    s.testDoze.host.dozeTimer = none ∧ s.testDoze.host.offered = false := by
  have busy : s.dozeCondition = false := by simp [State.dozeCondition, State.pathEmpty, entry]
  simp [State.testDoze, busy]

-- The state in which the aperture eye is acted on

/-- The aperture eye is blocked, the idle timer restarted, and VOUCHERS EXHAUSTED repeated (10 R168, R171). -/
def State.apertureMet (s : State) : State := (s.setAperture true).apertureEvent.reportExhausted

theorem exec_apertureBlocked {s : State} (clear : s.eyes.aperture = false) :
    exec .apertureBlocked s = .next s.apertureMet.apertureSeen := by
  simp only [exec, execApertureBlocked, clear, Bool.false_eq_true, if_false]
  rfl

theorem State.apertureMet_changes (s : State) :
    Changes [.eyes, .idleTimer, .notice .vouchersExhausted] s s.apertureMet :=
  ((Changes.eyes s _).andThen (State.apertureEvent_changes _) (rs := [.eyes, .idleTimer])).andThen
    (State.reportExhausted_changes _)

theorem State.apertureMet_eyes (s : State) : s.apertureMet.eyes = { s.eyes with aperture := true } :=
  (State.reportExhausted_changes _) .eyes (by simp)

theorem State.apertureMet_session (s : State) : s.apertureMet.session =
    if s.session.state = .opened then { s.session with idleTimer := some 0 } else s.session :=
  (State.reportExhausted_changes _).session

theorem State.apertureMet_session_state (s : State) : s.apertureMet.session.state = s.session.state := by
  rw [s.apertureMet_session]
  split <;> rfl

theorem State.apertureMet_sequence (s : State) : s.apertureMet.session.sequence = s.session.sequence := by
  rw [s.apertureMet_session]
  split <;> rfl

/-- VOUCHERS EXHAUSTED again, with the last number assigned (10 R171). -/
theorem State.apertureMet_exhausted {s : State} (idle : s.session.state = .idle)
    (last : s.session.sequence = Config.lastSequence) : s.apertureMet.noticeOf .vouchersExhausted =
      some (.vouchersExhausted (s.host.cfg.stationNumber * 1048576 + (s.session.sequence - 1))) := by
  have event : (s.setAperture true).apertureEvent.session = s.session := by
    simp [State.apertureEvent, State.mapSession, State.setAperture, idle]
  have exhausted : ((s.setAperture true).apertureEvent.exhausted
      && (s.setAperture true).apertureEvent.session.state == .idle) = true := by
    rw [State.exhausted, event]
    simp [idle, last]
  have raised : s.apertureMet = _ := if_pos exhausted
  rw [raised, State.raise_noticeOf (k := .vouchersExhausted) _ _ rfl, event]
  rfl

/-- In Active and in Doze the eye may make a return OFFERED in Active, then takes a container (06 R103, R110, 11 R186). -/
def State.beforeTaking (s : State) : State :=
  if s.host.rest = .doze then { s with
    host := { s.host with rest := .active }
    reader := { run := if s.online then .settling else .stopped, assembly := .idle } }
  else s.testOffered

theorem State.apertureSeen_awake {s : State} (awake : s.host.rest ≠ .deepRest) :
    s.apertureSeen = s.beforeTaking.tryStart.testDoze := by
  unfold State.apertureSeen State.beforeTaking
  cases rest : s.host.rest with
  | deepRest => exact absurd rest awake
  | doze => rfl
  | active => rfl

theorem State.apertureSeen_deepRest {s : State} (deep : s.host.rest = .deepRest) :
    s.apertureSeen = (s.exitDeepRest .aperture true).testDoze := by
  simp only [State.apertureSeen, deep]

theorem State.beforeTaking_changes (s : State) :
    Changes [.rest, .reader, .entryDrive, .entry, .entryTimer] s s.beforeTaking :=
  .ite (fun _ => (Changes.rest s .active).andThen (Changes.reader _ _)) fun _ => s.testOffered_changes.within

theorem State.beforeTaking_rest {s : State} (awake : s.host.rest ≠ .deepRest) : s.beforeTaking.host.rest = .active := by
  unfold State.beforeTaking
  split
  · rfl
  next notDoze =>
    have same : s.testOffered.host.rest = s.host.rest := s.testOffered_changes .rest (by simp)
    cases rest : s.host.rest with
    | deepRest => exact absurd rest awake
    | doze => exact absurd rest notDoze
    | active => exact same.trans rest

theorem State.testOffered_of_empty {s : State} (empty : s.path.entry = none) : s.testOffered = s := by
  simp [State.testOffered, empty]

/-- With the entry zone empty the path and the drives are as they were. -/
theorem State.beforeTaking_of_empty {s : State} (empty : s.path.entry = none) :
    s.beforeTaking.path = s.path ∧ s.beforeTaking.drives = s.drives := by
  unfold State.beforeTaking
  split
  · exact ⟨rfl, rfl⟩
  · rw [State.testOffered_of_empty empty]
    exact ⟨rfl, rfl⟩

-- What a blocked aperture eye does (O45)

section Blocked
variable {s : State}

theorem State.apertureSeen_of_not_mayStart (awake : s.host.rest ≠ .deepRest) (no : s.beforeTaking.mayStart = false) :
    Changes [.doze] s.beforeTaking s.apertureSeen := by
  rw [State.apertureSeen_awake awake, State.tryStart_of_not_mayStart no]
  exact State.testDoze_changes _

theorem State.apertureSeen_rest (s : State) : s.apertureSeen.host.rest = .active := by
  by_cases deep : s.host.rest = .deepRest
  · rw [State.apertureSeen_deepRest deep]
    exact ((State.testDoze_changes _) .rest (by simp)).trans (s.exitDeepRest_facts .aperture true).1
  · rw [State.apertureSeen_awake deep]
    exact ((State.testDoze_changes _) .rest (by simp)).trans
      (((State.tryStart_changes _) .rest (by simp)).trans (State.beforeTaking_rest deep))

/-- A container that may be taken starts a record (06 R103), and the doze timer does not run. -/
theorem State.apertureMet_takes (ready : s.readyToTake) (awake : s.host.rest ≠ .deepRest) :
    s.apertureMet.apertureSeen.path = { s.path with
        entry := some (.entering s.path.tagCounter), tagCounter := s.path.tagCounter + 1, entryTimer := some 0 }
      ∧ s.apertureMet.apertureSeen.session.undecided = true
      ∧ (s.apertureMet.apertureSeen.channel .entry).state = .running
      ∧ (s.apertureMet.apertureSeen.channel .entry).standing = true
      ∧ (s.apertureMet.apertureSeen.channel .entry).direction = .forward
      ∧ s.apertureMet.apertureSeen.host.dozeTimer = none ∧ s.apertureMet.apertureSeen.host.offered = false := by
  obtain ⟨synced, empty, free, open', off, _, clear⟩ := ready
  have met := s.apertureMet_changes
  have metPath := met.path
  have stillAwake : s.apertureMet.host.rest ≠ .deepRest := fun deep => awake ((met .rest (by simp)).symm.trans deep)
  have before := s.apertureMet.beforeTaking_changes
  obtain ⟨path, drives⟩ := State.beforeTaking_of_empty (s := s.apertureMet) (by rw [metPath]; exact empty)
  have channel : s.apertureMet.beforeTaking.channel .entry = s.channel .entry :=
    (congrArg (fun d : Drives => d.get .entry) drives).trans (met.channel .entry)
  have all := met.andThen before
    (rs := [.eyes, .idleTimer, .notice .vouchersExhausted, .rest, .reader, .entryDrive, .entry, .entryTimer])
  have session : s.apertureMet.beforeTaking.session = s.apertureMet.session := before.session
  have eyes : s.apertureMet.beforeTaking.eyes = { s.eyes with aperture := true } :=
    (before .eyes (by simp)).trans s.apertureMet_eyes
  have may : s.apertureMet.beforeTaking.mayStart = true := by
    refine State.mayStart_of_conditions (by rw [eyes]) ((all .member (by simp)).trans synced)
      (State.beforeTaking_rest stillAwake) (by rw [path, metPath]; exact empty)
      (by rw [path, metPath]; exact free) ?_
    rw [session, s.apertureMet_session_state, s.apertureMet_sequence]
    exact open'
  have runs : s.apertureMet.beforeTaking.entryRuns := by
    rw [State.entryRuns, channel, off]
    exact ⟨nofun, nofun⟩
  obtain ⟨taken, undecided, standing, direction, running⟩ := State.tryStart_takes may runs
    ((congrArg ScanUnit.filtered all.scan).trans clear)
  rw [path, metPath] at taken
  have tested := s.apertureMet.beforeTaking.tryStart.testDoze_changes
  have entry := congrArg Path.entry taken
  obtain ⟨timer, offered⟩ := State.testDoze_of_record entry
  rw [State.apertureSeen_awake stillAwake, tested.path, tested.session, tested.channel .entry]
  exact ⟨taken, congrArg Session.undecided undecided, running (by rw [channel]; exact off), standing, direction, timer,
    offered⟩

/-- A container that may not be taken is left, with the path and the drives as they are (06 R103). -/
theorem State.apertureSeen_leaves (awake : s.host.rest ≠ .deepRest) (empty : s.path.entry = none)
    (barred : s.member ≠ .synced ∨ s.session.state = .closing ∨ s.session.state = .closed
      ∨ (s.session.state = .idle ∧ s.session.sequence = Config.lastSequence)
      ∨ ∃ c, s.path.transfer = some c ∧ c.stage = .stuck) :
    s.apertureSeen.path = s.path ∧ s.apertureSeen.drives = s.drives := by
  obtain ⟨path, drives⟩ := State.beforeTaking_of_empty empty
  have before := s.beforeTaking_changes
  have member : s.beforeTaking.member = s.member := before .member (by simp)
  have no : s.beforeTaking.mayStart = false := State.mayStart_of_barred (by
    rw [member, before.session, path]
    exact barred.imp_right .inr)
  have done := State.apertureSeen_of_not_mayStart awake no
  exact ⟨done.path.trans path, done.drives.trans drives⟩

section Backing
variable {c : Container} (active : s.host.rest = .active) (entry : s.path.entry = some c)
  (backing : c.stage = .returning .backing)
include active

theorem State.beforeTaking_active : s.beforeTaking = s.testOffered := if_neg (by rw [active]; nofun)

include entry

theorem State.apertureSeen_waits (covered : s.scan.filtered = true) :
    s.apertureSeen.path = s.path ∧ s.apertureSeen.drives = s.drives := by
  have same : s.beforeTaking = s :=
    (State.beforeTaking_active active).trans (State.testOffered_waits (.inl covered))
  have done := State.apertureSeen_of_not_mayStart (by rw [active]; nofun)
    (by rw [same]; exact State.mayStart_of_record entry)
  rw [same] at done
  exact ⟨done.path, done.drives⟩

include backing

/-- A BACKING record is OFFERED where the scan eye is clear, and ENTRY stops (06 R110). -/
theorem State.apertureSeen_offers (blocked : s.eyes.aperture = true) (free : s.scan.filtered = false) :
    s.apertureSeen.path = { s.path with entry := some { c with stage := .returning .offered }, entryTimer := none }
      ∧ (s.apertureSeen.channel .entry).standing = false
      ∧ (s.apertureSeen.channel .entry).state.driven = false := by
  have offers : s.beforeTaking = _ :=
    (State.beforeTaking_active active).trans (State.testOffered_offers entry backing free blocked)
  have path : s.beforeTaking.path =
      { s.path with entry := some { c with stage := .returning .offered }, entryTimer := none } := by rw [offers]; rfl
  have stopped : s.beforeTaking.channel .entry = (s.channel .entry).withdraw := by
    rw [offers]
    exact s.channel_mapChannel .entry .withdraw
  have done := State.apertureSeen_of_not_mayStart (by rw [active]; nofun)
    (State.mayStart_of_record (congrArg Path.entry path))
  rw [done.path, done.channel .entry, stopped]
  exact ⟨path, (s.channel .entry).withdraw_state.1, (s.channel .entry).withdraw_not_driven⟩

end Backing

/-- VOUCHERS EXHAUSTED stands through what the aperture eye does in IDLE with the sequence exhausted (10 R171). -/
theorem State.apertureSeen_exhausted (idle : s.session.state = .idle) (last : s.session.sequence = Config.lastSequence) :
    s.apertureSeen.noticeOf .vouchersExhausted = s.noticeOf .vouchersExhausted := by
  refine congrArg NoticeRecord.detail ?_
  by_cases deep : s.host.rest = .deepRest
  · rw [State.apertureSeen_deepRest deep]
    exact ((State.exitDeepRest_changes _ _ _).andThen (State.testDoze_changes _) (rs := .doze :: wakeParts))
      (.notice .vouchersExhausted) (by simp)
  · have before := s.beforeTaking_changes
    have no : s.beforeTaking.mayStart = false := State.mayStart_of_barred (.inr (.inr (.inr (.inr (.inl
      ⟨by rw [before.session]; exact idle, by rw [before.session]; exact last⟩)))))
    exact (before.andThen (State.apertureSeen_of_not_mayStart deep no)
      (rs := [.doze, .rest, .reader, .entryDrive, .entry, .entryTimer])) (.notice .vouchersExhausted) (by simp)

/-- The code reader receiver runs again after Doze, in a station that is online (11 R186). -/
theorem State.apertureSeen_reader (doze : s.host.rest = .doze) :
    s.apertureSeen.reader.run = if s.member = .offline then .stopped else .settling := by
  have reader : s.apertureSeen.reader = s.beforeTaking.reader := by
    rw [State.apertureSeen_awake (by rw [doze]; nofun)]
    exact ((State.tryStart_changes _).andThen (State.testDoze_changes _) (rs := .doze :: startParts)) .reader (by simp)
  have returned : s.beforeTaking = _ := if_pos doze
  rw [reader, returned]
  by_cases offline : s.member = .offline <;> simp [State.online, offline]

/-- The aperture eye ends Deep Rest (11 R188). -/
theorem State.apertureSeen_wakes (deep : s.host.rest = .deepRest) :
    s.apertureSeen.member = .listening .waitingHome ∧ s.apertureSeen.scan.program = .watching
      ∧ s.apertureSeen.noticeOf .joinState = some (.joinState .listening s.member.state .aperture)
      ∧ s.apertureSeen.path = s.path
      ∧ (s.host.cfg.wakePeers = 1 → s.line.driver ≠ .faulted → s.apertureSeen.line.wake = .waiting)
      ∧ (s.host.cfg.wakePeers = 0 → s.apertureSeen.line.wake = s.line.wake) := by
  have tested := (s.exitDeepRest .aperture true).testDoze_changes
  obtain ⟨_, member, program, _, joinState⟩ := s.exitDeepRest_facts .aperture true
  have wake := congrArg Line.wake (s.exitDeepRest_line .aperture true)
  rw [State.apertureSeen_deepRest deep, tested.line, wake]
  exact ⟨(tested .member (by simp)).trans member, (tested .program (by simp)).trans program,
    (congrArg NoticeRecord.detail (tested (.notice .joinState) (by simp))).trans joinState,
    tested.path.trans (State.exitDeepRest_changes _ _ _).path, fun wakes sound => if_pos ⟨rfl, wakes, sound⟩,
    fun quiet => if_neg fun ⟨_, wakes, _⟩ => by rw [quiet] at wakes; contradiction⟩

/-- An aperture event restarts the idle timer of an OPEN session, and what follows leaves it (10 R168). -/
theorem State.apertureMet_idleTimer (opened : s.session.state = .opened) (awake : s.host.rest ≠ .deepRest) :
    s.apertureMet.apertureSeen.session.idleTimer = some 0 := by
  have rest : s.apertureMet.host.rest = s.host.rest := s.apertureMet_changes .rest (by simp)
  have session : s.apertureMet.beforeTaking.session = { s.session with idleTimer := some 0 } := by
    rw [s.apertureMet.beforeTaking_changes.session, s.apertureMet_session, if_pos opened]
  obtain ⟨u, started⟩ := State.tryStart_session (s := s.apertureMet.beforeTaking) (by
    rw [session]; simp [opened])
  rw [State.apertureSeen_awake (by rwa [rest]), (State.testDoze_changes _).session, started, session]

end Blocked

-- The aperture eye clear (06 R110)

/-- The aperture eye is clear and the idle timer restarted (10 R168). -/
def State.apertureLeft (s : State) : State := (s.setAperture false).apertureEvent

theorem exec_apertureClear {s : State} (blocked : s.eyes.aperture = true) :
    exec .apertureClear s = .next s.apertureLeft.takeBack.testDoze := by
  simp only [exec, execApertureClear, blocked, if_true]
  rfl

theorem State.apertureLeft_changes (s : State) : Changes [.eyes, .idleTimer] s s.apertureLeft :=
  (Changes.eyes s _).andThen (State.apertureEvent_changes _)

theorem State.takeBack_returns {s : State} {c : Container} (entry : s.path.entry = some c)
    (offered : c.stage = .returning .offered) : s.takeBack = s.returnContainer c := by
  simp only [State.takeBack, entry, offered, if_true]

theorem State.takeBack_waits {s : State} (other : ∀ c, s.path.entry = some c → c.stage ≠ .returning .offered) :
    s.takeBack = s := by
  unfold State.takeBack
  split
  next c entry => exact if_neg (other c entry)
  · rfl

theorem State.returnContainer_facts (s : State) (c : Container) : (s.returnContainer c).path.entry = none
    ∧ (s.returnContainer c).path.hold = s.path.hold ∧ (s.returnContainer c).path.transfer = s.path.transfer
    ∧ (s.returnContainer c).noticeOf .containerDone = some (.containerDone c.tag (.returned c.reject c.code)) :=
  ⟨rfl, rfl, rfl, State.raise_noticeOf (k := .containerDone) _ _ rfl⟩

/-- Settles O45. -/
theorem apertureEye : Obligations.ApertureEye := by
  intro s
  refine ⟨fun clear => ?_, fun blocked => ?_, fun blocked => ?_, fun clear => ?_⟩
  · have met := s.apertureMet_changes
    have rest : s.apertureMet.host.rest = s.host.rest := met .rest (by simp)
    have member : s.apertureMet.member = s.member := met .member (by simp)
    have eyes : s.apertureMet.apertureSeen.eyes = s.apertureMet.eyes := s.apertureMet.apertureSeen_changes .eyes (by simp)
    have config : s.apertureMet.host.cfg = s.host.cfg := met.config
    refine ⟨_, exec_apertureBlocked clear, eyes.trans s.apertureMet_eyes, State.apertureSeen_rest _,
      State.apertureMet_idleTimer, State.apertureMet_takes, fun awake empty barred => ?_, fun c active entry backing => ?_,
      fun idle last => ?_, fun doze => ?_, fun deep => ?_⟩
    · have leaves := State.apertureSeen_leaves (s := s.apertureMet) (by rwa [rest]) (by rwa [met.path]) (by
        rw [member, s.apertureMet_session_state, s.apertureMet_sequence, met.path]
        exact barred)
      rwa [met.path, met.drives] at leaves
    · have entryMet : s.apertureMet.path.entry = some c := by rwa [met.path]
      refine ⟨fun free => ?_, fun covered => ?_⟩
      · have offers := State.apertureSeen_offers (s := s.apertureMet) (by rwa [rest]) entryMet backing
          (by rw [s.apertureMet_eyes]) (by rwa [met.scan])
        rwa [met.path] at offers
      · have waits := State.apertureSeen_waits (s := s.apertureMet) (by rwa [rest]) entryMet (by rwa [met.scan])
        rwa [met.path, met.drives] at waits
    · rw [State.apertureSeen_exhausted (s.apertureMet_session_state.trans idle) (s.apertureMet_sequence.trans last)]
      exact State.apertureMet_exhausted idle last
    · rw [State.apertureSeen_reader (rest.trans doze), member]
    · have wakes := State.apertureSeen_wakes (rest.trans deep)
      rwa [member, met.path, config, met.line] at wakes
  · have left := s.apertureLeft_changes
    have tested := s.apertureLeft.takeBack.testDoze_changes
    have last := s.apertureLeft.takeBack_changes.andThen tested
      (rs := [.doze, .entryDrive, .entry, .entryTimer, .window, .notice .containerDone])
    refine ⟨_, exec_apertureClear blocked, last .eyes (by simp), fun opened => ?_, fun c entry offered => ?_, fun other => ?_⟩
    · have session : s.apertureLeft.session = { s.session with idleTimer := some 0 } := if_pos opened
      rw [last.session, session]
    · obtain ⟨empty, hold, transfer, notice⟩ := s.apertureLeft.returnContainer_facts c
      rw [tested.path, State.noticeOf, tested.notices, State.takeBack_returns (by rwa [left.path]) offered]
      exact ⟨empty, hold.trans (left .hold (by simp)), transfer.trans (left .transfer (by simp)), notice⟩
    · rw [tested.path, tested.drives, tested.notices, State.takeBack_waits (by rwa [left.path])]
      exact ⟨left.path, left.drives, left.notices⟩
  · simp only [exec, execApertureBlocked, blocked, if_true]
  · simp only [exec, execApertureClear, clear, Bool.false_eq_true, if_false]

end Machine
end Sys2Proof
end

section
/-! PROOF. O47, the transfer eye (06 R111) and the timers of the path (R104, R105, R109, R110). -/
set_option Elab.async false
namespace Sys2Proof
namespace Machine

-- HOLD and the transfer eye (06 R111)

/-- HOLD is asked for exactly while the hold queue holds a record and the transfer eye is clear (06 R111). -/
theorem State.settleHold_standing (s : State) :
    (s.settleHold.channel .hold).standing = (!s.path.hold.isEmpty && !s.eyes.transfer) := by
  have channel := s.channel_mapChannel .hold fun r =>
    if !s.path.hold.isEmpty && !s.eyes.transfer then (if r.standing then r else r.request)
    else (if r.standing then r.withdraw else r)
  refine (congrArg ChannelRecord.standing channel).trans ?_
  cases asked : !s.path.hold.isEmpty && !s.eyes.transfer with
  | true =>
    rw [if_pos rfl]
    split
    next standing => exact standing
    next => exact (s.channel .hold).request_facts.1
  | false =>
    rw [if_neg nofun]
    split
    next => exact (s.channel .hold).withdraw_state.1
    next idle => exact Bool.eq_false_iff.mpr idle

theorem State.settleHold_other (s : State) {d : Channel} (other : d ≠ .hold) : s.settleHold.channel d = s.channel d :=
  s.channel_mapChannel_other _ other

-- A jam of the entry zone (06 R114)

theorem State.jamEntry_facts (s : State) (c : Container) (cause : JamCause) (channel : Option Channel) :
    (s.jamEntry c cause channel).path.entry = some { c with stage := .stuck }
      ∧ (s.jamEntry c cause channel).noticeOf .jam = some (.jam c.tag .entryZone cause c.stage channel)
      ∧ ((s.jamEntry c cause channel).channel .entry).standing = false := by
  have ended := ((s.emptyEntry.stopEntry).setEntryRecord { c with stage := .stuck }).endReport_changes c.stage
  have all := ended.andThen (State.raise_changes _ (.jam c.tag .entryZone cause c.stage channel) (k := .jam))
    (rs := .notice .jam :: .undecided :: closeParts)
  refine ⟨congrArg Path.entry all.path, State.raise_noticeOf (k := .jam) _ _ rfl, ?_⟩
  have entry := (all.channel .entry).trans (s.emptyEntry.channel_mapChannel .entry .withdraw)
  exact (congrArg ChannelRecord.standing entry).trans (ChannelRecord.withdraw_state _).1

/-- The state in which the Session Unit is told of a jam (06 R114). -/
def State.jamming (s : State) (c : Container) : State :=
  (s.emptyEntry.stopEntry).setEntryRecord { c with stage := .stuck }

theorem State.jamEntry_session (s : State) (c : Container) (cause : JamCause) (channel : Option Channel) :
    (s.jamEntry c cause channel).session = ((s.jamming c).endReport c.stage).session := rfl

/-- A jam in ENTERING ends the undecided report (06 R116). -/
theorem State.jamEntry_undecided (s : State) {c : Container} (cause : JamCause) (channel : Option Channel)
    (entering : c.stage = .entering) : (s.jamEntry c cause channel).session.undecided = false := by
  rw [s.jamEntry_session, entering]
  exact (s.jamming c).clearUndecided_facts.1

/-- A jam in WAITING HOLD loses a pending container of an OPEN session (06 R114, 10 R167). -/
theorem State.jamEntry_session_opened {s : State} {c : Container} (cause : JamCause) (channel : Option Channel)
    (waiting : c.stage = .waitingHold) (opened : s.session.state = .opened) :
    (s.jamEntry c cause channel).session = { s.session with pending := s.session.pending - 1 } := by
  have goesOn := State.endClose_of_not_closing
    (s := (s.jamming c).mapSession fun n => { n with pending := n.pending - 1 }) fun closing => by
      have state : s.session.state = .closing := closing
      rw [opened] at state
      contradiction
  rw [s.jamEntry_session, waiting]
  exact congrArg State.session goesOn

theorem State.discardEntry_facts (s : State) : s.discardEntry.path.entry = none
    ∧ s.discardEntry.session.undecided = false ∧ (s.discardEntry.channel .entry).standing = false := by
  have cleared := s.stopEntry.emptyEntry.clearUndecided_changes
  have entry := (cleared.channel .entry).trans (s.channel_mapChannel .entry .withdraw)
  exact ⟨cleared .entry (by simp), (State.clearUndecided_facts _).1,
    (congrArg ChannelRecord.standing entry).trans (ChannelRecord.withdraw_state _).1⟩

-- EntryTime (06 R104, R109, R110)

/-- EntryTime has stopped. -/
def State.entryTimerStopped (s : State) : State := s.mapPath fun p => { p with entryTimer := none }

theorem exec_entryTimeExpired {s : State} {c : Container} {n : Nat} (runs : s.path.entryTimer = some n)
    (entry : s.path.entry = some c) :
    exec .entryTimeExpired s = .next (s.entryTimerStopped.entryTimeout c).tryStart.testDoze := by
  have record : s.entryTimerStopped.path.entry = some c := entry
  simp only [exec, execEntryTimeExpired, runs, Option.isSome_some, if_true]
  rw [← State.entryTimerStopped, record]

/-- Where nothing is taken afterwards, what the timer did stands but for the doze timer. -/
theorem State.tryStart_testDoze {s t : State} (same : s = t) (no : t.mayStart = false) :
    Changes [.doze] t s.tryStart.testDoze := by
  rw [same, State.tryStart_of_not_mayStart no]
  exact State.testDoze_changes _

section EntryTime
variable {s : State} {c : Container}

theorem State.entryTimeout_entering_clear (entering : c.stage = .entering) (clear : s.eyes.aperture = false) :
    s.entryTimeout c = s.discardEntry := by
  simp only [State.entryTimeout, entering, clear, Bool.false_eq_true, if_false]

theorem State.entryTimeout_entering_blocked (entering : c.stage = .entering) (blocked : s.eyes.aperture = true) :
    s.entryTimeout c = s.jamEntry c .entryTimeout none := by
  simp only [State.entryTimeout, entering, blocked, if_true]

theorem State.entryTimeout_waitingHold (waiting : c.stage = .waitingHold) :
    s.entryTimeout c = s.jamEntry c .handoverTimeout none := by
  simp only [State.entryTimeout, waiting]

theorem State.entryTimeout_backing_covered (backing : c.stage = .returning .backing) (covered : s.scan.filtered = true) :
    s.entryTimeout c = s.jamEntry c .returnTimeout none := by
  simp only [State.entryTimeout, backing, covered, if_true]

theorem State.entryTimeout_backing_clear (backing : c.stage = .returning .backing) (free : s.scan.filtered = false)
    (clear : s.eyes.aperture = false) : s.entryTimeout c = s.returnContainer c := by
  simp only [State.entryTimeout, backing, free, clear, Bool.false_eq_true, if_false]

end EntryTime

-- ReadTime (06 R105)

theorem exec_readTimeExpired {s : State} {n : Nat} (runs : s.path.readTimer = some n) :
    exec .readTimeExpired s = .next s.closeWindow.testClassify := by
  simp only [exec, execReadTimeExpired, runs, Option.isSome_some, if_true]

theorem State.testClassify_of_incomplete {s : State} (none : s.scan.record = .none) : s.testClassify = s := by
  unfold State.testClassify
  split
  · exact if_neg fun ⟨_, _, complete⟩ => by rw [none] at complete; contradiction
  · rfl

theorem State.testClassify_of_complete {s : State} {c : Container} (entry : s.path.entry = some c)
    (scanning : c.stage = .scanning) (closed : s.path.window = false) (complete : s.scan.record.isSome = true) :
    s.testClassify = s.classify c := by
  simp only [State.testClassify, entry, scanning, closed, complete, and_self, if_true]

/-- The first test that fails rejects the record (06 R107). -/
theorem State.classify_rejects {s : State} {c : Container} {r : RejectReason}
    (fails : (s.setEntryRecord { c with stage := .classifying }).firstReject { c with stage := .classifying } = some r) :
    s.classify c = (s.setEntryRecord { c with stage := .classifying }).reject { c with stage := .classifying } r := by
  simp only [State.classify, fails]

/-- Settles O47. -/
theorem transferEyeAndPathTimers : Obligations.TransferEyeAndPathTimers := by
  intro s
  refine ⟨fun clear => ?_, fun blocked => ?_, fun c n runs entry => ?_, fun c n runs entry scanning => ⟨fun open' => ?_,
    fun complete noCode ready => ?_⟩⟩
  · have done : exec .transferEyeBlocked s = .next ({ s with eyes := { s.eyes with transfer := true } } : State).settleHold := by
      simp only [exec, execTransferEyeBlocked, clear, Bool.false_eq_true, if_false]
    have standing := ({ s with eyes := { s.eyes with transfer := true } } : State).settleHold_standing
    exact ⟨_, done, rfl, rfl, standing.trans (Bool.and_false _), fun d other =>
      ({ s with eyes := { s.eyes with transfer := true } } : State).settleHold_other other⟩
  · have done : exec .transferEyeClear s = .next
        (({ s with eyes := { s.eyes with transfer := false } } : State).mapPath fun p =>
          { p with cleared := true }).settleHold := by
      simp only [exec, execTransferEyeClear, blocked, if_true]
    have standing := (({ s with eyes := { s.eyes with transfer := false } } : State).mapPath fun p =>
      { p with cleared := true }).settleHold_standing
    exact ⟨_, done, rfl, rfl, standing.trans (Bool.and_true _), fun d other =>
      (({ s with eyes := { s.eyes with transfer := false } } : State).mapPath fun p =>
        { p with cleared := true }).settleHold_other other⟩
  · have all := (s.entryTimerStopped.entryTimeout_changes c).andThen (State.tryStart_changes _)
      (rs := .notice .containerDone :: startParts)
    have done := all.andThen (State.testDoze_changes _) (rs := .doze :: .notice .containerDone :: startParts)
    refine ⟨_, exec_entryTimeExpired runs entry, done .hold (by simp), fun entering clear => ?_, fun entering blocked => ?_,
      fun waiting => ?_, fun backing covered => ?_, fun backing free clear => ?_⟩
    · obtain ⟨empty, undecided, standing⟩ := s.entryTimerStopped.discardEntry_facts
      have kept := s.entryTimerStopped.discardEntry_changes
      have discards := State.entryTimeout_entering_clear (s := s.entryTimerStopped) entering clear
      have eyes : s.entryTimerStopped.discardEntry.eyes = s.eyes := kept .eyes (by simp)
      have last := State.tryStart_testDoze discards (State.mayStart_of_clear (by rw [eyes]; exact clear))
      have notices := ((s.entryTimerStopped.stopEntry_changes.andThen (State.emptyEntry_changes _)
        (rs := [.entryDrive, .entry, .entryTimer, .window])).andThen (State.clearUndecided_changes _)
        (rs := [.entryDrive, .entry, .entryTimer, .window] ++ .undecided :: closeParts)).sameNoticesBut
        [.sessionClosed, .vouchersExhausted]
      rw [last.path, last.session, last.channel .entry]
      refine ⟨empty, undecided, standing, fun k other => ?_⟩
      rw [last.notices]
      exact notices k other
    · obtain ⟨stuck, notice, standing⟩ := s.entryTimerStopped.jamEntry_facts c .entryTimeout none
      have last := State.tryStart_testDoze (State.entryTimeout_entering_blocked (s := s.entryTimerStopped) entering blocked)
        (State.mayStart_of_record stuck)
      rw [last.path, last.session, last.channel .entry, State.noticeOf, last.notices]
      rw [entering] at notice
      exact ⟨stuck, notice, s.entryTimerStopped.jamEntry_undecided .entryTimeout none entering, standing⟩
    · obtain ⟨stuck, notice, _⟩ := s.entryTimerStopped.jamEntry_facts c .handoverTimeout none
      have last := State.tryStart_testDoze (State.entryTimeout_waitingHold (s := s.entryTimerStopped) waiting)
        (State.mayStart_of_record stuck)
      rw [last.path, last.session, State.noticeOf, last.notices]
      rw [waiting] at notice
      exact ⟨stuck, notice, fun opened =>
        State.jamEntry_session_opened (s := s.entryTimerStopped) .handoverTimeout none waiting opened⟩
    · obtain ⟨stuck, notice, _⟩ := s.entryTimerStopped.jamEntry_facts c .returnTimeout none
      have last := State.tryStart_testDoze (State.entryTimeout_backing_covered (s := s.entryTimerStopped) backing covered)
        (State.mayStart_of_record stuck)
      rw [last.path, State.noticeOf, last.notices]
      rw [backing] at notice
      exact ⟨stuck, notice⟩
    · obtain ⟨empty, _, _, notice⟩ := s.entryTimerStopped.returnContainer_facts c
      have last := State.tryStart_testDoze (State.entryTimeout_backing_clear (s := s.entryTimerStopped) backing free clear)
        (State.mayStart_of_clear clear)
      rw [last.path, State.noticeOf, last.notices]
      exact ⟨empty, notice⟩
  · rw [exec_readTimeExpired runs, State.testClassify_of_incomplete (s := s.closeWindow) open']
    rfl
  · have classifies := State.testClassify_of_complete (s := s.closeWindow) entry scanning rfl complete
    have rejects := State.classify_rejects (s := s.closeWindow) (c := c) (r := .noCode) (by
      simp [State.firstReject, noCode])
    have runsStill : (s.closeWindow.setEntryRecord { c with stage := .classifying }).entryRuns := ready
    obtain ⟨record, _, _, _, window⟩ := State.reject_kept runsStill { c with stage := .classifying } .noCode
    have rejected := State.reject_entry runsStill { c with stage := .classifying } .noCode
    rw [← rejects, ← classifies] at rejected record window
    exact ⟨_, _, exec_readTimeExpired runs, rejected, rfl, rfl, window, record⟩

end Machine
end Sys2Proof
end

section
/-! PROOF. O46, the scan eye behind its filter (07 R124, R125, 06 R104, R106, R109, R110). -/
set_option Elab.async false
namespace Sys2Proof
namespace Machine

-- A blocking of the scan eye (07 R124, 06 R104)

theorem State.scanEyeSeen_of_no_entering {s : State} (other : ∀ c, s.path.entry = some c → c.stage ≠ .entering) :
    s.scanEyeSeen = s := by
  unfold State.scanEyeSeen
  split
  next c entry => exact if_neg (other c entry)
  · rfl

theorem State.scanEyeSeen_entering {s : State} {c : Container} (entry : s.path.entry = some c)
    (entering : c.stage = .entering) : s.scanEyeSeen = s.enterScanning c := by
  simp only [State.scanEyeSeen, entry, entering, if_true]

theorem State.requestScan_watching {s : State} (watching : s.scan.program = .watching) (free : s.scan.record = none) :
    s.requestScan.scan = { s.scan with program := .scanning, overrunPending := false } := by
  simp [State.requestScan, watching, free]

/-- A record enters SCANNING: ENTRY and EntryTime stop, and the code window opens (06 R104, R105). -/
theorem State.enterScanning_facts (s : State) (c : Container) :
    (s.enterScanning c).path = { s.path with
        entry := some { c with stage := .scanning }, entryTimer := none, window := true, readTimer := some 0 }
      ∧ (s.enterScanning c).scan.filtered = s.scan.filtered ∧ ((s.enterScanning c).channel .entry).standing = false
      ∧ (s.scan.program = .watching → s.scan.record = none →
        (s.enterScanning c).scan.program = .scanning ∧ (s.enterScanning c).scan.overrunPending = false) := by
  let opened : State := (s.stopEntry.setEntryRecord { c with stage := .scanning }).mapPath fun p =>
    { p with entryTimer := none, window := true, readTimer := some 0 }
  have asked := opened.requestScan_changes
  have entry := (asked.channel .entry).trans (s.channel_mapChannel .entry .withdraw)
  refine ⟨asked.path, congrArg Prod.fst (asked .filter (by simp)), ?_, fun watching free => ?_⟩
  · exact (congrArg ChannelRecord.standing entry).trans (ChannelRecord.withdraw_state _).1
  · have scan := State.requestScan_watching (s := opened) watching free
    exact ⟨congrArg ScanUnit.program scan, congrArg ScanUnit.overrunPending scan⟩

theorem exec_scanEyeBlocked {s : State} (clear : s.eyes.scan = false) (online : s.online = true) :
    exec .scanEyeBlocked s = .next (s.setScanEye true).filterBlocked := by
  simp only [exec, execScanEyeBlocked, clear, online, Bool.false_eq_true, if_false, if_true]

theorem State.filterBlocked_passes {s : State} (noGap : s.scan.gap = none) (free : s.scan.filtered = false) :
    s.filterBlocked = (s.mapScan fun u => { u with filtered := true }).scanEyeSeen := by
  simp [State.filterBlocked, noGap, free]

theorem State.filterBlocked_triggers {s : State} {n : Nat} (gap : s.scan.gap = some n) :
    s.filterBlocked = (s.mapScan fun u => { u with gap := none }).trigger := by
  simp [State.filterBlocked, gap]

/-- A trigger marks the scan in progress, or the held record, and nothing else (07 R125). -/
theorem State.trigger_facts (s : State) :
    s.trigger = { s with scan := s.trigger.scan }
      ∧ (s.scan.program = .scanning → s.trigger.scan = { s.scan with overrunPending := true })
      ∧ (∀ r, s.scan.program ≠ .scanning → s.scan.record = some r →
        s.trigger.scan = { s.scan with record := some { r with overrun := true } })
      ∧ (s.scan.program ≠ .scanning → s.scan.record = none → s.trigger.scan = s.scan) := by
  by_cases scanning : s.scan.program = .scanning
  · simp [State.trigger, scanning]
  · cases held : s.scan.record <;> simp [State.trigger, scanning, held]

-- The end of the gap time (07 R124)

/-- The clearing has been passed on. -/
def State.gapPassed (s : State) : State := s.mapScan fun u => { u with gap := none, filtered := false }

theorem exec_scanGapExpired {s : State} {n : Nat} (gap : s.scan.gap = some n) :
    exec .scanGapExpired s = .next s.gapPassed.scanEyeGone.tryStart.testDoze := by
  simp only [exec, execScanGapExpired, gap, Option.isSome_some, if_true]
  rfl

theorem State.scanGapExpired_kept (s : State) : s.gapPassed.scanEyeGone.tryStart.testDoze.eyes = s.eyes
    ∧ s.gapPassed.scanEyeGone.tryStart.testDoze.scan.filtered = false
    ∧ s.gapPassed.scanEyeGone.tryStart.testDoze.scan.gap = none := by
  have all := (s.gapPassed.scanEyeGone_changes.andThen (State.tryStart_changes _)
    (rs := goneParts ++ startParts)).andThen (State.testDoze_changes _) (rs := .doze :: (goneParts ++ startParts))
  have filter := all .filter (by simp)
  exact ⟨all .eyes (by simp), congrArg Prod.fst filter, congrArg Prod.snd filter⟩

theorem State.scanEyeGone_of_empty {s : State} (empty : s.path.entry = none) : s.scanEyeGone = s := by
  simp only [State.scanEyeGone, empty]

-- A pull-back (06 R106, 08 R150)

theorem State.scanEyeGone_pullBack {s : State} {c : Container} (entry : s.path.entry = some c)
    (stage : c.stage = .scanning ∨ c.stage = .classifying) : s.scanEyeGone = s.pullBack c := by
  rcases stage with scanning | classifying
  · simp only [State.scanEyeGone, entry, scanning]
  · simp only [State.scanEyeGone, entry, classifying]

/-- The scan is abandoned, the code window closed and the lookup withdrawn (06 R106). -/
def State.pulled (s : State) : State := s.closeWindow.abandonScan.withdrawLookup

theorem State.pullBack_eq (s : State) (c : Container) :
    s.pullBack c = if s.eyes.aperture then s.pulled.reject c .doubleEntry else s.pulled.discardEntry := rfl

theorem ArticleUnit.withdrawLookup_facts (u : ArticleUnit) :
    (∀ w, u.lookup = .walking w → u.withdrawLookup.lookup = .walking { w with withdrawn := true })
      ∧ (∀ q t, u.lookup = .querying q t → u.withdrawLookup.lookup = .idle) ∧ u.withdrawLookup.waiting = none := by
  cases lookup : u.lookup <;> simp [ArticleUnit.withdrawLookup, lookup]

theorem State.checkEntryDrive_record {s : State} {c : Container} (entry : s.path.entry = some c) :
    ∃ d, s.checkEntryDrive.path.entry = some d := by
  unfold State.checkEntryDrive
  split
  · rw [entry]
    exact ⟨_, (s.jamEntry_facts c .drive (some .entry)).1⟩
  · exact ⟨c, entry⟩

theorem State.checkEntryDrive_window {s : State} (closed : s.path.window = false) :
    s.checkEntryDrive.path.window = false := by
  unfold State.checkEntryDrive
  split
  · split
    next c _ =>
      have ended := ((s.emptyEntry.stopEntry).setEntryRecord { c with stage := .stuck }).endReport_changes c.stage
      exact congrArg Path.window ended.path
    · exact closed
  · exact closed

/-- A rejected record stays in the entry zone, also where its move is jammed (06 R104, R110). -/
theorem State.reject_record (s : State) (c : Container) (r : RejectReason) :
    (∃ d, (s.reject c r).path.entry = some d) ∧ (s.reject c r).path.window = false
      ∧ (s.reject c r).scan.record = none ∧ (s.reject c r).path.hold = s.path.hold
      ∧ (s.reject c r).article = s.article := by
  obtain ⟨d, moved⟩ := State.checkEntryDrive_record (s := ((s.rejecting c r).requestEntry .reverse).mapPath fun p =>
    { p with entryTimer := some 0 }) (s.rejecting_entry c r)
  have closed : (s.rejecting c r).path.window = false := congrArg Prod.fst ((s.emptyEntry.setEntryRecord
    { c with stage := .returning .backing, reject := some r }).dropScan.clearUndecided_changes .window (by simp))
  have window := State.checkEntryDrive_window (s := ((s.rejecting c r).requestEntry .reverse).mapPath fun p =>
    { p with entryTimer := some 0 }) closed
  have tested := ((s.rejecting c r).startMove .reverse).testOffered_changes
  have all := ((s.rejecting c r).startMove_changes .reverse).andThen tested (rs := jamParts)
  have rejecting := s.rejecting_changes c r
  rw [s.reject_eq]
  refine ⟨?_, (congrArg Prod.fst (tested .window (by simp))).trans window, ?_,
    (all .hold (by simp)).trans (rejecting .hold (by simp)), all.article.trans rejecting.article⟩
  · by_cases offers : ((s.rejecting c r).startMove .reverse).scan.filtered = true
        ∨ ((s.rejecting c r).startMove .reverse).eyes.aperture = false
    · rw [State.testOffered_waits offers]
      exact ⟨d, moved⟩
    · unfold State.testOffered
      have record : ((s.rejecting c r).startMove .reverse).path.entry = some d := moved
      rw [record]
      dsimp only
      split
      · exact ⟨_, rfl⟩
      · exact ⟨d, record⟩
  · rw [all.scan, s.rejecting_scan]

/-- What a pull-back leaves (06 R106). -/
theorem State.pullBack_facts (s : State) (c : Container) :
    (s.pullBack c).mayStart = false ∧ (s.pullBack c).path.window = false ∧ (s.pullBack c).scan.record = none
      ∧ (s.pullBack c).path.hold = s.path.hold ∧ (s.pullBack c).article = s.article.withdrawLookup := by
  rw [s.pullBack_eq]
  cases aperture : s.eyes.aperture with
  | true =>
    obtain ⟨⟨d, entry⟩, window, record, hold, article⟩ := s.pulled.reject_record c .doubleEntry
    exact ⟨State.mayStart_of_record entry, window, record, hold, article⟩
  | false =>
    have discarded := s.pulled.discardEntry_changes
    have cleared := s.pulled.stopEntry.emptyEntry.clearUndecided_changes
    have eyes : s.pulled.discardEntry.eyes = s.eyes := discarded .eyes (by simp)
    exact ⟨State.mayStart_of_clear (by simp [eyes, aperture]), congrArg Prod.fst (cleared .window (by simp)),
      congrArg ScanUnit.record discarded.scan, discarded .hold (by simp), discarded.article⟩

-- The handover to the hold queue (06 R109)

theorem State.scanEyeGone_joinHold {s : State} {c : Container} (entry : s.path.entry = some c)
    (waiting : c.stage = .waitingHold) (moving : s.path.entryTimer.isSome = true) : s.scanEyeGone = s.joinHold c := by
  simp only [State.scanEyeGone, entry, waiting, moving, if_true]

theorem State.joinHold_facts (s : State) (c : Container) :
    (s.joinHold c).path = { s.path with
        entry := none, entryTimer := none, readTimer := none, window := false
        hold := s.path.hold ++ [{ c with stage := .claiming, link := .none, holdWait := some 0 }] }
      ∧ ((s.joinHold c).channel .hold).standing = !s.eyes.transfer
      ∧ (s.joinHold c).channel .entry = (s.channel .entry).withdraw := by
  let joined : State := (s.stopEntry.emptyEntry).mapPath fun p =>
    { p with hold := p.hold ++ [{ c with stage := .claiming, link := .none, holdWait := some 0 }] }
  have standing := joined.settleHold_standing
  have nonempty : joined.path.hold.isEmpty = false := by
    simp [joined, State.mapPath]
  rw [nonempty] at standing
  exact ⟨rfl, standing, (joined.settleHold_other (d := .entry) nofun).trans (s.channel_mapChannel .entry .withdraw)⟩

/-- The conditions for a new record after a handover are those before it, but for the record of the entry zone (06 R103). -/
theorem State.joinHold_bars {s : State} (c : Container) (barred : s.eyes.aperture = false ∨ s.member ≠ .synced
    ∨ s.host.rest ≠ .active ∨ s.session.state = .closing ∨ s.session.state = .closed) :
    (s.joinHold c).mayStart = false := by
  have kept := s.joinHold_changes c
  have eyes : (s.joinHold c).eyes = s.eyes := kept .eyes (by simp)
  have member : (s.joinHold c).member = s.member := kept .member (by simp)
  have rest : (s.joinHold c).host.rest = s.host.rest := kept .rest (by simp)
  rcases barred with clear | barred
  · exact State.mayStart_of_clear (by rw [eyes, clear])
  · refine State.mayStart_of_barred ?_
    rw [member, rest, kept.session]
    exact barred.imp_right fun h => h.imp_right fun h => h.imp_right .inl

theorem State.joinHold_allows {s : State} (c : Container) (blocked : s.eyes.aperture = true) (synced : s.member = .synced)
    (active : s.host.rest = .active) (opened : s.session.state = .opened)
    (free : ∀ d, s.path.transfer = some d → d.stage ≠ .stuck) : (s.joinHold c).mayStart = true := by
  have kept := s.joinHold_changes c
  have eyes : (s.joinHold c).eyes = s.eyes := kept .eyes (by simp)
  have transfer : (s.joinHold c).path.transfer = s.path.transfer := kept .transfer (by simp)
  exact State.mayStart_of_conditions (by rw [eyes, blocked]) ((kept .member (by simp)).trans synced)
    ((kept .rest (by simp)).trans active) (congrArg Path.entry (s.joinHold_facts c).1) (by rw [transfer]; exact free)
    (.inl (by rw [kept.session]; exact opened))

theorem ChannelRecord.withdraw_runs {r : ChannelRecord} (runs : r.state ≠ .coolOff ∧ r.state ≠ .faulted) :
    r.withdraw.state ≠ .coolOff ∧ r.withdraw.state ≠ .faulted := by
  rw [r.withdraw_state.2]
  split
  · exact ⟨nofun, nofun⟩
  · exact runs

theorem State.scanEyeGone_backing {s : State} {c : Container} (entry : s.path.entry = some c)
    (backing : c.stage = .returning .backing) : s.scanEyeGone = s.testOffered := by
  simp only [State.scanEyeGone, entry, backing]

-- What the end of the gap time does by the record of the entry zone (07 R124)

section Gap
variable {s : State} {c : Container} (entry : s.path.entry = some c)
include entry

/-- A pull-back withdraws the lookup and closes the window, and nothing is taken after it (06 R106). -/
theorem State.gapExpired_pullBack (stage : c.stage = .scanning ∨ c.stage = .classifying) :
    Changes [.doze] (s.gapPassed.pullBack c) s.gapPassed.scanEyeGone.tryStart.testDoze :=
  State.tryStart_testDoze (State.scanEyeGone_pullBack (s := s.gapPassed) entry stage) (s.gapPassed.pullBack_facts c).1

theorem State.gapExpired_withdraws (stage : c.stage = .scanning ∨ c.stage = .classifying) :
    let t := s.gapPassed.scanEyeGone.tryStart.testDoze
    (∀ w, s.article.lookup = .walking w → t.article.lookup = .walking { w with withdrawn := true })
      ∧ (∀ q u, s.article.lookup = .querying q u → t.article.lookup = .idle)
      ∧ t.article.waiting = none ∧ t.path.window = false ∧ t.scan.record = none ∧ t.path.hold = s.path.hold := by
  intro t
  have last := State.gapExpired_pullBack entry stage
  obtain ⟨_, window, record, hold, article⟩ := s.gapPassed.pullBack_facts c
  obtain ⟨walking, querying, waiting⟩ := s.article.withdrawLookup_facts
  have articleNow : t.article = s.article.withdrawLookup := last.article.trans article
  rw [articleNow]
  exact ⟨walking, querying, waiting, (congrArg Path.window last.path).trans window,
    (congrArg ScanUnit.record last.scan).trans record, (congrArg Path.hold last.path).trans hold⟩

theorem State.gapExpired_discards (stage : c.stage = .scanning ∨ c.stage = .classifying) (clear : s.eyes.aperture = false) :
    s.gapPassed.scanEyeGone.tryStart.testDoze.path.entry = none := by
  have discards : s.gapPassed.pullBack c = s.gapPassed.pulled.discardEntry := by
    rw [State.pullBack_eq]
    exact if_neg (by rw [show s.gapPassed.eyes = s.eyes from rfl, clear]; nofun)
  rw [(State.gapExpired_pullBack entry stage).path, discards]
  exact s.gapPassed.pulled.discardEntry_facts.1

theorem State.gapExpired_offers (stage : c.stage = .scanning ∨ c.stage = .classifying) (blocked : s.eyes.aperture = true)
    (runs : s.entryRuns) : s.gapPassed.scanEyeGone.tryStart.testDoze.path.entry =
      some { c with stage := .returning .offered, reject := some .doubleEntry } := by
  have rejects : s.gapPassed.pullBack c = s.gapPassed.pulled.reject c .doubleEntry := by
    rw [State.pullBack_eq]
    exact if_pos blocked
  rw [(State.gapExpired_pullBack entry stage).path, rejects]
  exact State.reject_offered (s := s.gapPassed.pulled) runs c .doubleEntry rfl blocked

/-- The handover (06 R109): the record joins the hold queue, and nothing is taken that may not be. -/
theorem State.gapExpired_joins (waiting : c.stage = .waitingHold) (moving : s.path.entryTimer.isSome = true) :
    let t := s.gapPassed.scanEyeGone.tryStart.testDoze
    t.path.hold = s.path.hold ++ [{ c with stage := .claiming, link := .none, holdWait := some 0 }]
      ∧ (t.channel .hold).standing = (!s.eyes.transfer)
      ∧ ((s.gapPassed.joinHold c).mayStart = false → t.path.entry = none ∧ (t.channel .entry).standing = false) := by
  intro t
  have gone := State.scanEyeGone_joinHold (s := s.gapPassed) entry waiting moving
  obtain ⟨path, hold, entryChannel⟩ := s.gapPassed.joinHold_facts c
  have after := (State.tryStart_changes s.gapPassed.scanEyeGone).andThen (State.testDoze_changes _) (rs := .doze :: startParts)
  have holdNow : t.path.hold = (s.gapPassed.joinHold c).path.hold := gone ▸ after .hold (by simp)
  have channelNow : t.channel .hold = (s.gapPassed.joinHold c).channel .hold := gone ▸ after.channel .hold
  refine ⟨holdNow.trans (congrArg Path.hold path), (congrArg ChannelRecord.standing channelNow).trans hold, fun no => ?_⟩
  have last := State.tryStart_testDoze gone no
  exact ⟨(congrArg Path.entry last.path).trans (congrArg Path.entry path),
    (congrArg ChannelRecord.standing (last.channel .entry)).trans
      ((congrArg ChannelRecord.standing entryChannel).trans (ChannelRecord.withdraw_state _).1)⟩

/-- After a handover a container at the aperture is taken at once (06 R103). -/
theorem State.gapExpired_takes (waiting : c.stage = .waitingHold) (moving : s.path.entryTimer.isSome = true)
    (runs : s.entryRuns) (may : (s.gapPassed.joinHold c).mayStart = true) :
    let t := s.gapPassed.scanEyeGone.tryStart.testDoze
    t.path.entry = some (.entering s.path.tagCounter) ∧ t.path.tagCounter = s.path.tagCounter + 1
      ∧ t.path.entryTimer = some 0 := by
  intro t
  have gone := State.scanEyeGone_joinHold (s := s.gapPassed) entry waiting moving
  obtain ⟨path, _, entryChannel⟩ := s.gapPassed.joinHold_facts c
  have runsStill : (s.gapPassed.joinHold c).entryRuns := by
    rw [State.entryRuns, entryChannel]
    exact ChannelRecord.withdraw_runs runs
  have filtered : (s.gapPassed.joinHold c).scan.filtered = false := rfl
  have taken := (State.tryStart_takes may runsStill filtered).1
  have last : t.path = (s.gapPassed.joinHold c).tryStart.path := gone ▸ (State.testDoze_changes _).path
  have tag : (s.gapPassed.joinHold c).path.tagCounter = s.path.tagCounter :=
    (congrArg Path.tagCounter path).trans rfl
  rw [last, taken, tag]
  exact ⟨rfl, rfl, rfl⟩

/-- A BACKING record at the clearing of the scan eye is OFFERED where the aperture eye is blocked (06 R110). -/
theorem State.gapExpired_backing (backing : c.stage = .returning .backing) :
    let t := s.gapPassed.scanEyeGone.tryStart.testDoze
    (s.eyes.aperture = true → t.path = { s.path with
          entry := some { c with stage := .returning .offered }, entryTimer := none }
        ∧ (t.channel .entry).standing = false ∧ (t.channel .entry).state.driven = false)
      ∧ (s.eyes.aperture = false → t.path = s.path ∧ t.drives = s.drives) := by
  intro t
  have gone := State.scanEyeGone_backing (s := s.gapPassed) entry backing
  refine ⟨fun blocked => ?_, fun clear => ?_⟩
  · have offers := gone.trans (State.testOffered_offers (s := s.gapPassed) entry backing rfl blocked)
    have last := State.tryStart_testDoze offers (State.mayStart_of_record rfl)
    rw [last.path, last.channel .entry]
    have channel := s.gapPassed.channel_mapChannel .entry .withdraw
    refine ⟨rfl, ?_, ?_⟩
    · exact (congrArg ChannelRecord.standing channel).trans (ChannelRecord.withdraw_state _).1
    · exact (congrArg (fun r : ChannelRecord => r.state.driven) channel).trans (ChannelRecord.withdraw_not_driven _)
  · have waits := gone.trans (State.testOffered_waits (s := s.gapPassed) (.inr clear))
    have last := State.tryStart_testDoze waits (State.mayStart_of_record entry)
    exact ⟨last.path, last.drives⟩

end Gap

/-- Settles O46. -/
theorem scanEye : Obligations.ScanEye := by
  intro s n
  refine ⟨fun clear online noGap free other => ?_, fun c clear online noGap free entry entering => ?_,
    fun clear online gap => ?_, fun covered online filtered => ?_, fun offline => ⟨?_, ?_⟩, fun gap => ?_,
    fun c gap clear entry stage => ?_, fun c gap blocked runs entry stage => ?_, fun c gap entry waiting moving => ?_,
    fun c gap entry backing => ?_, fun noGap => ?_⟩
  · rw [exec_scanEyeBlocked clear online, State.filterBlocked_passes (s := s.setScanEye true) noGap free,
      State.scanEyeSeen_of_no_entering (s := (s.setScanEye true).mapScan fun u => { u with filtered := true }) other]
    rfl
  · let passed : State := (s.setScanEye true).mapScan fun u => { u with filtered := true }
    obtain ⟨path, filtered, standing, scan⟩ := passed.enterScanning_facts c
    have done : exec .scanEyeBlocked s = .next (passed.enterScanning c) := by
      rw [exec_scanEyeBlocked clear online, State.filterBlocked_passes (s := s.setScanEye true) noGap free,
        State.scanEyeSeen_entering (s := passed) entry entering]
    exact ⟨_, done, path, filtered, standing, scan⟩
  · let passed : State := (s.setScanEye true).mapScan fun u => { u with gap := none }
    obtain ⟨frame, scanning, held, idle⟩ := passed.trigger_facts
    have done : exec .scanEyeBlocked s = .next passed.trigger := by
      rw [exec_scanEyeBlocked clear online, State.filterBlocked_triggers (s := s.setScanEye true) gap]
    refine ⟨_, done, ?_, ?_, ?_, scanning, held, idle⟩ <;> rw [frame] <;> rfl
  · have passes : (s.online && s.scan.filtered) = true := by rw [online, filtered]; rfl
    simp only [exec, execScanEyeCleared, covered, passes, Bool.not_true, Bool.false_eq_true, if_false, if_true]
    rfl
  · have notOnline : s.online = false := by simp [State.online, offline]
    cases covered : s.eyes.scan with
    | false => simp [exec, execScanEyeBlocked, covered, notOnline, State.setScanEye]
    | true =>
      simp only [exec, execScanEyeBlocked, covered, if_true]
      rw [← covered]
  · have notOnline : s.online = false := by simp [State.online, offline]
    cases covered : s.eyes.scan with
    | true => simp [exec, execScanEyeCleared, covered, notOnline, State.setScanEye]
    | false =>
      simp only [exec, execScanEyeCleared, covered, Bool.not_false, if_true]
      rw [← covered]
  · obtain ⟨eyes, filtered, noGap⟩ := s.scanGapExpired_kept
    refine ⟨_, exec_scanGapExpired gap, eyes, filtered, noGap, fun empty clear => ?_,
      fun c entry stage => State.gapExpired_withdraws entry stage⟩
    have last := State.tryStart_testDoze (State.scanEyeGone_of_empty (s := s.gapPassed) empty) (State.mayStart_of_clear clear)
    exact ⟨last.scan, last.path, last.drives, last.article, last.session, last.notices⟩
  · exact ⟨_, exec_scanGapExpired gap, State.gapExpired_discards entry stage clear⟩
  · exact ⟨_, exec_scanGapExpired gap, State.gapExpired_offers entry stage blocked runs⟩
  · obtain ⟨hold, standing, leaves⟩ := State.gapExpired_joins entry waiting moving
    exact ⟨_, exec_scanGapExpired gap, hold, standing, fun barred => leaves (State.joinHold_bars (s := s.gapPassed) c barred),
      fun blocked synced active opened free runs => State.gapExpired_takes entry waiting moving runs
        (State.joinHold_allows (s := s.gapPassed) c blocked synced active opened free)⟩
  · exact ⟨_, exec_scanGapExpired gap, State.gapExpired_backing entry backing⟩
  · simp only [exec, execScanGapExpired, noGap, Option.isSome_none, Bool.false_eq_true, if_false]

end Machine
end Sys2Proof
end

section
/-! PROOF. O48, the scan record (07 R119, R121, R122) and the article sought for its code (08 R137, R139, R150). -/
set_option Elab.async false
namespace Sys2Proof
namespace Machine

-- The lookup of a code (08 R137)

theorem CacheSet.wayOf_of_lowest {c : CacheSet} {code : Code} {w : Fin 4} (holds : c.Holds code w)
    (lowest : ∀ v < w, ¬c.Holds code v) : c.wayOf code = some w := by
  obtain ⟨v, way⟩ := CacheSet.exists_wayOf holds
  rcases lt_trichotomy v w with below | rfl | above
  · exact absurd (CacheSet.holds_of_wayOf way) (lowest v below)
  · exact way
  · exact absurd holds (CacheSet.not_holds_below_wayOf way above)

/-- A lookup with none in hand is made as 08 R137 says. -/
theorem State.lookupNow_looksUp (s : State) (code : Code) (tag : Tag) : s.looksUp code tag (s.lookupNow code tag) := by
  refine ⟨fun w a way same lowest => ?_, fun absent => ?_⟩
  · have found : (s.article.setFor code).wayOf code = some w :=
      CacheSet.wayOf_of_lowest ⟨a, way, same⟩ fun v below ⟨b, held, code'⟩ => lowest v b below held code'
    have article : (s.article.setFor code).ways[w] = some a := way
    simp only [State.lookupNow, found, article]
    rfl
  · have none : (s.article.setFor code).wayOf code = none :=
      CacheSet.wayOf_eq_none_iff.mpr fun v ⟨b, held, code'⟩ => absent v b held code'
    simp only [State.lookupNow, none]
    exact ⟨_, rfl, rfl, rfl, rfl, rfl, rfl⟩

theorem State.requestLookup_idle {s : State} (idle : s.article.lookup = .idle) (code : Code) (tag : Tag) :
    s.requestLookup code tag = s.lookupNow code tag := by simp only [State.requestLookup, idle]

/-- A lookup in hand is waited for (08 R150). -/
theorem State.requestLookup_busy {s : State} (busy : s.article.lookup ≠ .idle) (code : Code) (tag : Tag) :
    s.requestLookup code tag = { s with article := { s.article with waiting := some (code, tag) } } := by
  unfold State.requestLookup
  split
  next idle => exact absurd idle busy
  · rfl
  · rfl

-- The scan record (07 R119, R121, R122)

theorem channelAverage_eq (rounds : Vector (Vector Sample 6) 4) (n : Fin 6) : channelAverage rounds n =
    (rounds[0][n].toNat + rounds[1][n].toNat + rounds[2][n].toNat + rounds[3][n].toNat) / 4 := by
  rw [channelAverage, average_eq]
  simp

theorem Configuration.converts_iff (c : Configuration) (n : Nat) :
    Configuration.converts c n = true ↔ c.scanFirst ≤ n ∧ n ≤ c.scanLast := decide_eq_true_iff

theorem buildScan_eq (c : Configuration) (rounds : Vector (Vector Sample 6) 4) (overrun : Bool) :
    buildScan c rounds overrun =
      { averages := ((List.finRange 6).filter fun n => decide (c.scanFirst ≤ n.val ∧ n.val ≤ c.scanLast)).map
          fun n => (n.val, channelAverage rounds n)
        weight := if c.scanFirst = 0 then some (channelAverage rounds 0 * 4) else none
        bars := if c.scanFirst ≤ 1 ∧ 4 ≤ c.scanLast then
            some (([1, 2, 3, 4] : List (Fin 6)).countP fun n => decide (channelAverage rounds n < c.shadowThreshold))
          else none
        metal := if c.scanFirst ≤ 5 ∧ 5 ≤ c.scanLast then
            some (decide (c.metalThreshold ≤ channelAverage rounds 5)) else none
        overrun := overrun } := by
  have first : Configuration.converts c 0 = true ↔ c.scanFirst = 0 := by
    rw [Configuration.converts_iff]
    omega
  have bars : [1, 2, 3, 4].all (Configuration.converts c) = true ↔ c.scanFirst ≤ 1 ∧ 4 ≤ c.scanLast := by
    simp only [List.all_cons, List.all_nil, Bool.and_true, Bool.and_eq_true, Configuration.converts_iff]
    omega
  have metal : Configuration.converts c 5 = true ↔ c.scanFirst ≤ 5 ∧ 5 ≤ c.scanLast := Configuration.converts_iff c 5
  simp only [buildScan, first, bars, metal]
  rfl

-- A Container Scan completes (07 R121)

/-- The scan has ended with its record. -/
def State.scanned (s : State) (rounds : Vector (Vector Sample 6) 4) : State :=
  { s with scan := { s.scan with
      program := .watching, overrunPending := false, record := some (buildScan s.host.cfg rounds s.scan.overrunPending) } }

/-- The record of the entry zone is classified, with the scan ended and the code window closed (06 R105, R107). -/
def State.seeking (s : State) (rounds : Vector (Vector Sample 6) 4) (c : Container) : State :=
  { s.scanned rounds with path := { s.path with
      entry := some { c with stage := .classifying }, window := false, readTimer := none } }

theorem exec_containerScanComplete {s : State} (scanning : s.scan.program = .scanning)
    (rounds : Vector (Vector Sample 6) 4) : exec (.containerScanComplete rounds) s = .next
      (if (s.scanned rounds).codeRead then (s.scanned rounds).closeWindow else s.scanned rounds).testClassify := by
  simp only [exec, execContainerScanComplete, scanning, if_true]
  rfl

/-- A record that passes the first tests has its article sought (06 R107). -/
theorem State.classify_seeks {s : State} {c : Container} {code : Code} (known : c.code = some code)
    (passes : (s.setEntryRecord { c with stage := .classifying }).firstReject { c with stage := .classifying } = none) :
    s.classify c = (s.setEntryRecord { c with stage := .classifying }).requestLookup code c.tag := by
  rw [State.classify]
  dsimp only
  rw [passes, known]

section Complete
variable {s : State} (scanning : s.scan.program = .scanning) (rounds : Vector (Vector Sample 6) 4)
include scanning

/-- Without a code, and with the code window open, the record waits (06 R105). -/
theorem exec_containerScanComplete_waits
    (waits : ∀ c, s.path.entry = some c → c.stage = .scanning → c.code = none ∧ s.path.window = true) :
    exec (.containerScanComplete rounds) s = .next (s.scanned rounds) := by
  rw [exec_containerScanComplete scanning]
  cases entry : s.path.entry with
  | none =>
    have noCode : (s.scanned rounds).codeRead = false := by simp [State.codeRead, State.scanned, entry]
    have record : (s.scanned rounds).path.entry = none := entry
    rw [noCode]
    simp only [State.testClassify, Bool.false_eq_true, if_false, record]
  | some c =>
    have record : (s.scanned rounds).path.entry = some c := entry
    by_cases stage : c.stage = .scanning
    · obtain ⟨code, window⟩ := waits c entry stage
      have noCode : (s.scanned rounds).codeRead = false := by simp [State.codeRead, State.scanned, entry, code]
      have open' : ¬(s.scanned rounds).path.window = false := by simp [State.scanned, window]
      rw [noCode]
      simp only [State.testClassify, Bool.false_eq_true, if_false, record]
      exact congrArg _ (if_neg fun ⟨_, closed, _⟩ => open' closed)
    · have noCode : (s.scanned rounds).codeRead = false := by simp [State.codeRead, State.scanned, entry, stage]
      rw [noCode]
      simp only [State.testClassify, Bool.false_eq_true, if_false, record, stage, false_and]

variable {c : Container} (entry : s.path.entry = some c) (stage : c.stage = .scanning)
include entry stage

/-- The state in which a complete record is classified (06 R107). -/
theorem exec_containerScanComplete_classifies (ends : c.code ≠ none ∨ s.path.window = false) :
    ∃ window timer, exec (.containerScanComplete rounds) s = .next
        (((s.scanned rounds).mapPath fun p => { p with window := window, readTimer := timer }).classify c)
      ∧ window = false ∧ (c.code ≠ none → timer = none) := by
  rw [exec_containerScanComplete scanning]
  by_cases coded : c.code = none
  · have closed := ends.resolve_left (not_not.mpr coded)
    have noCode : (s.scanned rounds).codeRead = false := by simp [State.codeRead, State.scanned, entry, coded]
    refine ⟨s.path.window, s.path.readTimer, ?_, closed, fun code => absurd coded code⟩
    rw [noCode]
    exact congrArg _ (State.testClassify_of_complete (s := s.scanned rounds) entry stage closed rfl)
  · have code : (s.scanned rounds).codeRead = true := by
      simp [State.codeRead, State.scanned, entry, stage, Option.isSome_iff_ne_none, coded]
    refine ⟨false, none, ?_, rfl, fun _ => rfl⟩
    rw [code]
    exact congrArg _ (State.testClassify_of_complete (s := (s.scanned rounds).closeWindow) entry stage rfl rfl)

/-- The first test that fails rejects the complete record (06 R107). -/
theorem exec_containerScanComplete_rejects (ends : c.code ≠ none ∨ s.path.window = false) {r : RejectReason}
    (fails : (s.scanned rounds).firstReject { c with stage := .classifying } = some r) :
    exec (.containerScanComplete rounds) s = .next ((s.seeking rounds c).reject { c with stage := .classifying } r) := by
  obtain ⟨window, timer, done, _⟩ := exec_containerScanComplete_classifies scanning rounds entry stage ends
  rw [done, State.classify_rejects (s := (s.scanned rounds).mapPath fun p =>
    { p with window := window, readTimer := timer }) (r := r) fails]
  rfl

/-- A record that passes the first tests has its article sought (06 R107, 08 R137). -/
theorem exec_containerScanComplete_seeks {code : Code} (known : c.code = some code) (one : c.secondCode = false)
    (single : s.scan.overrunPending = false) :
    exec (.containerScanComplete rounds) s = .next ((s.seeking rounds c).requestLookup code c.tag) := by
  obtain ⟨window, timer, done, closed, none⟩ := exec_containerScanComplete_classifies scanning rounds entry stage
    (.inl (by rw [known]; nofun))
  have noTimer := none (by rw [known]; nofun)
  subst closed noTimer
  have passes : (s.scanned rounds).firstReject { c with stage := .classifying } = .none := by
    simp [State.firstReject, known, one, State.scanned, buildScan, single]
  rw [done, State.classify_seeks (s := (s.scanned rounds).mapPath fun p => { p with window := false, readTimer := .none })
    known passes]
  rfl

end Complete

/-- Settles O48. -/
theorem scanRecordIsBuilt : Obligations.ScanRecordIsBuilt := by
  intro s rounds scanning avg record
  have built : buildScan s.host.cfg rounds s.scan.overrunPending = record := by
    rw [buildScan_eq]
    simp only [channelAverage_eq]
    rfl
  have scanned : s.scanned rounds = { s with scan :=
      { s.scan with program := .watching, overrunPending := false, record := some record } } := by
    rw [State.scanned, built]
  refine ⟨fun waits => ?_, fun c code entry stage known one single idle absent => ?_, fun c entry stage ends => ?_,
    fun c code entry stage known one single => ?_⟩
  · rw [exec_containerScanComplete_waits scanning rounds waits, scanned]
  · have done := exec_containerScanComplete_seeks scanning rounds entry stage known one single
    rw [State.requestLookup_idle (s := s.seeking rounds c) idle] at done
    obtain ⟨w, found, facts⟩ := (State.lookupNow_looksUp (s.seeking rounds c) code c.tag).2 absent
    obtain ⟨known', tag, revoked, withdrawn, phase⟩ := facts
    rw [found] at done
    exact ⟨_, w, done, rfl, congrArg some built, rfl, known', tag, revoked, withdrawn, phase, rfl, rfl, rfl⟩
  · intro classifying built'
    have same : s.seeking rounds c = built' := by rw [State.seeking, scanned]
    rw [← same]
    refine ⟨fun noCode => ?_, fun coded second => ?_, fun coded one marked => ?_⟩
    · exact exec_containerScanComplete_rejects scanning rounds entry stage ends (by simp [State.firstReject, noCode])
    · exact exec_containerScanComplete_rejects scanning rounds entry stage ends (by simp [State.firstReject, coded, second])
    · exact exec_containerScanComplete_rejects scanning rounds entry stage ends (by
        simp [State.firstReject, coded, one, State.scanned, buildScan, marked])
  · intro seeking
    have same : s.seeking rounds c = seeking := by rw [State.seeking, scanned]
    have done := exec_containerScanComplete_seeks scanning rounds entry stage known one single
    rw [same] at done
    refine ⟨fun idle => ?_, fun busy => ?_⟩
    · rw [State.requestLookup_idle (s := seeking) idle] at done
      exact ⟨_, done, State.lookupNow_looksUp seeking code c.tag⟩
    · rw [State.requestLookup_busy (s := seeking) busy] at done
      exact done

end Machine
end Sys2Proof
end

section
/-! PROOF. O50, the code reader (07 R130 to R132, 06 R105): the characters, the end of a message, and the bits of a character
on the receiver's input. -/
set_option Elab.async false
namespace Sys2Proof
namespace Machine

-- What the receiver makes of a character (07 R130)

theorem foldl_xor_eq (l : List Bool) (b : Bool) : l.foldl xor b = decide ((l.countP (· == true) + b.toNat) % 2 = 1) := by
  induction l generalizing b with
  | nil => cases b <;> rfl
  | cons a l ih =>
    rw [List.foldl_cons, ih]
    cases a <;> cases b <;> grind

theorem characterError_of_good {data : Byte} {parity stop : Bool} (good : goodCharacter data parity stop) :
    characterError data parity stop = none := by
  obtain ⟨stops, even⟩ := good
  have plain : (fieldBits data).foldl xor parity = false := by
    rw [foldl_xor_eq]
    exact decide_eq_false (by omega)
  simp [characterError, stops, plain]

theorem characterError_of_bad {data : Byte} {parity stop : Bool} (bad : ¬goodCharacter data parity stop) :
    characterError data parity stop = some (if stop = false then .framing else .parity) := by
  cases stop with
  | false => rfl
  | true =>
    have odd : (fieldBits data).foldl xor parity = true := by
      rw [foldl_xor_eq]
      exact decide_eq_true (by
        have notEven : ¬((fieldBits data).countP (· == true) + parity.toNat) % 2 = 0 := fun even => bad ⟨rfl, even⟩
        omega)
    simp [characterError, odd]

theorem isDigit_iff (data : Byte) : isDigit data = true ↔ 0x30 ≤ data.toNat ∧ data.toNat ≤ 0x39 := decide_eq_true_iff

theorem ne_return_of_isDigit {data : Byte} (digit : 0x30 ≤ data.toNat) : data ≠ 0x0D#8 := fun same => by
  rw [same] at digit
  exact absurd digit (by decide)

-- One character (07 R131)

section Collect
variable (late : Nat) {digits : List Byte} {data : Byte}

theorem faultPosition_early (few : digits.length < 16) : faultPosition late digits = digits.length + 1 := if_pos few

theorem collect_error (e : ReaderError) :
    collect late digits (some e) data = (.discarding e (faultPosition late digits), none) := rfl

theorem collect_return : collect late digits none 0x0D#8 = (.idle, some (judgeMessage digits)) := rfl

theorem collect_nonDigit (notReturn : data ≠ 0x0D#8) (other : ¬(0x30 ≤ data.toNat ∧ data.toNat ≤ 0x39)) :
    collect late digits none data = (.discarding .nonDigit (faultPosition late digits), none) := by
  have notDigit : isDigit data = false := Bool.eq_false_iff.mpr fun digit => other ((isDigit_iff data).mp digit)
  simp [collect, notReturn, notDigit]

theorem collect_digit (digit : 0x30 ≤ data.toNat ∧ data.toNat ≤ 0x39) (few : digits.length < 16) :
    collect late digits none data = (.collecting (digits ++ [data]), none) := by
  simp [collect, ne_return_of_isDigit digit.1, (isDigit_iff data).mpr digit, few]

theorem collect_overrun (digit : 0x30 ≤ data.toNat ∧ data.toNat ≤ 0x39) (many : ¬digits.length < 16) :
    collect late digits none data = (.discarding .overrun (faultPosition late digits), none) := by
  simp [collect, ne_return_of_isDigit digit.1, (isDigit_iff data).mpr digit, many]

end Collect

/-- The receiver after a character, with the draw that a fault at the seventeenth takes (log 6). -/
def State.received (s : State) (a : Assembly) (late : Bool) : State :=
  { s with reader := { s.reader with assembly := a }, draws := if late then s.draws + 1 else s.draws }

section Character
variable {s : State} (running : s.reader.run = .running) {data : Byte} {parity stop : Bool}
include running

theorem exec_codeReaderCharacter (data : Byte) (parity stop : Bool) : exec (.codeReaderCharacter data parity stop) s = .next
    (match (s.reader.assembly.receive (Config.lateFaultPosition s.draws) (characterError data parity stop) data).2 with
      | some m => (s.received (s.reader.assembly.receive (Config.lateFaultPosition s.draws)
          (characterError data parity stop) data).1
          (s.reader.assembly.faultsLate (characterError data parity stop) data)).endMessage m
      | none => s.received (s.reader.assembly.receive (Config.lateFaultPosition s.draws)
          (characterError data parity stop) data).1
          (s.reader.assembly.faultsLate (characterError data parity stop) data)) := by
  simp only [exec, execCodeReaderCharacter]
  exact congrArg _ (if_pos running)

/-- A character that ends no message. -/
theorem exec_codeReaderCharacter_goesOn {a : Assembly} {error : Option ReaderError} {late : Bool}
    (judged : characterError data parity stop = error)
    (received : s.reader.assembly.receive (Config.lateFaultPosition s.draws) error data = (a, none))
    (faults : s.reader.assembly.faultsLate error data = late) :
    exec (.codeReaderCharacter data parity stop) s = .next (s.received a late) := by
  rw [exec_codeReaderCharacter running, judged, received, faults]

/-- A character that changes nothing. -/
theorem exec_codeReaderCharacter_ignored {error : Option ReaderError} (judged : characterError data parity stop = error)
    (received : s.reader.assembly.receive (Config.lateFaultPosition s.draws) error data = (s.reader.assembly, none))
    (faults : s.reader.assembly.faultsLate error data = false) :
    exec (.codeReaderCharacter data parity stop) s = .next s :=
  exec_codeReaderCharacter_goesOn running judged received faults

/-- The carriage return ends a message, in every state of the receiver (07 R131). -/
theorem exec_codeReaderCharacter_return (good : goodCharacter 0x0D#8 parity stop) {m : Message}
    (message : (s.reader.assembly.receive (Config.lateFaultPosition s.draws) none 0x0D#8) = (.idle, some m)) :
    exec (.codeReaderCharacter 0x0D#8 parity stop) s =
      .next (({ s with reader := { s.reader with assembly := .idle } } : State).endMessage m) := by
  have onTime : s.reader.assembly.faultsLate none 0x0D#8 = false := by
    unfold Assembly.faultsLate
    split
    · exact Bool.and_false _
    · rfl
  rw [exec_codeReaderCharacter running, characterError_of_good good, message, onTime]
  rfl

end Character

/-- The message that the carriage return ends (07 R131). -/
def Assembly.message : Assembly → Message
  | .idle => judgeMessage []
  | .collecting digits => judgeMessage digits
  | .discarding e position => .bad e position

theorem Assembly.receive_return (a : Assembly) (late : Nat) :
    a.receive late none 0x0D#8 = (.idle, some a.message) := by
  cases a with
  | idle | collecting | discarding => rfl

theorem judgeMessage_length {ds : List Byte} (wrong : ds.length < 8 ∨ 14 < ds.length) :
    judgeMessage ds = .bad .length ds.length := if_pos wrong

theorem judgeMessage_zero {ds : List Byte} (least : 8 ≤ ds.length) (most : ds.length ≤ 14) (zero : digitsValue ds = 0) :
    judgeMessage ds = .bad .zeroCode ds.length := (if_neg (by omega)).trans (if_pos zero)

theorem judgeMessage_good {ds : List Byte} (least : 8 ≤ ds.length) (most : ds.length ≤ 14) (value : digitsValue ds ≠ 0) :
    judgeMessage ds = .good (BitVec.ofNat 48 (digitsValue ds)) := (if_neg (by omega)).trans (if_neg value)

-- The end of a message (07 R132, 06 R105)

theorem State.endMessage_empty {s : State} (empty : s.path.entry = none) (m : Message) : s.endMessage m = s := by
  simp only [State.endMessage, empty]

section Message
variable {s : State} {c : Container} (entry : s.path.entry = some c)
include entry

theorem State.endMessage_closed (closed : s.path.window = false) (m : Message) : s.endMessage m = s := by
  simp only [State.endMessage, entry, closed, Bool.false_eq_true, if_false]

theorem State.endMessage_bad (open' : s.path.window = true) (e : ReaderError) (position : Nat) :
    s.endMessage (.bad e position) = s.raise (.readerFault e position c.tag) := by
  simp only [State.endMessage, entry, open', if_true]

theorem State.endMessage_good (open' : s.path.window = true) (code : Code) :
    s.endMessage (.good code) = s.handCode c code := by
  simp only [State.endMessage, entry, open', if_true]

end Message

/-- A first code handed on after the Container Scan: the window closes and the record is classified (06 R105). -/
theorem State.handCode_classifies {s : State} {c : Container} (first : c.code = none) (scanning : c.stage = .scanning)
    (complete : s.scan.record.isSome = true) (code : Code) : s.handCode c code =
      (s.setEntryRecord { c with code := some code }).closeWindow.classify { c with code := some code } := by
  have record : (s.setEntryRecord { c with code := some code }).scan.record.isSome = true := complete
  simp only [State.handCode, first, record, if_true]
  exact State.testClassify_of_complete (s := (s.setEntryRecord { c with code := some code }).closeWindow) rfl scanning rfl
    complete

theorem State.handCode_waits {s : State} {c : Container} (first : c.code = none) (waits : s.scan.record = none) (code : Code) :
    s.handCode c code = s.setEntryRecord { c with code := some code } := by
  have record : (s.setEntryRecord { c with code := some code }).scan.record = none := waits
  simp only [State.handCode, first, record, Option.isSome_none, Bool.false_eq_true, if_false]

theorem State.handCode_again {s : State} {c : Container} {first : Code} (known : c.code = some first) (code : Code) :
    s.handCode c code = if first = code then s else s.setEntryRecord { c with secondCode := true } := by
  simp only [State.handCode, known]

-- The bits of a character (07 R130)

/-- A number put together from its bits, the least significant first, has those bits. -/
theorem testBit_foldr_bits (bits : List Bool) (i : Nat) :
    (bits.foldr (fun (b : Bool) n => 2 * n + b.toNat) 0).testBit i = bits.getD i false := by
  induction bits generalizing i with
  | nil => simp
  | cons b bits ih =>
    rw [List.foldr_cons, ← Nat.bit_val]
    cases i with
    | zero => exact Nat.testBit_bit_zero ..
    | succ i => rw [Nat.testBit_bit_succ, ih, List.getD_cons_succ]

theorem byteOfBits_getLsbD (data : Byte) : byteOfBits ((List.range 8).map data.getLsbD) = data := by
  refine BitVec.eq_of_getLsbD_eq fun i below => ?_
  rw [byteOfBits, BitVec.getLsbD_ofNat, testBit_foldr_bits]
  simp [below]

section Sampling
variable {period : Nat}

theorem readerCommandsFrom_cons (place : ReaderPlace) (level : Bool) (rest : List Bool) :
    readerCommandsFrom period place (level :: rest) =
      (place.next period level).2.toList ++ readerCommandsFrom period (place.next period level).1 rest := rfl

theorem readerCommandsFrom_silent {place after : ReaderPlace} {level : Bool} (rest : List Bool)
    (step : place.next period level = (after, none)) :
    readerCommandsFrom period place (level :: rest) = readerCommandsFrom period after rest := by
  rw [readerCommandsFrom_cons, step]
  rfl

/-- A level that keeps the place is passed over. -/
theorem readerCommandsFrom_stays {place : ReaderPlace} {level : Bool} (rest : List Bool)
    (step : place.next period level = (place, none)) (n : Nat) :
    readerCommandsFrom period place (List.replicate n level ++ rest) = readerCommandsFrom period place rest := by
  induction n with
  | zero => rfl
  | succ n ih => rw [List.replicate_succ, List.cons_append, readerCommandsFrom_silent _ step, ih]

/-- The samples before the middle of a bit period are passed over. -/
theorem readerCommandsFrom_between (bits : List Bool) (b : Bool) (rest : List Bool) (m age : Nat)
    (before : age + m ≤ bits.length * period + period / 2) :
    readerCommandsFrom period (.inside age bits) (List.replicate m b ++ rest) =
      readerCommandsFrom period (.inside (age + m) bits) rest := by
  induction m generalizing age with
  | zero => rfl
  | succ m ih =>
    have step : (ReaderPlace.inside age bits).next period b = (.inside (age + 1) bits, none) := if_neg (by omega)
    rw [List.replicate_succ, List.cons_append, readerCommandsFrom_silent _ step, ih (age + 1) (by omega)]
    congr 2
    omega

theorem replicate_middle (positive : 1 ≤ period) (b : Bool) :
    List.replicate period b = List.replicate (period / 2) b ++ b :: List.replicate (period - period / 2 - 1) b := by
  rw [← List.replicate_succ, ← List.replicate_add]
  congr 1
  omega

theorem readerSample_middle (bits : List Bool) (b : Bool) (inside : bits.length + 1 ≠ 11) :
    (ReaderPlace.inside (bits.length * period + period / 2) bits).next period b =
      (.inside (bits.length * period + period / 2 + 1) (bits ++ [b]), none) := by
  have length : ¬(bits ++ [b]).length = 11 := by simpa using inside
  simp only [ReaderPlace.next, readerSample, if_true, length, if_false]

theorem readerSample_last (bits : List Bool) (b : Bool) (last : bits.length + 1 = 11) :
    (ReaderPlace.inside (bits.length * period + period / 2) bits).next period b =
      (.waiting b, some (readerCharacter (bits ++ [b]))) := by
  have length : (bits ++ [b]).length = 11 := by simpa using last
  simp only [ReaderPlace.next, readerSample, if_true, length]

/-- A bit period within a character: its middle sample is the bit. -/
theorem readerCommandsFrom_bit (positive : 1 ≤ period) (bits : List Bool) (b : Bool) (rest : List Bool)
    (inside : bits.length + 1 ≠ 11) :
    readerCommandsFrom period (.inside (bits.length * period) bits) (List.replicate period b ++ rest) =
      readerCommandsFrom period (.inside ((bits ++ [b]).length * period) (bits ++ [b])) rest := by
  have length : (bits ++ [b]).length = bits.length + 1 := by simp
  rw [replicate_middle positive, List.append_assoc, List.cons_append,
    readerCommandsFrom_between bits b _ _ _ (by omega), readerCommandsFrom_silent _ (readerSample_middle bits b inside),
    readerCommandsFrom_between (bits ++ [b]) b _ _ _ (by rw [length, Nat.add_mul]; omega), length]
  congr 2
  rw [Nat.add_mul]
  omega

/-- The bits of a character but for the last, one period after another. -/
theorem readerCommandsFrom_bits (positive : 1 ≤ period) (sent bits : List Bool) (rest : List Bool)
    (short : bits.length + sent.length < 11) :
    readerCommandsFrom period (.inside (bits.length * period) bits) (sent.flatMap (List.replicate period) ++ rest) =
      readerCommandsFrom period (.inside ((bits ++ sent).length * period) (bits ++ sent)) rest := by
  induction sent generalizing bits with
  | nil => simp
  | cons b sent ih =>
    have short' : bits.length + (sent.length + 1) < 11 := short
    rw [List.flatMap_cons, List.append_assoc, readerCommandsFrom_bit positive bits b _ (by omega),
      ih (bits ++ [b]) (by simp; omega), List.append_assoc]
    rfl

/-- The last bit of a character, from its falling edge on to the middle of its stop bit (07 R130). -/
theorem readerCommandsFrom_lastBit (positive : 1 ≤ period) (bits : List Bool) (b : Bool) (rest : List Bool)
    (last : bits.length + 1 = 11) :
    readerCommandsFrom period (.inside (bits.length * period) bits) (List.replicate period b ++ rest) =
      readerCharacter (bits ++ [b])
        :: readerCommandsFrom period (.waiting b) (List.replicate (period - period / 2 - 1) b ++ rest) := by
  rw [replicate_middle positive, List.append_assoc, List.cons_append,
    readerCommandsFrom_between bits b _ _ _ (by omega), readerCommandsFrom_cons, readerSample_last bits b last]
  rfl

/-- A character is sampled from its falling edge on (07 R130). -/
theorem readerCommandsFrom_character (positive : 1 ≤ period) (data : Byte) (parity stop : Bool) (rest : List Bool) :
    readerCommandsFrom period (.waiting true)
        ((false :: (List.range 8).map data.getLsbD ++ [parity, stop]).flatMap (List.replicate period) ++ rest) =
      .codeReaderCharacter data parity stop
        :: readerCommandsFrom period (.waiting stop) (List.replicate (period - period / 2 - 1) stop ++ rest) := by
  have edge (tail : List Bool) : readerCommandsFrom period (.waiting true) (List.replicate period false ++ tail) =
      readerCommandsFrom period (.inside 0 []) (List.replicate period false ++ tail) := by
    obtain ⟨m, rfl⟩ : ∃ m, period = m + 1 := ⟨period - 1, by omega⟩
    rfl
  have split : (false :: (List.range 8).map data.getLsbD ++ [parity, stop]).flatMap (List.replicate period) ++ rest =
      (false :: (List.range 8).map data.getLsbD ++ [parity]).flatMap (List.replicate period)
        ++ (List.replicate period stop ++ rest) := by
    simp [List.flatMap_append, List.flatMap_cons]
  have bits := readerCommandsFrom_bits positive (false :: (List.range 8).map data.getLsbD ++ [parity]) []
    (List.replicate period stop ++ rest) (by simp)
  have start : (false :: (List.range 8).map data.getLsbD ++ [parity]).flatMap (List.replicate period) =
      List.replicate period false ++ ((List.range 8).map data.getLsbD ++ [parity]).flatMap (List.replicate period) := rfl
  have character : readerCharacter ([] ++ (false :: (List.range 8).map data.getLsbD ++ [parity]) ++ [stop]) =
      .codeReaderCharacter (byteOfBits ((List.range 8).map data.getLsbD)) parity stop := rfl
  rw [split, start, List.append_assoc, edge, ← List.append_assoc, ← start]
  rw [List.length_nil, Nat.zero_mul] at bits
  rw [bits, readerCommandsFrom_lastBit positive _ stop rest (by simp), character, byteOfBits_getLsbD]

/-- The mark level is counted up to ten bit periods (07 R130). -/
theorem readerCommandsFrom_marks (rest : List Bool) (m mark : Nat) (before : mark + m < 10 * period) :
    readerCommandsFrom period (.settling mark) (List.replicate m true ++ rest) =
      readerCommandsFrom period (.settling (mark + m)) rest := by
  induction m generalizing mark with
  | zero => rfl
  | succ m ih =>
    have step : (ReaderPlace.settling mark).next period true = (.settling (mark + 1), none) := by
      simp only [ReaderPlace.next, Bool.not_true, Bool.false_eq_true, if_false]
      exact if_neg (by omega)
    rw [List.replicate_succ, List.cons_append, readerCommandsFrom_silent _ step, ih (mark + 1) (by omega)]
    congr 2
    omega

theorem readerCommandsFrom_settled (positive : 1 ≤ period) (rest : List Bool) :
    readerCommandsFrom period (.settling 0) (List.replicate (10 * period) true ++ rest) =
      .readerMarkLevelReached :: readerCommandsFrom period (.waiting true) rest := by
  obtain ⟨m, marks⟩ : ∃ m, 10 * period = m + 1 := ⟨10 * period - 1, by omega⟩
  have step : (ReaderPlace.settling (0 + m)).next period true = (.waiting true, some .readerMarkLevelReached) := by
    simp only [ReaderPlace.next, Bool.not_true, Bool.false_eq_true, if_false]
    exact if_pos (by omega)
  rw [marks, List.replicate_succ', List.append_assoc, readerCommandsFrom_marks _ m 0 (by omega), List.singleton_append,
    readerCommandsFrom_cons, step]
  rfl

end Sampling

end Machine
end Sys2Proof
end

section
/-! PROOF. O50, the code reader, assembled from the characters, the messages and the samples. -/
set_option Elab.async false
namespace Sys2Proof
namespace Machine

-- A character without an error (07 R131)

/-- A fault is late at the seventeenth character alone (log 6). -/
theorem Assembly.faultsLate_collecting {a : Assembly} {ds : List Byte} (collecting : a = .collecting ds) {data : Byte}
    (notReturn : data ≠ 0x0D#8) : a.faultsLate none data = decide (16 ≤ ds.length) := by
  rw [collecting]
  simp [Assembly.faultsLate, notReturn]

section Good
variable {s : State} (running : s.reader.run = .running) {data : Byte} {parity stop : Bool}
  (good : goodCharacter data parity stop)
include running good

theorem exec_goodCharacter_idle (idle : s.reader.assembly = .idle) :
    (data = 0x0A#8 → exec (.codeReaderCharacter data parity stop) s = .next s)
      ∧ (¬(0x30 ≤ data.toNat ∧ data.toNat ≤ 0x39) → data ≠ 0x0A#8 → data ≠ 0x0D#8 →
        exec (.codeReaderCharacter data parity stop) s = .next
          { s with reader := { s.reader with assembly := .discarding .nonDigit 1 } })
      ∧ (0x30 ≤ data.toNat → data.toNat ≤ 0x39 → exec (.codeReaderCharacter data parity stop) s = .next
          { s with reader := { s.reader with assembly := .collecting [data] } }) := by
  have judged := characterError_of_good good
  have onTime : s.reader.assembly.faultsLate none data = false := by rw [idle]; rfl
  have collects (other : data ≠ 0x0A#8) (late : Nat) :
      s.reader.assembly.receive late none data = collect late [] none data := by
    rw [idle]
    exact if_neg fun ⟨_, same⟩ => other same
  refine ⟨fun feed => ?_, fun other notFeed notReturn => ?_, fun least most => ?_⟩
  · refine exec_codeReaderCharacter_ignored running judged ?_ onTime
    rw [idle]
    exact if_pos ⟨rfl, feed⟩
  · have faults : s.reader.assembly.receive (Config.lateFaultPosition s.draws) none data = (.discarding .nonDigit 1, none) :=
      (collects notFeed _).trans (collect_nonDigit _ notReturn other)
    rw [exec_codeReaderCharacter_goesOn running judged faults onTime]
    rfl
  · have notFeed : data ≠ 0x0A#8 := fun same => by
      rw [same] at least
      exact absurd least (by decide)
    have joins : s.reader.assembly.receive (Config.lateFaultPosition s.draws) none data = (.collecting [data], none) :=
      (collects notFeed _).trans (collect_digit _ ⟨least, most⟩ (by decide))
    rw [exec_codeReaderCharacter_goesOn running judged joins onTime]
    rfl

variable {ds : List Byte} (collecting : s.reader.assembly = .collecting ds)
include collecting

theorem exec_goodCharacter_digit (digit : 0x30 ≤ data.toNat ∧ data.toNat ≤ 0x39) :
    (ds.length < 16 → exec (.codeReaderCharacter data parity stop) s = .next
        { s with reader := { s.reader with assembly := .collecting (ds ++ [data]) } })
      ∧ (¬ds.length < 16 → ∃ q, exec (.codeReaderCharacter data parity stop) s = .next
        { s with reader := { s.reader with assembly := .discarding .overrun q }, draws := s.draws + 1 }) := by
  have judged := characterError_of_good good
  have faults := Assembly.faultsLate_collecting collecting (ne_return_of_isDigit digit.1)
  have collects (late : Nat) : s.reader.assembly.receive late none data = collect late ds none data := by
    rw [collecting]
    rfl
  refine ⟨fun few => ?_, fun many => ⟨faultPosition (Config.lateFaultPosition s.draws) ds, ?_⟩⟩
  · rw [exec_codeReaderCharacter_goesOn running judged ((collects _).trans (collect_digit _ digit few)) faults,
      decide_eq_false (by omega)]
    rfl
  · rw [exec_codeReaderCharacter_goesOn running judged ((collects _).trans (collect_overrun _ digit many)) faults,
      decide_eq_true (by omega)]
    rfl

theorem exec_goodCharacter_nonDigit (other : ¬(0x30 ≤ data.toNat ∧ data.toNat ≤ 0x39)) (notReturn : data ≠ 0x0D#8) :
    (ds.length < 16 → exec (.codeReaderCharacter data parity stop) s = .next
        { s with reader := { s.reader with assembly := .discarding .nonDigit (ds.length + 1) } })
      ∧ (¬ds.length < 16 → ∃ q, exec (.codeReaderCharacter data parity stop) s = .next
        { s with reader := { s.reader with assembly := .discarding .nonDigit q }, draws := s.draws + 1 }) := by
  have judged := characterError_of_good good
  have faults := Assembly.faultsLate_collecting collecting notReturn
  have discards : s.reader.assembly.receive (Config.lateFaultPosition s.draws) none data =
      (.discarding .nonDigit (faultPosition (Config.lateFaultPosition s.draws) ds), none) := by
    rw [collecting]
    exact collect_nonDigit _ notReturn other
  have done := exec_codeReaderCharacter_goesOn running judged discards faults
  refine ⟨fun few => ?_, fun many => ⟨faultPosition (Config.lateFaultPosition s.draws) ds, ?_⟩⟩
  · rw [done, decide_eq_false (by omega), faultPosition_early _ few]
    rfl
  · rw [done, decide_eq_true (by omega)]
    rfl

end Good

/-- The first error of a message is kept (07 R131). -/
theorem exec_goodCharacter_discarding {s : State} (running : s.reader.run = .running) {data : Byte} {parity stop : Bool}
    (good : goodCharacter data parity stop) {e : ReaderError} {p : Nat} (discarding : s.reader.assembly = .discarding e p)
    (notReturn : data ≠ 0x0D#8) : exec (.codeReaderCharacter data parity stop) s = .next s := by
  refine exec_codeReaderCharacter_ignored running (characterError_of_good good) ?_ (by rw [discarding]; rfl)
  rw [discarding]
  exact if_neg fun ⟨_, same⟩ => notReturn same

-- A character with an error (07 R130, R131)

section Bad
variable {s : State} (running : s.reader.run = .running) {data : Byte} {parity stop : Bool}
  (bad : ¬goodCharacter data parity stop)
include running bad

theorem exec_badCharacter_idle (idle : s.reader.assembly = .idle) :
    exec (.codeReaderCharacter data parity stop) s = .next { s with reader := { s.reader with
      assembly := .discarding (if stop = false then .framing else .parity) 1 } } := by
  have discards : s.reader.assembly.receive (Config.lateFaultPosition s.draws)
      (some (if stop = false then .framing else .parity)) data =
        (.discarding (if stop = false then .framing else .parity) 1, none) := by
    rw [idle]
    simp only [Assembly.receive, reduceCtorEq, false_and, if_false]
    rfl
  rw [exec_codeReaderCharacter_goesOn running (characterError_of_bad bad) discards (late := false) (by rw [idle]; rfl)]
  rfl

theorem exec_badCharacter_discarding {e : ReaderError} {p : Nat} (discarding : s.reader.assembly = .discarding e p) :
    exec (.codeReaderCharacter data parity stop) s = .next s := by
  refine exec_codeReaderCharacter_ignored running (characterError_of_bad bad) ?_ (by rw [discarding]; rfl)
  rw [discarding]
  simp only [Assembly.receive, reduceCtorEq, false_and, if_false]

theorem exec_badCharacter_collecting {ds : List Byte} (collecting : s.reader.assembly = .collecting ds) :
    (ds.length < 16 → exec (.codeReaderCharacter data parity stop) s = .next { s with reader := { s.reader with
        assembly := .discarding (if stop = false then .framing else .parity) (ds.length + 1) } })
      ∧ (¬ds.length < 16 → ∃ q, exec (.codeReaderCharacter data parity stop) s = .next { s with
        reader := { s.reader with assembly := .discarding (if stop = false then .framing else .parity) q }
        draws := s.draws + 1 }) := by
  have discards : s.reader.assembly.receive (Config.lateFaultPosition s.draws)
      (some (if stop = false then .framing else .parity)) data =
        (.discarding (if stop = false then .framing else .parity) (faultPosition (Config.lateFaultPosition s.draws) ds),
          none) := by
    rw [collecting]
    rfl
  have faults : s.reader.assembly.faultsLate (some (if stop = false then .framing else .parity)) data =
      decide (16 ≤ ds.length) := by
    rw [collecting]
    simp [Assembly.faultsLate]
  have done := exec_codeReaderCharacter_goesOn running (characterError_of_bad bad) discards faults
  refine ⟨fun few => ?_, fun many => ⟨faultPosition (Config.lateFaultPosition s.draws) ds, ?_⟩⟩
  · rw [done, decide_eq_false (by omega), faultPosition_early _ few]
    rfl
  · rw [done, decide_eq_true (by omega)]
    rfl

end Bad

-- The carriage return (07 R131, R132)

/-- The receiver is idle after a message. -/
def State.readerIdle (s : State) : State := { s with reader := { s.reader with assembly := .idle } }

theorem exec_return {s : State} (running : s.reader.run = .running) {parity stop : Bool}
    (good : goodCharacter 0x0D#8 parity stop) :
    exec (.codeReaderCharacter 0x0D#8 parity stop) s = .next (s.readerIdle.endMessage s.reader.assembly.message) :=
  exec_codeReaderCharacter_return running good (s.reader.assembly.receive_return _)

section Code
variable {s : State} {c : Container} (first : c.code = none) (scanning : c.stage = .scanning) (code : Code)
include first scanning

/-- A code handed on after the Container Scan has its article sought, or its record rejected (06 R105, R107). -/
theorem State.handCode_seeks {r : ScanRecord} (complete : s.scan.record = some r) :
    let seeking : State := { s with path := { s.path with
      entry := some { c with code := some code, stage := .classifying }, window := false, readTimer := none } }
    (c.secondCode = false → r.overrun = false →
        (s.article.lookup = .idle → ∃ t, s.handCode c code = t ∧ seeking.looksUp code c.tag t)
        ∧ (s.article.lookup ≠ .idle → s.handCode c code = { seeking with
            article := { s.article with waiting := some (code, c.tag) } }))
      ∧ (c.secondCode = false → r.overrun = true →
        s.handCode c code = seeking.reject { c with code := some code, stage := .classifying } .doubleEntry) := by
  intro seeking
  have classifies := State.handCode_classifies first scanning (by rw [complete]; rfl) code
  refine ⟨fun one single => ?_, fun one marked => ?_⟩
  · have passes : seeking.firstReject { c with code := some code, stage := .classifying } = none := by
      simp [State.firstReject, one, seeking, complete, single]
    have seeks : s.handCode c code = seeking.requestLookup code c.tag := classifies.trans (State.classify_seeks
      (s := (s.setEntryRecord { c with code := some code }).closeWindow) (c := { c with code := some code }) rfl passes)
    rw [seeks]
    refine ⟨fun idle => ⟨_, rfl, ?_⟩, fun busy => State.requestLookup_busy (s := seeking) busy code c.tag⟩
    rw [State.requestLookup_idle (s := seeking) idle]
    exact State.lookupNow_looksUp seeking code c.tag
  · have fails : seeking.firstReject { c with code := some code, stage := .classifying } = some .doubleEntry := by
      simp [State.firstReject, one, seeking, complete, marked]
    exact classifies.trans (State.classify_rejects
      (s := (s.setEntryRecord { c with code := some code }).closeWindow) (c := { c with code := some code }) fails)

end Code

/-- Settles O50. -/
theorem codesAreRead : Obligations.CodesAreRead := by
  intro s data parity stop ds e p
  refine ⟨fun settling => ?_, fun other => ?_, fun running good => ?_, fun running bad idle => ?_,
    fun running bad discarding => ?_, fun running bad collecting => ?_, fun running good empty => ?_,
    fun c running good entry => ?_, fun period n rest positive => ?_, fun hz input => rfl⟩
  · simp only [exec, execReaderMarkLevelReached, settling, if_true]
  · simp only [exec, execCodeReaderCharacter, other, if_false]
  · refine ⟨fun feed idle => ?_, fun other notFeed notReturn idle => ?_, fun least most idle => ?_,
      fun least most collecting => ?_, fun least most collecting => ?_, fun other notReturn collecting => ?_,
      fun notReturn discarding => ?_⟩
    · exact (exec_goodCharacter_idle running good idle).1 feed
    · exact (exec_goodCharacter_idle running good idle).2.1 other notFeed notReturn
    · exact (exec_goodCharacter_idle running good idle).2.2 least most
    · exact (exec_goodCharacter_digit running good collecting ⟨least, most⟩).1
    · exact (exec_goodCharacter_digit running good collecting ⟨least, most⟩).2
    · exact exec_goodCharacter_nonDigit running good collecting other notReturn
    · exact exec_goodCharacter_discarding running good discarding notReturn
  · exact exec_badCharacter_idle running bad idle
  · exact exec_badCharacter_discarding running bad discarding
  · exact exec_badCharacter_collecting running bad collecting
  · rw [exec_return running good, State.endMessage_empty (s := s.readerIdle) empty]
    rfl
  · intro ended value
    have run := exec_return running good
    have record : s.readerIdle.path.entry = some c := entry
    refine ⟨fun closed => ?_, fun open' => ⟨fun idle => ?_, fun discarding => ?_, fun collecting wrong => ?_,
      fun collecting least most zero => ?_, fun collecting least most nonzero => ?_⟩⟩
    · rw [run, State.endMessage_closed record (by exact closed)]
      rfl
    · rw [run, idle, Assembly.message, judgeMessage_length (.inl (by decide)), State.endMessage_bad record (by exact open')]
      rfl
    · rw [run, discarding, Assembly.message, State.endMessage_bad record (by exact open')]
      rfl
    · rw [run, collecting, Assembly.message, judgeMessage_length wrong, State.endMessage_bad record (by exact open')]
      rfl
    · rw [run, collecting, Assembly.message, judgeMessage_zero least most zero,
        State.endMessage_bad record (by exact open')]
      rfl
    · have handed : exec (.codeReaderCharacter 0x0D#8 parity stop) s =
          .next (s.readerIdle.handCode c (BitVec.ofNat 48 value)) := by
        rw [run, collecting, Assembly.message, judgeMessage_good least most nonzero,
          State.endMessage_good record (by exact open')]
        rfl
      rw [handed]
      refine ⟨fun r first scanning complete => ?_, fun first waits => ?_, fun same => ?_, fun old known other => ?_⟩
      · intro code seeking
        obtain ⟨seeks, rejects⟩ := State.handCode_seeks (s := s.readerIdle) first scanning code complete
        refine ⟨fun one single => ⟨fun idle => ?_, fun busy => ?_⟩, fun one marked => ?_⟩
        · obtain ⟨t, found, looksUp⟩ := (seeks one single).1 idle
          exact ⟨t, congrArg _ found, looksUp⟩
        · exact congrArg _ ((seeks one single).2 busy)
        · exact congrArg _ (rejects one marked)
      · rw [State.handCode_waits first (by exact waits)]
        rfl
      · rw [State.handCode_again same, if_pos rfl]
        rfl
      · rw [State.handCode_again known, if_neg other]
        rfl
  · refine ⟨?_, ?_, readerCommandsFrom_settled positive rest, fun few => ?_⟩
    · rw [List.append_assoc, readerCommandsFrom_stays _ rfl, readerCommandsFrom_character positive]
    · rw [readerCommandsFrom_stays _ rfl, readerCommandsFrom_silent _ rfl]
    · rw [readerCommandsFrom_marks _ n 0 (by omega), readerCommandsFrom_silent _ rfl]

end Machine
end Sys2Proof
end

section
/-! PROOF. O51, the walk (08 R134, R138, R140, R141, R147, R149, R150). -/
set_option Elab.async false
namespace Sys2Proof
namespace Machine

-- A group burst (08 R140, R141)

/-- The entry at a place of the burst order (08 R140). -/
def burstEntry (code : Code) (i : Nat) : Fin 8 := Fin.ofNat 8 (code.toNat + i)

theorem burst_eq (group : GroupBytes) (code : Code) : burst group (startEntry code) =
    (List.range 8).map fun i => (burstEntry code i, group[burstEntry code i]) := by
  have place (i : Fin 8) : (⟨(startEntry code + i.val) % 8, Nat.mod_lt _ (by decide)⟩ : Fin 8) = burstEntry code i.val := by
    refine Fin.ext ?_
    simp only [burstEntry, startEntry, Fin.ofNat, Nat.mod_add_mod]
  have order : List.range 8 = (List.finRange 8).map Fin.val := by decide
  rw [order, List.map_map, burst]
  exact List.map_congr_left fun i _ => by simp only [place, Function.comp]

section Burst
variable {group : GroupBytes} {code : Code}

/-- The first of the places below 8 that satisfies a test. -/
theorem find_range_some {α : Type} (f : Nat → α) (p : α → Bool) {n i : Nat} (below : i < n) (holds : p (f i) = true)
    (first : ∀ j, j < i → p (f j) = false) :
    ((List.range n).map f).find? p = some (f i) ∧ ((List.range n).map f).findIdx? p = some i := by
  refine ⟨?_, ?_⟩
  · rw [List.find?_map]
    have found : (List.range n).find? (p ∘ f) = some i := by
      rw [List.find?_range_eq_some]
      exact ⟨holds, List.mem_range.mpr below, fun j less => by simp [first j less]⟩
    rw [found]
    rfl
  · rw [List.findIdx?_eq_some_iff_getElem]
    refine ⟨by simpa using below, by simpa using holds, fun j less => ?_⟩
    simp [first j less]

theorem find_range_none {α : Type} (f : Nat → α) (p : α → Bool) {n : Nat} (absent : ∀ i, i < n → p (f i) = false) :
    ((List.range n).map f).find? p = none ∧ ((List.range n).map f).findIdx? p = none := by
  refine ⟨List.find?_eq_none.mpr fun x mem => ?_, List.findIdx?_eq_none_iff.mpr fun x mem => ?_⟩
  all_goals
    obtain ⟨i, below, rfl⟩ := List.mem_map.mp mem
    simp [absent i (List.mem_range.mp below)]

/-- The first entry of the code in burst order decides (08 R141). -/
theorem readBurst_first {i : Nat} (below : i < 8) (same : entryCode group[burstEntry code i] = code)
    (first : ∀ j, j < i → entryCode group[burstEntry code j] ≠ code) : readBurst group code =
      match readEntry group[burstEntry code i] with
      | .ok a => .found a
      | .error f => .malformed (burstEntry code i) f := by
  have found := (find_range_some (fun i => (burstEntry code i, group[burstEntry code i])) (fun p => entryCode p.2 == code)
    below (beq_iff_eq.mpr same) fun j less => beq_eq_false_iff_ne.mpr (first j less)).1
  rw [readBurst, burst_eq, found] <;> rfl

theorem readBurst_none (absent : ∀ i, i < 8 → entryCode group[burstEntry code i] ≠ code) :
    readBurst group code = .noMatch (group.toList.any fun e => entryCode e == 0) := by
  have none := (find_range_none (fun i => (burstEntry code i, group[burstEntry code i])) (fun p => entryCode p.2 == code)
    fun i below => beq_eq_false_iff_ne.mpr (absent i below)).1
  rw [readBurst, burst_eq, none]

/-- A burst that finds nothing has read no entry of the code. -/
theorem readBurst_noMatch {emptySeen : Bool} (result : readBurst group code = .noMatch emptySeen) :
    (∀ i, i < 8 → entryCode group[burstEntry code i] ≠ code)
      ∧ emptySeen = group.toList.any fun e => entryCode e == 0 := by
  by_cases absent : ∀ i, i < 8 → entryCode group[burstEntry code i] ≠ code
  · rw [readBurst_none absent] at result
    exact ⟨absent, (BurstResult.noMatch.inj result).symm⟩
  · push Not at absent
    have least := Nat.find_spec absent
    rw [readBurst_first least.1 least.2 fun j below same =>
      Nat.find_min absent below ⟨below.trans least.1, same⟩] at result
    split at result <;> contradiction

theorem anyEmpty_iff : (group.toList.any fun e => entryCode e == 0) = true ↔ ∃ k : Fin 8, entryCode group[k] = 0 := by
  simp only [List.any_eq_true, beq_iff_eq, Vector.mem_toList_iff]
  refine ⟨fun ⟨e, mem, empty⟩ => ?_, fun ⟨k, empty⟩ => ⟨group[k], Vector.getElem_mem _, empty⟩⟩
  obtain ⟨i, below, rfl⟩ := Vector.getElem_of_mem mem
  exact ⟨⟨i, below⟩, empty⟩

/-- The burst stops after the entry of the code (08 R140). -/
theorem entriesRead_eq {n : Nat} (least : 1 ≤ n) (most : n ≤ 8)
    (before : ∀ j, j + 1 < n → entryCode group[burstEntry code j] ≠ code)
    (stops : n = 8 ∨ entryCode group[burstEntry code (n - 1)] = code) : entriesRead group code = n := by
  by_cases here : entryCode group[burstEntry code (n - 1)] = code
  · have found := (find_range_some (fun i => (burstEntry code i, group[burstEntry code i])) (fun p => entryCode p.2 == code)
      (by omega : n - 1 < 8) (beq_iff_eq.mpr here) fun j less => beq_eq_false_iff_ne.mpr (before j (by omega))).2
    rw [entriesRead, burst_eq, found]
    exact Nat.sub_add_cancel least
  · obtain rfl := stops.resolve_right here
    have none := (find_range_none (fun i => (burstEntry code i, group[burstEntry code i])) (fun p => entryCode p.2 == code)
      (n := 8) fun i below => beq_eq_false_iff_ne.mpr (by
        by_cases last : i = 7
        · rw [last]
          exact here
        · exact before i (by omega))).2
    rw [entriesRead, burst_eq, none]

theorem burstReads_eq (g start n : Nat) : burstReads g start n = .read (g * 128 + start * 16) (min n (8 - start) * 16)
    :: if 8 - start < n then [.read (g * 128) ((n - (8 - start)) * 16)] else [] := by
  unfold burstReads
  by_cases wraps : 8 - start < n
  · simp [wraps, Nat.min_eq_right (Nat.le_of_lt wraps)]
  · simp [wraps, Nat.min_eq_left (Nat.le_of_not_lt wraps)]

end Burst

-- The end of a walk (08 R138, R149, R150)

/-- What follows the end of a withdrawn walk is what 08 R150 says. -/
theorem State.resumeLookup_resumesTo (s : State) : s.resumesTo s.resumeLookup := by
  refine ⟨fun none => ?_, fun code tag waiting => ?_⟩
  · simp only [State.resumeLookup, none]
  · simp only [State.resumeLookup, waiting]
    exact s.lookupNow_looksUp code tag

/-- The port as a walk has ended: a host access that waits starts (08 R143). -/
def ArticleUnit.walkEnded (u : ArticleUnit) : ArticleUnit := { u with lookup := .idle }.arbitrate

theorem ArticleUnit.arbitrate_lookup_of_no_walk {u : ArticleUnit} (noWalk : ∀ w, u.lookup ≠ .walking w) :
    u.arbitrate.lookup = u.lookup ∧ u.arbitrate.queryTimer = u.queryTimer := by
  unfold ArticleUnit.arbitrate
  split
  · split
    next w walking => exact absurd walking (noWalk w)
    all_goals split <;> exact ⟨rfl, rfl⟩
  · exact ⟨rfl, rfl⟩

/-- After a walk has ended the port is free only where no host access was in hand (08 R143). -/
theorem ArticleUnit.walkEnded_accessRunning (u : ArticleUnit) : u.walkEnded.accessRunning = u.access.isSome := by
  cases access : u.access with
  | none => simp [ArticleUnit.walkEnded, ArticleUnit.arbitrate, ArticleUnit.portFree, ArticleUnit.walkRunning,
      ArticleUnit.walk, ArticleUnit.accessRunning, access]
  | some a =>
    by_cases waits : a.stage = .waiting
    · simp [ArticleUnit.walkEnded, ArticleUnit.arbitrate, ArticleUnit.portFree, ArticleUnit.walkRunning, ArticleUnit.walk,
        ArticleUnit.accessRunning, access, waits]
    · simp [ArticleUnit.walkEnded, ArticleUnit.arbitrate, ArticleUnit.portFree, ArticleUnit.walkRunning, ArticleUnit.walk,
        ArticleUnit.accessRunning, access, waits]

/-- A revoked walk is made anew, behind a host access in hand (08 R149, log 20). -/
theorem State.endRevoked_anew {s : State} {w : Walk} (kept : w.withdrawn = false) :
    ∃ v : Walk, (s.endRevoked w).article.lookup = .walking v ∧ v.code = w.code ∧ v.tag = w.tag ∧ v.revoked = false
      ∧ v.withdrawn = false ∧ v.phase = (if s.article.access.isSome = true then .waitingPort else .primary)
      ∧ (s.endRevoked w).article.cache = s.article.cache ∧ (s.endRevoked w).path = s.path
      ∧ (s.endRevoked w).notices = s.notices := by
  have anew : s.endRevoked w = ({ s with article := s.article.walkEnded } : State).mapArticle fun u =>
      u.requestWalk w.code w.tag := by
    simp only [State.endRevoked, kept, Bool.false_eq_true, if_false]
    rfl
  rw [anew]
  refine ⟨_, rfl, rfl, rfl, rfl, rfl, ?_, ArticleUnit.arbitrate_cache _, rfl, rfl⟩
  dsimp only
  rw [ArticleUnit.walkEnded_accessRunning]

theorem State.endRevoked_withdrawn {s : State} {w : Walk} (withdrawn : w.withdrawn = true) :
    s.endRevoked w = ({ s with article := s.article.walkEnded } : State).resumeLookup := by
  simp only [State.endRevoked, withdrawn, if_true]
  rfl

theorem State.endFound_decides {s : State} {w : Walk} (kept : w.withdrawn = false) (a : Article) : s.endFound w a =
    ({ s with article := (s.article.fill a).walkEnded } : State).fullDecision (some a) := by
  simp only [State.endFound, kept, Bool.false_eq_true, if_false]
  rfl

theorem State.endFound_withdrawn {s : State} {w : Walk} (withdrawn : w.withdrawn = true) (a : Article) :
    s.endFound w a = ({ s with article := (s.article.fill a).walkEnded } : State).resumeLookup := by
  simp only [State.endFound, withdrawn, if_true]
  rfl

theorem State.endAbsent_withdrawn {s : State} {w : Walk} (withdrawn : w.withdrawn = true) :
    s.endAbsent w = ({ s with article := s.article.walkEnded } : State).resumeLookup := by
  simp only [State.endAbsent, withdrawn, if_true]
  rfl

theorem State.endAbsent_decides {s : State} {w : Walk} (kept : w.withdrawn = false) (off : s.host.cfg.hostQueries = 0) :
    s.endAbsent w = ({ s with article := s.article.walkEnded } : State).fullDecision none := by
  have noQuery : s.host.cfg.queriesOn = false := by simp [Configuration.queriesOn, off]
  simp only [State.endAbsent, kept, noQuery, Bool.false_eq_true, if_false]
  rfl

/-- A code that is absent is asked of the host (08 R147). -/
theorem State.endAbsent_asks {s : State} {w : Walk} (kept : w.withdrawn = false) (on : s.host.cfg.hostQueries = 1) :
    (s.endAbsent w).article.lookup = .querying w.code w.tag ∧ (s.endAbsent w).article.queryTimer = some 0
      ∧ (s.endAbsent w).noticeOf .articleQuery = some (.articleQuery w.code w.tag)
      ∧ s.sameNoticesBut [.articleQuery] (s.endAbsent w) ∧ (s.endAbsent w).path = s.path
      ∧ (s.endAbsent w).article.cache = s.article.cache := by
  have query : s.host.cfg.queriesOn = true := by simp [Configuration.queriesOn, on]
  have asks : s.endAbsent w = s.beginQuery w := by
    simp only [State.endAbsent, kept, query, Bool.false_eq_true, if_false, if_true]
  rw [asks]
  have lookup := ArticleUnit.arbitrate_lookup_of_no_walk (u := { s.article with lookup := .querying w.code w.tag }) nofun
  exact ⟨lookup.1, rfl, State.raise_noticeOf (k := .articleQuery) _ _ rfl,
    State.raise_sameNoticesBut _ (.articleQuery w.code w.tag), rfl, ArticleUnit.arbitrate_cache _⟩

-- A group has been read (08 R141)

section Read
variable {s : State} {w : Walk} (walking : s.article.lookup = .walking w) (runs : w.phase ≠ .waitingPort)
  {group : GroupBytes}
include walking runs

theorem exec_walkGroupRead : exec (.walkGroupRead group) s = .next (s.walkRead w (readBurst group w.code)) := by
  simp only [exec, execWalkGroupRead, walking, runs, if_false]

theorem State.portTransactions_walk : s.portTransactions group = s.walkReads w group := by
  have walk : s.article.walk = some w := by simp only [ArticleUnit.walk, walking]
  simp only [State.portTransactions, walk, runs, if_false]

end Read

/-- A primary group without the code and with every entry used leads to the secondary one (08 R141). -/
theorem State.walkRead_secondary {s : State} {w : Walk} (primary : w.phase = .primary) :
    s.walkRead w (.noMatch false) =
      { s with article := { s.article with lookup := .walking { w with phase := .secondary } } } := by
  simp only [State.walkRead, primary, and_self, if_true]
  rfl

theorem State.walkRead_absent {s : State} {w : Walk} {emptySeen : Bool} (ends : w.phase ≠ .primary ∨ emptySeen = true) :
    s.walkRead w (.noMatch emptySeen) = if w.revoked then s.endRevoked w else s.endAbsent w := by
  refine if_neg fun ⟨primary, unseen⟩ => ?_
  rcases ends with other | seen
  · exact other primary
  · rw [unseen] at seen
    contradiction

/-- A revoked walk that ends, in whatever way (08 R149). -/
theorem State.walkRead_revoked {s : State} {w : Walk} {r : BurstResult} (revoked : w.revoked = true)
    (ends : ∀ emptySeen, r = .noMatch emptySeen → w.phase ≠ .primary ∨ emptySeen = true) : s.walkRead w r = s.endRevoked w := by
  cases r with
  | noMatch emptySeen => rw [State.walkRead_absent (ends emptySeen rfl), if_pos revoked]
  | found a => exact if_pos revoked
  | malformed entry field => exact if_pos revoked

/-- Settles O51. -/
theorem walkDecides : Obligations.WalkDecides := by
  intro s w group walking at_ ended
  have noEmpty (used : ∀ k : Fin 8, entryCode group[k] ≠ 0) : (group.toList.any fun e => entryCode e == 0) = false :=
    Bool.eq_false_iff.mpr fun any => by
      obtain ⟨k, empty⟩ := anyEmpty_iff.mp any
      exact used k empty
  have absentEnds (runs : w.phase ≠ .waitingPort) (plain : w.revoked = false)
      (absent : ∀ i, i < 8 → entryCode group[at_ i] ≠ w.code)
      (ends : w.phase = .secondary ∨ ∃ k : Fin 8, entryCode group[k] = 0) :
      exec (.walkGroupRead group) s = .next (s.endAbsent w) := by
    rw [exec_walkGroupRead walking runs, readBurst_none absent, State.walkRead_absent (ends.imp
      (fun secondary primary => by rw [secondary] at primary; contradiction) anyEmpty_iff.mpr), plain]
    rfl
  have foundEnds (runs : w.phase ≠ .waitingPort) (plain : w.revoked = false) {i : Nat} (below : i < 8)
      (same : entryCode group[at_ i] = w.code) (first : ∀ j, j < i → entryCode group[at_ j] ≠ w.code) {a : Article}
      (good : readEntry group[at_ i] = .ok a) : exec (.walkGroupRead group) s = .next (s.endFound w a) := by
    rw [exec_walkGroupRead walking runs, readBurst_first below same first,
      show readEntry group[burstEntry w.code i] = .ok a from good]
    exact congrArg _ (if_neg (by rw [plain]; nofun))
  have malformedEnds (runs : w.phase ≠ .waitingPort) (plain : w.revoked = false) {i : Nat} (below : i < 8)
      (same : entryCode group[at_ i] = w.code) (first : ∀ j, j < i → entryCode group[at_ j] ≠ w.code) {f : MalformedField}
      (bad : readEntry group[at_ i] = .error f) :
      exec (.walkGroupRead group) s = .next ((s.raiseMalformed w (at_ i) f).endAbsent w) := by
    rw [exec_walkGroupRead walking runs, readBurst_first below same first,
      show readEntry group[burstEntry w.code i] = .error f from bad]
    exact congrArg _ (if_neg (by rw [plain]; nofun))
  refine ⟨fun waits => ?_, fun runs plain kept => ⟨fun i below same first => ⟨fun a good => ?_, fun f bad off => ?_,
      fun f bad on => ?_⟩, fun absent => ⟨fun primary used => ?_, fun ends off => ?_, fun ends on => ?_⟩⟩,
    fun ends => ?_, fun primary used absent => ?_, fun runs plain withdrawn => ⟨fun i below same first =>
      ⟨fun a good => ?_, fun f bad => ?_⟩, fun absent ends => ?_⟩, fun n runs least most before stops => ?_⟩
  · simp only [exec, execWalkGroupRead, walking, waits, if_true]
  · rw [foundEnds runs plain below same first good, State.endFound_decides kept]
    rfl
  · intro g
    rw [malformedEnds runs plain below same first bad,
      State.endAbsent_decides (s := s.raiseMalformed w (at_ i) f) kept off]
    rfl
  · intro g
    obtain ⟨lookup, timer, query, others, path, cache⟩ :=
      State.endAbsent_asks (s := s.raiseMalformed w (at_ i) f) kept on
    have raised : (s.raiseMalformed w (at_ i) f).noticeOf .storeFault =
        some (.storeFault (.malformed g (at_ i).val (g * 128 + (at_ i).val * 16) w.code f)) :=
      State.raise_noticeOf (k := .storeFault) _ _ rfl
    refine ⟨_, malformedEnds runs plain below same first bad, lookup, timer, query, ?_, fun k other => ?_, path, cache⟩
    · exact (congrArg NoticeRecord.detail (others .storeFault (by decide))).trans raised
    · have apart : k ≠ .storeFault ∧ k ≠ .articleQuery := by simpa using other
      exact (others k (by simpa using apart.2)).trans (s.raise_sameNoticesBut _ k (by simpa [NoticeDetail.kind] using apart.1))
  · rw [exec_walkGroupRead walking runs, readBurst_none absent, noEmpty used, State.walkRead_secondary primary]
  · rw [absentEnds runs plain absent ends, State.endAbsent_decides kept off]
    rfl
  · exact ⟨_, absentEnds runs plain absent ends, State.endAbsent_asks kept on⟩
  · have runs : w.phase ≠ .waitingPort := by
      rcases ends with secondary | ⟨primary, _⟩
      · rw [secondary]; nofun
      · rw [primary]; nofun
    have closes : ∀ emptySeen, readBurst group w.code = .noMatch emptySeen → w.phase ≠ .primary ∨ emptySeen = true := by
      intro emptySeen result
      rcases ends with secondary | ⟨primary, empty | ⟨i, below, same⟩⟩
      · exact .inl (by rw [secondary]; nofun)
      · exact .inr ((readBurst_noMatch result).2.trans (anyEmpty_iff.mpr empty))
      · exact absurd same ((readBurst_noMatch result).1 i below)
    refine ⟨fun revoked kept => ?_, fun revoked withdrawn => ?_⟩
    · obtain ⟨v, lookup, rest⟩ := State.endRevoked_anew (s := s) kept
      exact ⟨_, v, by rw [exec_walkGroupRead walking runs, State.walkRead_revoked revoked closes], lookup, rest⟩
    · refine ⟨_, by rw [exec_walkGroupRead walking runs, State.walkRead_revoked revoked closes,
        State.endRevoked_withdrawn withdrawn], ?_⟩
      exact State.resumeLookup_resumesTo _
  · rw [exec_walkGroupRead walking (by rw [primary]; nofun), readBurst_none absent, noEmpty used,
      State.walkRead_secondary primary]
  · exact ⟨_, by rw [foundEnds runs plain below same first good, State.endFound_withdrawn withdrawn]; rfl,
      State.resumeLookup_resumesTo _⟩
  · intro g
    exact ⟨_, by rw [malformedEnds runs plain below same first bad,
      State.endAbsent_withdrawn (s := s.raiseMalformed w (at_ i) f) withdrawn]; rfl, State.resumeLookup_resumesTo _⟩
  · exact ⟨_, by rw [absentEnds runs plain absent ends, State.endAbsent_withdrawn withdrawn]; rfl,
      State.resumeLookup_resumesTo _⟩
  · intro g start
    rw [State.portTransactions_walk walking runs, State.walkReads, entriesRead_eq least most before stops, burstReads_eq]
    rfl

end Machine
end Sys2Proof
end

section
/-! PROOF. O25: what a receiver makes of the stuffed part of a frame of a station 1 to 12 (02 2.4, R31 to R33). -/
set_option Elab.async false
namespace Sys2Proof
namespace Machine

-- Bit stuffing (02 R32)

/-- Removal of the stuff bits undoes the stuffing, after any run that the stuffing can have left. -/
theorem unstuffFrom_stuffFrom (last : Bool) (run : Nat) (short : run < 5) (bits : List Bool) :
    unstuffFrom last run (stuffFrom last run bits) = some bits := by
  induction bits generalizing last run with
  | nil => exact if_neg (by omega)
  | cons b rest ih =>
    have going : run ≠ 5 := by omega
    by_cases same : b = last
    · subst same
      by_cases full : run + 1 = 5
      · simp [stuffFrom, unstuffFrom, full, going, ih]
      · simp [stuffFrom, unstuffFrom, full, going, ih b (run + 1) (by omega)]
    · simp [stuffFrom, unstuffFrom, same, going, ih]

theorem unstuff_stuff (bits : List Bool) : unstuff (stuff bits) = some bits :=
  unstuffFrom_stuffFrom true 0 (by decide) bits

-- Fields (02 2.4)

@[simp] theorem fieldBits_length {w : Nat} (v : BitVec w) : (fieldBits v).length = w := by simp [fieldBits]

theorem ofNat_fieldValue_fieldBits {w : Nat} (v : BitVec w) : BitVec.ofNat w (fieldValue (fieldBits v)) = v := by
  refine BitVec.eq_of_getLsbD_eq fun i below => ?_
  rw [BitVec.getLsbD_ofNat, fieldValue, fieldBits, List.map_reverse, List.foldl_reverse, testBit_foldr_bits]
  simp [below]

section Field
variable {w k : Nat} (v : BitVec w) (u : BitVec k) (rest : List Bool)

@[simp] theorem payloadField_first : payloadField w (fieldBits v ++ rest) 0 = v := by
  rw [payloadField, List.drop_zero, List.take_append_of_le_length (by simp), List.take_of_length_le (by simp),
    ofNat_fieldValue_fieldBits]

@[simp] theorem payloadField_only : payloadField w (fieldBits v) 0 = v := by
  have first := payloadField_first v []
  rwa [List.append_nil] at first

@[simp] theorem payloadField_later {place : Nat} (after : k ≤ place) :
    payloadField w (fieldBits u ++ rest) place = payloadField w rest (place - k) := by
  rw [payloadField, payloadField, List.drop_append, List.drop_of_length_le (by simpa using after), fieldBits_length,
    List.nil_append]

end Field

theorem payloadField_flatMap (us : List Word16) (i : Nat) (below : i < us.length) :
    payloadField 16 (us.flatMap fieldBits) (16 * i) = us[i] := by
  induction us generalizing i with
  | nil => contradiction
  | cons u us ih =>
    rw [List.flatMap_cons]
    cases i with
    | zero => exact payloadField_first ..
    | succ i =>
      rw [payloadField_later _ _ (by omega), show 16 * (i + 1) - 16 = 16 * i by omega]
      exact ih i (by simpa using below)

/-- The payload of a frame has the length of its kind (02 2.4). -/
theorem Frame.payloadBits_length (f : Frame) : f.payloadBits.length = payloadLength f.kind.code := by
  cases f with
  | counts d us => simp [Frame.payloadBits, Frame.kind, FrameKind.code, payloadLength, List.length_flatMap]
  | _ => simp [Frame.payloadBits, Frame.kind, FrameKind.code, payloadLength, binField]

theorem FrameKind.nibble_toNat (k : FrameKind) : k.nibble.toNat = k.code := by
  cases k <;> rfl

/-- A receiver gives every field of a frame the value that its sender gave it. -/
theorem takenCommand_payloadBits (f : Frame) (rx : Reception) (sender : Nibble) :
    takenCommand rx f.kind.nibble sender f.payloadBits = f.takenAs rx sender := by
  cases f with
  | counts d us =>
    have used : (Vector.ofFn fun i : Fin 8 => payloadField 16 (Frame.counts d us).payloadBits (16 + 16 * i.val)) = us := by
      refine Vector.ext fun i below => ?_
      rw [Vector.getElem_ofFn, Frame.payloadBits, payloadField_later _ _ (by omega), Nat.add_sub_cancel_left,
        payloadField_flatMap _ i (by simpa using below), Vector.getElem_toList]
    simp only [takenCommand, FrameKind.nibble_toNat, Frame.kind, FrameKind.code, Frame.takenAs, used]
    simp [Frame.payloadBits]
  | _ => simp [takenCommand, FrameKind.nibble_toNat, Frame.kind, FrameKind.code, Frame.takenAs, Frame.payloadBits, binField]

/-- The check of a frame is over kind, sender and payload, as its receiver reads them (02 R33). -/
theorem Frame.checkedBits_length (f : Frame) (station : Nat) :
    (f.checkedBits station).length = 8 + payloadLength f.kind.code := by
  simp only [Frame.checkedBits, List.length_append, fieldBits_length, Frame.payloadBits_length]

theorem Frame.checkedBits_payload (f : Frame) (station : Nat) : (f.checkedBits station).drop 8 = f.payloadBits := by
  simp [Frame.checkedBits, List.drop_append]

/-- Settles O25. -/
theorem framesReadBack : Obligations.FramesReadBack := by
  intro f rx station _ _
  have length := f.checkedBits_length station
  have kind : payloadField 4 (f.stuffedFields station) 1 = f.kind.nibble := by
    simp [payloadField, Frame.stuffedFields, Frame.checkedBits, ofNat_fieldValue_fieldBits]
  have sender : payloadField 4 (f.stuffedFields station) 5 = BitVec.ofNat 4 station := by
    simp [payloadField, Frame.stuffedFields, Frame.checkedBits, ofNat_fieldValue_fieldBits]
  have checked : ((f.stuffedFields station).drop 1).take (8 + payloadLength f.kind.code) = f.checkedBits station := by
    rw [← length]
    simp [Frame.stuffedFields]
  have check : ((f.stuffedFields station).drop (9 + payloadLength f.kind.code)).take 16 = fieldBits (f.check station) := by
    rw [show 9 + payloadLength f.kind.code = (f.checkedBits station).length + 1 by omega]
    simp [Frame.stuffedFields]
  unfold readFrame
  rw [unstuff_stuff]
  dsimp only
  rw [kind, sender, FrameKind.nibble_toNat, checked, check, if_pos (by rfl), Frame.checkedBits_payload,
    takenCommand_payloadBits]

end Machine
end Sys2Proof
end

section
/-! PROOF. The facts about the Bin Table that the Taken frames and the pitch marks need: BIN CHANGE (04 R83) and the adoption
of a carried count (04 R75). -/
set_option Elab.async false
namespace Sys2Proof
namespace Machine

-- What the fullness of a bin depends on (04 R74)

section Kept
variable {ps : List Part} {s t : State} (h : Changes ps s t)
include h

theorem Changes.used (out : .used ∉ ps := by simp [NoticeDetail.kind]) (b : BinNo) : t.bins[b].used = s.bins[b].used :=
  congrFun (h .used out) b

theorem Changes.binState (out : .binStates ∉ ps := by simp [NoticeDetail.kind]) (b : BinNo) :
    t.bins[b].state = s.bins[b].state := congrFun (h .binStates out) b

theorem Changes.claimedCount (out : .map ∉ ps := by simp [NoticeDetail.kind]) (b : BinNo) :
    t.claimedCount b = s.claimedCount b := congrArg (fun m => m.countP (Entry.claimedFor b)) (h .map out)

theorem Changes.capacity (out : .cfg ∉ ps := by simp [NoticeDetail.kind]) (b : BinNo) :
    t.capacityOf b = s.capacityOf b ∧ t.capacity b = s.capacity b := by
  have same : t.host.cfg = s.host.cfg := h.config out
  have configured : t.host.configured = s.host.configured := congrArg (fun c => c.2.1) (h .cfg out)
  have equal : t.capacityOf b = s.capacityOf b := by simp only [State.capacityOf, same]
  exact ⟨equal, by simp only [State.capacity, configured, equal]⟩

theorem Changes.full (used : .used ∉ ps := by simp [NoticeDetail.kind]) (map : .map ∉ ps := by simp [NoticeDetail.kind])
    (cfg : .cfg ∉ ps := by simp [NoticeDetail.kind]) (b : BinNo) : t.full b = s.full b := by
  simp only [State.full, State.usedOf, h.used used b, h.claimedCount map b, (h.capacity cfg b).1]

end Kept

-- BIN CHANGE (04 R83)

/-- A bin's record with its reported full mark at the bin's fullness. -/
def State.reported (s : State) (b : BinNo) : BinRecord := { s.bins[b] with reportedFull := s.full b }

/-- The BIN CHANGE of one bin. -/
def State.binChange (before : Vector BinRecord 9) (s : State) (b : BinNo) : NoticeDetail :=
  .binChange b s.bins[b].state s.bins[b].used (s.claimedCount b) (s.capacity b) (s.full b) (State.binChanges before s b)

/-- What a report of some bins leaves of the notice record: the last changed bin in its detail, one occurrence for each. -/
def NoticeRecord.binsReported (r : NoticeRecord) (before : Vector BinRecord 9) (s : State) (changed : List BinNo) :
    NoticeRecord :=
  match changed.getLast? with
  | some b => { detail := some (State.binChange before s b), count := min 255 (r.count + changed.length) }
  | none => r

theorem State.setBin_notices (s : State) (b : BinNo) (r : BinRecord) : (s.setBin b r).notices = s.notices := by
  unfold State.setBin
  split <;> rfl

section Report
variable (before : Vector BinRecord 9)

theorem State.reported_of_quiet {s : State} {b : BinNo} (quiet : (State.binChanges before s b).any = false) :
    s.reported b = s.bins[b] := by
  have full : s.full b = s.bins[b].reportedFull := by
    simp only [BinChanges.any, Bool.or_eq_false_iff, State.binChanges, bne_eq_false_iff_eq] at quiet
    exact quiet.2
  rw [State.reported, full]

theorem State.reportBin_bins (s : State) {b : BinNo} (gated : b ≠ 0) (k : BinNo) :
    (s.reportBin before b).bins[k] = if k = b then s.reported b else s.bins[k] := by
  unfold State.reportBin
  dsimp only
  by_cases any : (State.binChanges before s b).any = true
  · rw [if_pos any, State.setBin_bins]
    simp only [gated, ne_eq, not_false_eq_true, and_true]
    rfl
  · rw [if_neg any]
    split
    next same => rw [same, State.reported_of_quiet before (by simpa using any)]
    · rfl

theorem State.reportBin_of_quiet {s : State} {b : BinNo} (quiet : (State.binChanges before s b).any = false) :
    s.reportBin before b = s := if_neg (by simp [quiet])

theorem State.reportBin_notice (s : State) (b : BinNo) : (s.reportBin before b).notices[NoticeKind.binChange.index] =
    if (State.binChanges before s b).any then
      { detail := some (State.binChange before s b)
        count := min 255 (s.notices[NoticeKind.binChange.index].count + 1) }
    else s.notices[NoticeKind.binChange.index] := by
  unfold State.reportBin
  dsimp only
  split
  · refine Eq.trans ?_ (s.raise_record (State.binChange before s b) (k := .binChange) rfl)
    exact congrArg (fun n : Vector NoticeRecord 22 => n[NoticeKind.binChange.index]) (State.setBin_notices ..)
  · rfl

/-- What the report of one bin leaves of another. -/
theorem State.binChanges_reportBin (s : State) {b k : BinNo} (gated : b ≠ 0) (other : k ≠ b) :
    State.binChanges before (s.reportBin before b) k = State.binChanges before s k
      ∧ State.binChange before (s.reportBin before b) k = State.binChange before s k
      ∧ (s.reportBin before b).reported k = s.reported k := by
  have changes := s.reportBin_changes before b
  have same : (s.reportBin before b).bins[k] = s.bins[k] := by rw [s.reportBin_bins before gated, if_neg other]
  have equal : State.binChanges before (s.reportBin before b) k = State.binChanges before s k := by
    simp only [State.binChanges, same, changes.full]
  refine ⟨equal, ?_, ?_⟩
  · simp only [State.binChange, same, changes.full, changes.claimedCount, (changes.capacity ..).2, equal]
  · simp only [State.reported, same, changes.full]

theorem State.reportList_bins (l : List BinNo) (distinct : l.Nodup) (gated : ∀ b ∈ l, b ≠ 0) (s : State) (k : BinNo) :
    (l.foldl (State.reportBin before) s).bins[k] = if k ∈ l then s.reported k else s.bins[k] := by
  induction l generalizing s with
  | nil => simp
  | cons b l ih =>
    obtain ⟨fresh, distinct⟩ := List.nodup_cons.mp distinct
    obtain ⟨first, gated⟩ := List.forall_mem_cons.mp gated
    rw [List.foldl_cons, ih distinct gated, s.reportBin_bins before first]
    by_cases same : k = b
    · subst same
      simp [fresh]
    · rw [(s.binChanges_reportBin before first same).2.2]
      simp [same]

theorem State.reportList_notice (l : List BinNo) (distinct : l.Nodup) (gated : ∀ b ∈ l, b ≠ 0) (s : State) :
    (l.foldl (State.reportBin before) s).notices[NoticeKind.binChange.index] =
      s.notices[NoticeKind.binChange.index].binsReported before s
        (l.filter fun b => (State.binChanges before s b).any) := by
  induction l generalizing s with
  | nil => rfl
  | cons b l ih =>
    obtain ⟨fresh, distinct⟩ := List.nodup_cons.mp distinct
    obtain ⟨first, gated⟩ := List.forall_mem_cons.mp gated
    have other (k : BinNo) (mem : k ∈ l) : k ≠ b := fun same => fresh (same ▸ mem)
    have tail : (l.filter fun k => (State.binChanges before (s.reportBin before b) k).any) =
        l.filter fun k => (State.binChanges before s k).any :=
      List.filter_congr fun k mem => by rw [(s.binChanges_reportBin before first (other k mem)).1]
    rw [List.foldl_cons, ih distinct gated, tail, s.reportBin_notice before b, List.filter_cons]
    split
    · simp only [NoticeRecord.binsReported, List.getLast?_cons, List.length_cons]
      cases last : (l.filter fun k => (State.binChanges before s k).any).getLast? with
      | none => simp [List.getLast?_eq_none_iff.mp last]
      | some k =>
        have mem : k ∈ l := (List.mem_filter.mp (List.mem_of_getLast? last)).1
        simp only [(s.binChanges_reportBin before first (other k mem)).2.1, Option.getD_some]
        congr 1
        omega
    · simp only [NoticeRecord.binsReported]
      cases last : (l.filter fun k => (State.binChanges before s k).any).getLast? with
      | none => rfl
      | some k =>
        have mem : k ∈ l := (List.mem_filter.mp (List.mem_of_getLast? last)).1
        simp only [(s.binChanges_reportBin before first (other k mem)).2.1]

theorem gatedBins_nodup : gatedBins.Nodup := by decide
theorem mem_gatedBins {b : BinNo} : b ∈ gatedBins ↔ b ≠ 0 := by
  revert b
  decide

theorem State.reportBins_bins (s : State) (k : BinNo) :
    (s.reportBins before).bins[k] = if k ≠ 0 then s.reported k else s.bins[k] := by
  rw [State.reportBins, State.reportList_bins before gatedBins gatedBins_nodup (fun _ => mem_gatedBins.mp)]
  simp only [mem_gatedBins]

theorem State.reportBins_notice (s : State) : (s.reportBins before).notices[NoticeKind.binChange.index] =
    s.notices[NoticeKind.binChange.index].binsReported before s
      (gatedBins.filter fun b => (State.binChanges before s b).any) :=
  State.reportList_notice before gatedBins gatedBins_nodup (fun _ => mem_gatedBins.mp) s

theorem State.reportBins_of_quiet {s : State} (quiet : ∀ b ∈ gatedBins, (State.binChanges before s b).any = false) :
    s.reportBins before = s := by
  unfold State.reportBins
  generalize gatedBins = l at quiet
  induction l with
  | nil => rfl
  | cons b l ih =>
    obtain ⟨first, quiet⟩ := List.forall_mem_cons.mp quiet
    rw [List.foldl_cons, State.reportBin_of_quiet before first, ih quiet]

/-- Where nothing has happened to a bin and its full mark is as reported, nothing is reported. -/
theorem State.reportBins_self {s : State} (reported : ∀ b : BinNo, s.full b = s.bins[b].reportedFull) :
    s.reportBins s.bins = s :=
  State.reportBins_of_quiet _ fun b _ => by simp [BinChanges.any, State.binChanges, reported]

end Report

/-- A report of the bins, and what follows it without touching the bins, is what 04 R83 says. -/
theorem State.reportsBins_of_reportBins {s u t : State} {ps : List Part}
    (mark : ∀ b : BinNo, u.bins[b].reportedFull = s.bins[b].reportedFull)
    (notice : u.notices[NoticeKind.binChange.index] = s.notices[NoticeKind.binChange.index])
    (later : Changes ps (u.reportBins s.bins) t) (bins : .bins ∉ ps := by simp [NoticeDetail.kind])
    (used : .used ∉ ps := by simp [NoticeDetail.kind]) (map : .map ∉ ps := by simp [NoticeDetail.kind])
    (cfg : .cfg ∉ ps := by simp [NoticeDetail.kind]) (told : .notice .binChange ∉ ps := by simp [NoticeDetail.kind]) :
    s.reportsBins t := by
  have reports := u.reportBins_changes s.bins
  have record (b : BinNo) (gated : b ≠ 0) : t.bins[b] = u.reported b := by
    have kept : t.bins = (u.reportBins s.bins).bins := later _ bins
    simp only [kept]
    rw [State.reportBins_bins, if_pos gated]
  have full (b : BinNo) : t.full b = u.full b := (later.full used map cfg b).trans (reports.full (b := b))
  have differs (b : BinNo) (gated : b ≠ 0) : (
      { state := s.bins[b].state.cause.isSome != t.bins[b].state.cause.isSome
        cause := s.bins[b].state.cause != t.bins[b].state.cause
        known := s.bins[b].used.isSome != t.bins[b].used.isSome
        fullness := t.full b != s.bins[b].reportedFull } : BinChanges) = State.binChanges s.bins u b := by
    simp only [State.binChanges, record b gated, full, State.reported, mark]
  have last : t.notices[NoticeKind.binChange.index] = s.notices[NoticeKind.binChange.index].binsReported s.bins u
      (gatedBins.filter fun b => (State.binChanges s.bins u b).any) := by
    rw [← notice, ← State.reportBins_notice]
    exact later _ told
  have changed : (gatedBins.filter fun b => (State.binChanges s.bins u b).any) = gatedBins.filter fun b =>
      (s.bins[b].state.cause.isSome != t.bins[b].state.cause.isSome) || (s.bins[b].state.cause != t.bins[b].state.cause)
        || (s.bins[b].used.isSome != t.bins[b].used.isSome) || (t.full b != s.bins[b].reportedFull) :=
    List.filter_congr fun b mem => by rw [← differs b (mem_gatedBins.mp mem), BinChanges.any]
  rw [changed] at last
  refine ⟨fun b gated => ?_, fun none => ?_, fun b end_ => ?_⟩
  · rw [record b gated, full]
    rfl
  · rw [last]
    simp only [NoticeRecord.binsReported]
    dsimp only at none
    rw [none]
    rfl
  · have mem : b ∈ gatedBins := (List.mem_filter.mp (List.mem_of_getLast? end_)).1
    have gated := mem_gatedBins.mp mem
    rw [last]
    dsimp only at end_
    simp only [NoticeRecord.binsReported, end_, State.binChange, ← differs b gated]
    rw [record b gated, full, later.claimedCount map, reports.claimedCount, (later.capacity cfg b).2,
      (reports.capacity (b := b)).2]
    rfl

end Machine
end Sys2Proof
end

section
/-! PROOF. The adoption of a carried count (04 R75), of one and of the eight of a COUNTS (04 R80). -/
set_option Elab.async false
namespace Sys2Proof
namespace Machine

-- The adoption of a carried count (04 R75)

theorem usedField_of_known {u : Word16} (known : u ≠ 0xFFFF#16) : usedField u = some u.toNat := if_neg known
theorem usedField_unknown : usedField 0xFFFF#16 = none := rfl

/-- The used count of a bin after the adoption of a carried count. -/
def adoptedUsed (used : Option Nat) (u : Word16) : Option Nat := if u = 0xFFFF#16 then used else some u.toNat

theorem State.checkCount_bins (s : State) (k : FrameKind) (n : Nat) (b : BinNo) (c : Nat) :
    (s.checkCount k n b c).bins = s.bins := (s.checkCount_changes k n b c).keeps .bins

theorem State.adopt_bins (s : State) (k : FrameKind) (n : Nat) (b : BinNo) (u : Word16) (c : BinNo) :
    (s.adopt k n b u).bins[c] = if c = b ∧ b ≠ 0 then { s.bins[b] with used := adoptedUsed s.bins[b].used u }
      else s.bins[c] := by
  unfold State.adopt
  by_cases unknown : u = 0xFFFF#16
  · subst unknown
    simp only [usedField_unknown, adoptedUsed, if_true]
    split
    next at_ => rw [at_.1]
    · rfl
  · by_cases zero : b = 0
    · simp [usedField_of_known unknown, zero]
    · have gated : ¬b.val = 0 := fun h => zero (Fin.ext h)
      simp only [usedField_of_known unknown, gated, if_false, adoptedUsed, unknown]
      rw [State.setBin_bins]
      simp only [State.checkCount_bins]

theorem State.adopt_used_self (s : State) (k : FrameKind) (n : Nat) {b : BinNo} (gated : b ≠ 0) (u : Word16) :
    (s.adopt k n b u).bins[b].used = adoptedUsed s.bins[b].used u := by
  rw [State.adopt_bins, if_pos ⟨rfl, gated⟩]

theorem State.adopt_used_other (s : State) (k : FrameKind) (n : Nat) {b c : BinNo} (other : c ≠ b ∨ b = 0) (u : Word16) :
    (s.adopt k n b u).bins[c].used = s.bins[c].used := by
  rw [State.adopt_bins, if_neg fun ⟨same, gated⟩ => other.elim (· same) gated]

theorem State.adopt_mark (s : State) (k : FrameKind) (n : Nat) (b : BinNo) (u : Word16) (c : BinNo) :
    (s.adopt k n b u).bins[c].reportedFull = s.bins[c].reportedFull := by
  rw [State.adopt_bins]
  split
  next at_ => rw [at_.1]
  · rfl

/-- The COUNT MISMATCH of an adoption, before the record is set. -/
theorem State.adopt_notices (s : State) (k : FrameKind) (n : Nat) (b : BinNo) (u : Word16) : (s.adopt k n b u).notices =
    if b = 0 ∨ u = 0xFFFF#16 then s.notices else (s.checkCount k n b u.toNat).notices := by
  unfold State.adopt
  by_cases unknown : u = 0xFFFF#16
  · subst unknown
    simp [usedField_unknown]
  · by_cases zero : b = 0
    · simp [usedField_of_known unknown, zero]
    · have gated : ¬b.val = 0 := fun h => zero (Fin.ext h)
      simp only [usedField_of_known unknown, gated, if_false, unknown, zero, or_self]
      exact State.setBin_notices ..

/-- An adoption compares the carried count with the one the replica expects. -/
theorem State.adopt_compares (s : State) {k : FrameKind} {expected : Nat → Nat}
    (fills : ∀ n, expectedUsed k n = some (expected n)) (n : Nat) (b : BinNo) (u : Word16) :
    s.comparesCount (s.adopt k n b u) k n b expected u := by
  have notices := s.adopt_notices k n b u
  refine ⟨fun used gated known carried differs => ?_, fun agrees => ?_⟩
  · have check : s.checkCount k n b u.toNat = s.raise (.countMismatch b used (expected used) u.toNat k n) := by
      simp only [State.checkCount, State.usedOf, known, fills, differs, if_false]
    simp only [notices, gated, carried, or_self, if_false, check]
    exact s.raise_record _ rfl
  · simp only [notices]
    split
    · rfl
    next counts =>
      have check : s.checkCount k n b u.toNat = s := by
        rcases agrees with zero | unknown | absent | same
        · exact absurd (.inl zero) counts
        · exact absurd (.inr unknown) counts
        · simp only [State.checkCount, State.usedOf, absent]
        · obtain ⟨used, known, equal⟩ := Option.map_eq_some_iff.mp same
          simp only [State.checkCount, State.usedOf, known, fills, ← equal, if_true]
      exact congrArg (fun t : State => t.notices[NoticeKind.countMismatch.index]) check

/-- Where the expected count says nothing of the kind, nothing is compared. -/
theorem State.adopt_notices_of_binSet (s : State) (n : Nat) (b : BinNo) (u : Word16) :
    (s.adopt .binSet n b u).notices = s.notices := by
  have check : (s.checkCount .binSet n b u.toNat).notices = s.notices := by
    unfold State.checkCount
    split <;> rfl
  rw [State.adopt_notices, check, ite_self]

/-- The comparison reads the count before and the notice after. -/
theorem State.comparesCount.after {s t u : State} {k : FrameKind} {n : Nat} {b : BinNo} {expected : Nat → Nat} {w : Word16}
    (h : s.comparesCount t k n b expected w)
    (same : u.notices[NoticeKind.countMismatch.index] = t.notices[NoticeKind.countMismatch.index]) :
    s.comparesCount u k n b expected w :=
  ⟨fun used gated known carried differs => same.trans (h.1 used gated known carried differs),
    fun agrees => same.trans (h.2 agrees)⟩

-- The eight counts of a COUNTS (04 R80)

/-- A carried count of a COUNTS differs from the Known one. -/
def State.countDiffers (s : State) (used : Vector Word16 8) (i : Fin 8) : Bool :=
  used[i] != 0xFFFF#16 && s.bins[i.succ].used.any fun n => n != used[i].toNat

/-- What the comparison of some bins leaves of the notice record: the last differing bin in its detail, one occurrence for
each. -/
def NoticeRecord.countsCompared (r : NoticeRecord) (s : State) (sender : Nat) (used : Vector Word16 8)
    (differing : List (Fin 8)) : NoticeRecord :=
  match differing.getLast? with
  | some i => { detail := s.bins[i.succ].used.map fun n => .countMismatch i.succ n n used[i].toNat .counts sender
                count := min 255 (r.count + differing.length) }
  | none => r

section Counts
variable (n : Nat) (used : Vector Word16 8)

theorem State.adopt_counts_notice (s : State) (i : Fin 8) :
    (s.adopt .counts n i.succ used[i]).notices[NoticeKind.countMismatch.index] =
      s.notices[NoticeKind.countMismatch.index].countsCompared s n used (if s.countDiffers used i then [i] else []) := by
  obtain ⟨differs, agrees⟩ := s.adopt_compares (k := .counts) (expected := fun n => n) (fun _ => rfl) n i.succ used[i]
  unfold State.countDiffers
  by_cases carried : used[i] = 0xFFFF#16
  · rw [agrees (.inr (.inl carried))]
    simp [carried, NoticeRecord.countsCompared]
  · cases known : s.bins[i.succ].used with
    | none =>
      rw [agrees (.inr (.inr (.inl known)))]
      simp [NoticeRecord.countsCompared]
    | some m =>
      by_cases same : m = used[i].toNat
      · rw [agrees (.inr (.inr (.inr (by rw [known, same]; rfl))))]
        simp [same, NoticeRecord.countsCompared]
      · rw [differs m (Fin.succ_ne_zero i) known carried (Ne.symm same)]
        have counts : (used[i] != 0xFFFF#16 && (some m).any fun k => k != used[i].toNat) = true :=
          Bool.and_eq_true_iff.mpr ⟨bne_iff_ne.mpr carried, bne_iff_ne.mpr same⟩
        simp only [counts, if_true, NoticeRecord.countsCompared, List.getLast?_singleton, List.length_singleton]
        rw [known]
        rfl

theorem State.adoptList_bins (l : List (Fin 8)) (distinct : l.Nodup) (s : State) (i : Fin 8) :
    (l.foldl (fun s i => s.adopt .counts n i.succ used[i]) s).bins[i.succ] =
      if i ∈ l then { s.bins[i.succ] with used := adoptedUsed s.bins[i.succ].used used[i] } else s.bins[i.succ] := by
  induction l generalizing s with
  | nil => simp
  | cons j l ih =>
    obtain ⟨fresh, distinct⟩ := List.nodup_cons.mp distinct
    rw [List.foldl_cons, ih distinct, State.adopt_bins]
    by_cases same : i = j
    · subst same
      simp [fresh, Fin.succ_ne_zero]
    · simp [same]

theorem State.adoptList_notice (l : List (Fin 8)) (distinct : l.Nodup) (s : State) :
    (l.foldl (fun s i => s.adopt .counts n i.succ used[i]) s).notices[NoticeKind.countMismatch.index] =
      s.notices[NoticeKind.countMismatch.index].countsCompared s n used (l.filter (s.countDiffers used)) := by
  induction l generalizing s with
  | nil => rfl
  | cons j l ih =>
    obtain ⟨fresh, distinct⟩ := List.nodup_cons.mp distinct
    have other (i : Fin 8) (mem : i ∈ l) :
        (s.adopt .counts n j.succ used[j]).bins[i.succ].used = s.bins[i.succ].used :=
      s.adopt_used_other .counts n (.inl fun same => fresh ((Fin.succ_inj.mp same : i = j) ▸ mem)) _
    have tail : l.filter ((s.adopt .counts n j.succ used[j]).countDiffers used) = l.filter (s.countDiffers used) :=
      List.filter_congr fun i mem => by simp only [State.countDiffers, other i mem]
    rw [List.foldl_cons, ih distinct, tail, State.adopt_counts_notice, List.filter_cons]
    cases last : (l.filter (s.countDiffers used)).getLast? with
    | none =>
      have empty := List.getLast?_eq_none_iff.mp last
      split <;> simp [NoticeRecord.countsCompared, empty]
    | some i =>
      have mem : i ∈ l := (List.mem_filter.mp (List.mem_of_getLast? last)).1
      split
      · simp only [NoticeRecord.countsCompared, last, List.getLast?_cons, List.length_cons, Option.getD_some,
          List.getLast?_nil, Option.getD_none, List.length_nil]
        rw [other i mem]
        congr 1
        omega
      · simp only [NoticeRecord.countsCompared, last, List.getLast?_nil]
        rw [other i mem]

theorem State.adoptCounts_bins (s : State) (i : Fin 8) : (s.adoptCounts n used).bins[i.succ] =
    { s.bins[i.succ] with used := adoptedUsed s.bins[i.succ].used used[i] } := by
  rw [State.adoptCounts, State.adoptList_bins n used _ (List.nodup_finRange 8), if_pos (List.mem_finRange i)]

theorem State.adoptCounts_compares (s : State) : s.comparesCounts (s.adoptCounts n used) n used := by
  have notice := State.adoptList_notice n used _ (List.nodup_finRange 8) s
  refine ⟨fun same => ?_, fun i m last known => ?_⟩
  · refine notice.trans ?_
    have empty : (List.finRange 8).filter (s.countDiffers used) = [] := same
    rw [empty]
    rfl
  · refine notice.trans ?_
    have end_ : ((List.finRange 8).filter (s.countDiffers used)).getLast? = some i := last
    simp only [NoticeRecord.countsCompared, end_, known, Option.map_some]
    rfl

end Counts

theorem State.comparesCounts.after {s t u : State} {n : Nat} {used : Vector Word16 8} (h : s.comparesCounts t n used)
    (same : u.notices[NoticeKind.countMismatch.index] = t.notices[NoticeKind.countMismatch.index]) :
    s.comparesCounts u n used :=
  ⟨fun agrees => same.trans (h.1 agrees), fun i m last known => same.trans (h.2 i m last known)⟩

end Machine
end Sys2Proof
end

section
/-! PROOF. O26, and what every Taken frame does alike (02 R31, R39 to R41; 05 R96): the screen, the Line Controller's part, and
the frame applied and reported. -/
set_option Elab.async false
namespace Sys2Proof
namespace Machine

-- The screen (02 R31)

theorem toNat_ofNat_bin (b : BinNo) : (BitVec.ofNat 4 b.val).toNat = b.val := by
  rw [BitVec.toNat_ofNat]
  exact Nat.mod_eq_of_lt (by omega)

theorem binOf_bin (b : BinNo) : binOf (BitVec.ofNat 4 b.val).toNat = some b := by
  rw [toNat_ofNat_bin]
  exact dif_pos b.isLt

@[simp] theorem screenedBin_bin (b : BinNo) : screenedBin (BitVec.ofNat 4 b.val) = b := by rw [screenedBin, binOf_bin]; rfl

theorem binOf_eq_none_iff {n : Nat} : (binOf n).isNone = true ↔ 8 < n := by
  unfold binOf
  split <;> simp <;> omega

theorem ofCode_eq_none_iff {n : Nat} : (Material.ofCode n).isNone = true ↔ n = 0 ∨ 5 < n := by
  unfold Material.ofCode
  split <;> simp_all
  omega

theorem ofCode_code_material (m : Material) : Material.ofCode (BitVec.ofNat 4 m.code).toNat = some m := by cases m <;> rfl

theorem ofCode_code_cause (c : HoldCause) : HoldCause.ofCode (BitVec.ofNat 4 c.code).toNat = some c := by cases c <;> rfl

theorem holdCause_ofCode_none {cause : Nibble} (notStaff : cause ≠ 1) (notGate : cause ≠ 2) :
    HoldCause.ofCode cause.toNat = none := by
  revert cause
  decide

section Screen
variable {sender bin material cause : Nibble}

theorem screenFields_sender (out : senderInRange sender = false) (b m c : Option Nibble) :
    screenFields sender b m c = some .sender := by
  simp [screenFields, out]

theorem binOf_isNone_of_le (within : bin.toNat ≤ 8) : (binOf bin.toNat).isNone = false :=
  Bool.eq_false_iff.mpr fun out => absurd (binOf_eq_none_iff.mp out) (by omega)

variable (inRange : senderInRange sender = true)
include inRange

theorem screenFields_bin (out : 8 < bin.toNat) (m c : Option Nibble) :
    screenFields sender (some bin) m c = some .bin := by
  simp [screenFields, inRange, binOf_eq_none_iff.mpr out]

theorem screenFields_material (within : bin.toNat ≤ 8) (out : material = 0 ∨ 5 < material.toNat) (c : Option Nibble) :
    screenFields sender (some bin) (some material) c = some .material := by
  have zero : (0 : Nibble).toNat = 0 := rfl
  have bad := ofCode_eq_none_iff.mpr (out.imp_left fun h => by rw [h, zero])
  simp [screenFields, inRange, binOf_isNone_of_le within, bad]

theorem screenFields_cause (within : bin.toNat ≤ 8) (notStaff : cause ≠ 1) (notGate : cause ≠ 2) :
    screenFields sender (some bin) none (some cause) = some .cause := by
  simp [screenFields, inRange, binOf_isNone_of_le within, holdCause_ofCode_none notStaff notGate]

theorem screenFields_plain : screenFields sender none none none = none := by simp [screenFields, inRange]

theorem screenFields_inBin (b : BinNo) : screenFields sender (some (BitVec.ofNat 4 b.val)) none none = none := by
  simp only [screenFields, inRange, Option.any_some, binOf_bin]
  rfl

theorem screenFields_inMaterial (b : BinNo) (m : Material) :
    screenFields sender (some (BitVec.ofNat 4 b.val)) (some (BitVec.ofNat 4 m.code)) none = none := by
  simp only [screenFields, inRange, Option.any_some, binOf_bin, ofCode_code_material]
  rfl

theorem screenFields_inCause (b : BinNo) (c : HoldCause) :
    screenFields sender (some (BitVec.ofNat 4 b.val)) none (some (BitVec.ofNat 4 c.code)) = none := by
  simp only [screenFields, inRange, Option.any_some, binOf_bin, ofCode_code_cause]
  rfl

end Screen

-- The Line Controller's part (02 R28, R29, R39 to R41)

/-- The state as the Line Controller has taken a frame, before it is applied. -/
def State.withLine (s : State) (l : Line) : State := { s with line := l }

/-- The state as the Line Controller has taken a frame of another station, before it is applied. -/
def State.echoed (s : State) (rx : Reception) : State := { s with line := s.lineAfter rx }

theorem State.measureTaken_eq (s : State) (current : LineCurrent) : s.measureTaken current = { s with line := { s.line with
    overloadTimer := s.timerMeasured current
    overloadCount := if s.driverDrives = true ∧ current ≠ [] ∧ true ∉ current then 0 else s.line.overloadCount } } := by
  have clean : (s.driverDrives && !current.isEmpty && !current.contains true) = true ↔
      s.driverDrives = true ∧ current ≠ [] ∧ true ∉ current := by
    simp [and_assoc]
  simp only [State.measureTaken, State.mapLine, State.measureCurrent, clean]
  rfl

theorem State.driveSlot_none (s : State) : s.driveSlot .none = { s with line := { s.line with slot := .none } } := by
  rw [State.driveSlot, ite_self]

theorem State.receiveTaken_other (s : State) (rx : Reception) : s.receiveTaken rx false = s.echoed rx := by
  simp only [State.receiveTaken, State.measureTaken_eq]
  rfl

theorem State.takesAsOwn_of_waiting {s : State} (waiting : allWaiting s.line.queue) (t : TakenFrame) :
    s.takesAsOwn t = false := by
  simp [State.takesAsOwn, State.inFlight_none waiting]

theorem State.takesAsOwn_of_other {s : State} {t : TakenFrame} (other : t.station ≠ s.station) : s.takesAsOwn t = false := by
  simp [State.takesAsOwn, other]

section Own
variable {s : State} {pre post : List QueuedFrame} {g : QueuedFrame} (queue : s.line.queue = pre ++ g :: post)
  (before : allWaiting pre) (after : allWaiting post) (sent : g.phase ≠ .waiting)
include queue before sent

theorem State.takesAsOwn_of_sent {t : TakenFrame} (own : t.station = s.station) (kind : g.frame.kind = t.kind)
    (subject : g.frame.subject = t.subject) : s.takesAsOwn t = true := by
  have flight := State.inFlight_split queue before sent
  simp [State.takesAsOwn, own, flight, kind, subject]

include after

theorem State.receiveTaken_own (rx : Reception) : s.receiveTaken rx true = { s with line := { s.lineAfter rx with
    queue := pre ++ post, slot := .none
    aloneCount := if rx.echo then 0 else min 8 (s.line.aloneCount + 1) } } := by
  have removed := State.removeInFlight_split (s := s.measureTaken rx.current) (q := by
    rw [State.measureTaken_eq]
    exact queue) before after sent
  simp only [State.receiveTaken, if_true]
  rw [removed, State.measureTaken_eq, State.driveSlot_none]
  rfl

end Own

-- A Taken frame (02 R31, R40; 05 R96)

/-- A frame that fails the screen is applied by no table (02 R31). -/
theorem State.take_screened {s : State} (rx : Reception) {t : TakenFrame} {f : ScreenField} (receives : s.receiving = true)
    (waiting : allWaiting s.line.queue) (bad : t.screen = some f) (apply : State → State) (report : Bool → State → State) :
    s.take rx t apply report = (s.echoed rx).raise (.mapConflict (.screen t.kind t.station f)) := by
  simp only [State.take, receives, if_true, State.takesAsOwn_of_waiting waiting, State.receiveTaken_other, bad]

/-- A frame that passes the screen is applied and reported, and is none of this station's that it did not send. -/
theorem State.take_applied {s : State} {rx : Reception} {t : TakenFrame} {l : Line} {apply : State → State}
    {report : Bool → State → State} {ps : List Part} (taken : s.takesFrom rx t.sender t.kind t.subject l)
    (good : t.screen = none) (applied : ∀ s, Changes ps s (apply s)) (reported : ∀ own s, Changes ps s (report own s))
    (cfg : .cfg ∉ ps := by simp [NoticeDetail.kind]) :
    s.take rx t apply report =
      report (decide (t.station = s.station)) ((apply (s.withLine l)).reportBins s.bins) := by
  obtain ⟨receives, _, frame⟩ := taken
  have noDuplicate (own : Bool) (u : State) (same : u.station = s.station) (owns : own = true ∨ t.station ≠ s.station) :
      u.testDuplicate t own = u := by
    refine if_neg ?_
    rcases owns with own | other
    · simp [own]
    · simp [same, other]
  have station (own : Bool) (l : Line) :
      (report own ((apply { s with line := l }).reportBins s.bins)).station = s.station :=
    congrArg Configuration.stationNumber (((reported own _).config cfg).trans
      (((apply { s with line := l }).reportBins_changes s.bins).config.trans ((applied _).config cfg)))
  rcases frame with ⟨other, rfl⟩ | ⟨own, pre, g, post, queue, before, after, sent, kind, subject, rfl⟩
  · have apart : t.station ≠ s.station := other
    simp only [State.take, receives, if_true, State.takesAsOwn_of_other apart, State.receiveTaken_other, good, apart,
      decide_false]
    exact noDuplicate _ _ (station false _) (.inr apart)
  · have same : t.station = s.station := own
    simp only [State.take, receives, if_true, State.takesAsOwn_of_sent queue before sent same kind subject,
      State.receiveTaken_own queue before after sent, good, same, decide_true]
    exact noDuplicate _ _ (station true _) (.inl rfl)

theorem State.hears.takesFrom {s : State} {sender : Nibble} (h : s.hears sender) (rx : Reception) (k : FrameKind)
    (x : Subject) : s.takesFrom rx sender k x (s.lineAfter rx) :=
  ⟨h.1, h.2.1, .inl ⟨h.2.2, rfl⟩⟩

/-- A frame with this station's number that it did not send is applied as any other, and then tested (05 R96). -/
theorem State.take_unsent {s : State} {rx : Reception} {t : TakenFrame} (apply : State → State)
    (report : Bool → State → State) (receives : s.receiving = true) (good : t.screen = none)
    (waiting : allWaiting s.line.queue) :
    s.take rx t apply report =
      (report false ((apply (s.echoed rx)).reportBins s.bins)).testDuplicate t false := by
  simp only [State.take, receives, if_true, State.takesAsOwn_of_waiting waiting, State.receiveTaken_other, good]
  rfl

/-- Settles O26. -/
theorem screenedFrameRaisesMapConflict : Obligations.ScreenedFrameRaisesMapConflict := by
  intro s rx sender bin material cause x u digest used receives waiting screened
  have screens {t : TakenFrame} {f : ScreenField} (bad : t.screen = some f) (apply : State → State)
      (report : Bool → State → State) : (.next (s.take rx t apply report) : Host.Outcome State Fault Refusal) =
        .next (({ s with line := s.lineAfter rx } : State).raise (.mapConflict (.screen t.kind t.station f))) :=
    congrArg _ (State.take_screened rx receives waiting bad apply report)
  refine ⟨?_, fun out => ?_, fun inRange out => ?_, fun inRange within out => ?_, fun inRange within notStaff notGate => ?_⟩
  · simp only [exec, execUnusedKindTaken, receives, if_true, State.receiveTaken_other]
    rfl
  · have bad := screenFields_sender out
    exact ⟨screens (bad _ _ _) _ _, screens (bad _ _ _) _ _, screens (bad _ _ _) _ _, screens (bad _ _ _) _ _,
      screens (bad _ _ _) _ _, screens (bad _ _ _) _ _, screens (bad _ _ _) _ _, screens (bad _ _ _) _ _,
      screens (bad _ _ _) _ _, screens (bad _ _ _) _ _⟩
  · have bad := screenFields_bin inRange out
    exact ⟨screens (bad _ _) _ _, screens (bad _ _) _ _, screens (bad _ _) _ _, screens (bad _ _) _ _, screens (bad _ _) _ _,
      screens (bad _ _) _ _⟩
  · exact screens (screenFields_material inRange within out _) _ _
  · exact screens (screenFields_cause inRange within notStaff notGate) _ _

end Machine
end Sys2Proof
end

section
/-! PROOF. O31: MISROUTE and the bin frames (03 R65, 04 R75, R77 to R79), and BIN CHANGE after any frame and any mark
(04 R83). -/
set_option Elab.async false
namespace Sys2Proof
namespace Machine

-- What the Taken frames are to the state, with every field in range

section Frames
variable (rx : Reception) (sender : Nibble) (x : Cleat) (b : BinNo) (m : Material) (c : HoldCause) (u digest : Word16)
  (used : Vector Word16 8)

/-- A CLAIM with the bin in range. -/
def claimFrame : TakenFrame :=
  { kind := .claim, sender := sender, subject := .cleat x
    screen := screenFields sender (some (BitVec.ofNat 4 b.val)) none none }

/-- A RELEASE. -/
def releaseFrame : TakenFrame :=
  { kind := .release, sender := sender, subject := .cleat x, screen := screenFields sender none none none }

/-- A STRAY. -/
def strayFrame : TakenFrame :=
  { kind := .stray, sender := sender, subject := .cleat x, screen := screenFields sender none none none }

/-- A LOAD with its bin and material in range. -/
def loadFrame : TakenFrame :=
  { kind := .load, sender := sender, subject := .cleat x
    screen := screenFields sender (some (BitVec.ofNat 4 b.val)) (some (BitVec.ofNat 4 m.code)) none }

/-- A MISROUTE with its bin in range. -/
def misrouteFrame : TakenFrame :=
  { kind := .misroute, sender := sender, subject := .cleat x
    screen := screenFields sender (some (BitVec.ofNat 4 b.val)) none none }

/-- A BIN SET with its bin in range. -/
def binSetFrame : TakenFrame :=
  { kind := .binSet, sender := sender, subject := .bin b
    screen := screenFields sender (some (BitVec.ofNat 4 b.val)) none none }

/-- A BIN HOLD with its bin and cause in range. -/
def binHoldFrame : TakenFrame :=
  { kind := .binHold, sender := sender, subject := .bin b
    screen := screenFields sender (some (BitVec.ofNat 4 b.val)) none (some (BitVec.ofNat 4 c.code)) }

/-- A BIN OPEN with its bin in range. -/
def binOpenFrame : TakenFrame :=
  { kind := .binOpen, sender := sender, subject := .bin b
    screen := screenFields sender (some (BitVec.ofNat 4 b.val)) none none }

/-- A COUNTS. -/
def countsFrame : TakenFrame :=
  { kind := .counts, sender := sender, subject := .none, screen := screenFields sender none none none }

/-- A JOIN. -/
def joinFrame : TakenFrame :=
  { kind := .join, sender := sender, subject := .none, screen := screenFields sender none none none }

theorem exec_claimTaken (s : State) : exec (.claimTaken rx sender x (BitVec.ofNat 4 b.val) u) s =
    .next (s.take rx (claimFrame sender x b) (fun s => s.applyClaim sender.toNat x b u) (State.reportClaim x)) := by
  simp only [exec, execClaimTaken, screenedBin_bin]
  rfl

theorem exec_releaseTaken (s : State) : exec (.releaseTaken rx sender x) s =
    .next (s.take rx (releaseFrame sender x) (fun s => s.applyRelease sender.toNat x) noReport) := rfl

theorem exec_strayTaken (s : State) : exec (.strayTaken rx sender x) s =
    .next (s.take rx (strayFrame sender x) (fun s => s.applyStray x) noReport) := rfl

theorem exec_loadTaken (s : State) :
    exec (.loadTaken rx sender x (BitVec.ofNat 4 b.val) (BitVec.ofNat 4 m.code) u) s =
      .next (s.take rx (loadFrame sender x b m) (fun s => s.applyLoad sender.toNat x b m u) noReport) := by
  simp only [exec, execLoadTaken, screenedBin_bin, ofCode_code_material]
  rfl

theorem exec_misrouteTaken (s : State) : exec (.misrouteTaken rx sender x (BitVec.ofNat 4 b.val) u) s =
    .next (s.take rx (misrouteFrame sender x b) (fun s => s.adopt .misroute sender.toNat b u) noReport) := by
  simp only [exec, execMisrouteTaken, screenedBin_bin]
  rfl

theorem exec_binSetTaken (s : State) : exec (.binSetTaken rx sender (BitVec.ofNat 4 b.val) u) s =
    .next (s.take rx (binSetFrame sender b) (fun s => s.applyBinSet sender.toNat b u) noReport) := by
  simp only [exec, execBinSetTaken, screenedBin_bin]
  rfl

theorem exec_binHoldTaken (s : State) :
    exec (.binHoldTaken rx sender (BitVec.ofNat 4 b.val) (BitVec.ofNat 4 c.code)) s =
      .next (s.take rx (binHoldFrame sender b c) (fun s => s.setBinState b (.held c)) noReport) := by
  simp only [exec, execBinHoldTaken, screenedBin_bin, ofCode_code_cause]
  rfl

theorem exec_binOpenTaken (s : State) : exec (.binOpenTaken rx sender (BitVec.ofNat 4 b.val)) s =
    .next (s.take rx (binOpenFrame sender b) (fun s => s.setBinState b .opened) noReport) := by
  simp only [exec, execBinOpenTaken, screenedBin_bin]
  rfl

theorem exec_countsTaken (s : State) : exec (.countsTaken rx sender digest used) s =
    .next (s.take rx (countsFrame sender) (fun s => s.applyCounts sender.toNat digest used) (State.reportCounts digest)) :=
  rfl

theorem exec_joinTaken (s : State) : exec (.joinTaken rx sender digest) s =
    .next (s.take rx (joinFrame sender) (fun s => s) (State.reportJoin sender.toNat digest)) := rfl

end Frames

/-- A frame that is applied and reported to no block of its sender. -/
theorem exec_of_taken {i : Instr} {s : State} {rx : Reception} {t : TakenFrame} {l : Line} {apply : State → State}
    {ps : List Part} (runs : exec i s = .next (s.take rx t apply noReport))
    (taken : s.takesFrom rx t.sender t.kind t.subject l) (good : t.screen = none) (applied : ∀ s, Changes ps s (apply s))
    (cfg : .cfg ∉ ps := by simp [NoticeDetail.kind]) :
    exec i s = .next ((apply (s.withLine l)).reportBins s.bins) :=
  runs.trans (congrArg _ (State.take_applied taken good applied (noReport_changes _) cfg))

-- The bins under the applications

theorem State.setBinState_bins (s : State) (b : BinNo) (r : BinState) (k : BinNo) :
    (s.setBinState b r).bins[k] = if k = b ∧ b ≠ 0 then { s.bins[b] with state := r } else s.bins[k] :=
  s.setBin_bins b _ k

theorem State.setBinState_mark (s : State) (b : BinNo) (r : BinState) (k : BinNo) :
    (s.setBinState b r).bins[k].reportedFull = s.bins[k].reportedFull := by
  rw [State.setBinState_bins]
  split
  next at_ => rw [at_.1]
  · rfl

theorem State.adoptCounts_mark (s : State) (n : Nat) (used : Vector Word16 8) (k : BinNo) :
    (s.adoptCounts n used).bins[k].reportedFull = s.bins[k].reportedFull := by
  unfold State.adoptCounts
  generalize List.finRange 8 = l
  induction l generalizing s with
  | nil => rfl
  | cons i l ih => rw [List.foldl_cons, ih, State.adopt_mark]

/-- What leaves the bins alone leaves their reported full marks. -/
theorem Changes.mark {ps : List Part} {s t : State} (h : Changes ps s t) (k : BinNo)
    (out : .bins ∉ ps := by simp [NoticeDetail.kind]) : t.bins[k].reportedFull = s.bins[k].reportedFull := by
  have same : t.bins = s.bins := h _ out
  simp only [same]

theorem State.applyClaim_mark (s : State) (n : Nat) (x : Cleat) (b : BinNo) (u : Word16) (k : BinNo) :
    (s.applyClaim n x b u).bins[k].reportedFull = s.bins[k].reportedFull := by
  unfold State.applyClaim
  dsimp only
  split
  · rw [(State.changeEntry_changes _ _ _).mark k]
    exact s.adopt_mark ..
  · exact s.adopt_mark ..

theorem State.misrouteLoad_mark (s : State) (x : Cleat) (b k : BinNo) :
    (s.misrouteLoad x b).bins[k].reportedFull = s.bins[k].reportedFull := (s.misrouteLoad_changes x b).mark k

theorem State.applyLoad_mark (s : State) (n : Nat) (x : Cleat) (b : BinNo) (m : Material) (u : Word16) (k : BinNo) :
    (s.applyLoad n x b m u).bins[k].reportedFull = s.bins[k].reportedFull := by
  have adopted := s.adopt_mark .load n b u k
  have written : (if ((s.adopt .load n b u).entryAt x).loads n = true then
      (s.adopt .load n b u).changeEntry x (.loaded n b m) else s.adopt .load n b u).bins[k].reportedFull =
        s.bins[k].reportedFull := by
    split
    · exact ((State.changeEntry_changes _ _ _).mark k).trans adopted
    · exact adopted
  unfold State.applyLoad
  refine (State.misrouteLoad_mark ..).trans ?_
  split
  · exact written
  · exact written

theorem State.applyCounts_mark (s : State) (n : Nat) (digest : Word16) (used : Vector Word16 8) (k : BinNo) :
    (s.applyCounts n digest used).bins[k].reportedFull = s.bins[k].reportedFull := by
  unfold State.applyCounts
  split
  · exact s.adoptCounts_mark ..
  · exact (s.foreignCounts_changes _ _).mark k

theorem State.applyBinSet_mark (s : State) (n : Nat) (b : BinNo) (u : Word16) (k : BinNo) :
    (s.applyBinSet n b u).bins[k].reportedFull = s.bins[k].reportedFull :=
  (State.setBinState_mark _ _ _ _).trans (s.adopt_mark ..)

/-- BIN CHANGE after the application of a frame (04 R83). -/
theorem State.take_reportsBins {s : State} (rx : Reception) {t : TakenFrame} {apply : State → State}
    {report : Bool → State → State} {ps qs : List Part} (receives : s.receiving = true) (good : t.screen = none)
    (mark : ∀ (s : State) (b : BinNo), (apply s).bins[b].reportedFull = s.bins[b].reportedFull)
    (applied : ∀ s, Changes ps s (apply s)) (reported : ∀ own s, Changes qs s (report own s))
    (silent : .notice .binChange ∉ ps := by simp [NoticeDetail.kind])
    (quiet : ∀ p ∈ qs, p ∉ [Part.bins, .used, .map, .cfg, .notice .binChange] := by simp [NoticeDetail.kind]) :
    s.reportsBins (s.take rx t apply report) := by
  have taken : s.take rx t apply report = (report (s.takesAsOwn t)
      ((apply (s.receiveTaken rx (s.takesAsOwn t))).reportBins s.bins)).testDuplicate t (s.takesAsOwn t) := by
    have bins : (s.receiveTaken rx (s.takesAsOwn t)).bins = s.bins := (s.receiveTaken_changes rx _).keeps .bins
    simp only [State.take, receives, if_true, good, bins]
  have received := s.receiveTaken_changes rx (s.takesAsOwn t)
  rw [taken]
  generalize s.takesAsOwn t = own at received ⊢
  have out (p : Part) (listed : p ∈ [Part.bins, .used, .map, .cfg, .notice .binChange])
      (plain : p ∉ duplicateParts) : p ∉ qs ++ duplicateParts := fun mem =>
    (List.mem_append.mp mem).elim (fun q => quiet p q listed) plain
  refine State.reportsBins_of_reportBins (u := apply (s.receiveTaken rx own)) (ps := qs ++ duplicateParts)
    (fun b => (mark _ b).trans (received.mark b)) (((applied _) _ silent).trans (received.keeps (.notice .binChange)))
    (((reported own _).within fun p mem => List.mem_append_left _ mem).trans
      ((State.testDuplicate_changes _ t own).within fun p mem => List.mem_append_right _ mem)) ?_ ?_ ?_ ?_ ?_
  all_goals exact out _ (by simp) (by simp)

end Machine
end Sys2Proof
end

section
/-! PROOF. The pitch mark and the home mark in their steps (01 R1 to R11): the Belt Tracker, a slip, the clear point, and what
the later work leaves alone. -/
set_option Elab.async false
namespace Sys2Proof
namespace Machine

-- The entries of the Cleat Map (01 R9)

theorem State.setEntry_entryAt (s : State) (x y : Cleat) (e : Entry) :
    (s.setEntry x e).entryAt y = if y = x then e else s.entryAt y := by
  unfold State.setEntry State.entryAt
  by_cases same : y = x
  · subst same
    simp
  · have apart : ¬x.toNat = y.toNat := fun h => same (BitVec.eq_of_toNat_eq h.symm)
    simp [apart, same]

theorem State.changeEntry_entryAt (s : State) (x y : Cleat) (e : Entry) :
    (s.changeEntry x e).entryAt y = if y = x then e else s.entryAt y := s.setEntry_entryAt x y e

theorem Changes.entryAt {ps : List Part} {s t : State} (h : Changes ps s t) (x : Cleat)
    (out : .map ∉ ps := by simp [NoticeDetail.kind]) : t.entryAt x = s.entryAt x := by
  have same : t.map = s.map := h _ out
  simp only [State.entryAt, same]

theorem Changes.ownClaim {ps : List Part} {s t : State} (h : Changes ps s t) (x : Cleat)
    (map : .map ∉ ps := by simp [NoticeDetail.kind]) (cfg : .cfg ∉ ps := by simp [NoticeDetail.kind]) :
    t.ownClaim x = s.ownClaim x := by
  simp only [State.ownClaim, h.entryAt x map, State.station, h.config cfg]

/-- An entry that already is as asked stays, and the claims are pruned. -/
theorem State.changeEntry_same {s : State} {x : Cleat} {e : Entry} (same : s.entryAt x = e) :
    Changes [.claims, .givenUp] s (s.changeEntry x e) := by
  have map : (s.setEntry x e).map = s.map := by
    subst same
    simp [State.setEntry, State.entryAt]
  intro p out
  cases p with
  | claims | givenUp => simp at out
  | map => exact map
  | _ => rfl

-- The Belt Tracker (01 R3 to R5)

/-- The Belt Tracker after a mark, with the slip that it found. -/
def Belt.moved (b : Belt) (home : Bool) : Belt × Option SlipCause := if home then b.home else b.pitch

theorem Belt.moved_slip_of_noSlip {b : Belt} {home : Bool} (noSlip : b.noSlip home) : (b.moved home).2 = none := by
  cases home with
  | true =>
    simp only [Belt.noSlip, if_true, not_and, not_lt] at noSlip
    simp only [Belt.moved, if_true, Belt.home]
    refine if_neg ?_
    simpa using noSlip
  | false =>
    simp only [Belt.noSlip, Bool.false_eq_true, if_false, Belt.steady] at noSlip
    simp only [Belt.moved, Bool.false_eq_true, if_false, Belt.pitch]
    by_cases seen : b.homeSeen = true
    · simp [seen, noSlip seen]
    · simp [seen]

theorem Belt.moved_of_brings {b : Belt} {home : Bool} {c : Cleat} (brings : b.brings home c) :
    (b.moved home).1.current = some c := by
  obtain ⟨noSlip, at_⟩ := brings
  cases home with
  | true =>
    simp only [if_true] at at_
    rw [at_]
    rfl
  | false =>
    simp only [Bool.false_eq_true, if_false] at at_
    obtain ⟨seen, p, current, rfl⟩ := at_
    simp only [Belt.noSlip, Bool.false_eq_true, if_false, Belt.steady] at noSlip
    simp [Belt.moved, Belt.pitch, seen, noSlip seen, current]

-- The steps of a mark (01 R1)

/-- A mark up to the landing eye: the eyes, the belt, a slip, and the mark of sort duty. -/
def State.markStarted (s : State) (home item : Bool) : State := (s.readBeltEyes item home).markTaken (s.belt.moved home)

/-- A mark after the clear point: the landing eye and the gates. -/
def State.workAfter (s : State) (item : Bool) : State := (s.landingWork item).gateWork

/-- What the landing eye and the gates write. -/
@[simp] def eyeParts : List Part := landingParts ++ gateParts

theorem State.workAfter_changes (s : State) (item : Bool) : Changes eyeParts s (s.workAfter item) :=
  (s.landingWork_changes item).andThen (State.gateWork_changes _)

theorem exec_mark {s : State} (on : s.online = true) (home item : Bool) : exec (mark home item) s =
    .next ((((s.markStarted home item).clearWork.workAfter item).claimWork (s.markStarted home item).headLink).markEnded
      home) := by
  have eyes : (s.markStarted home item).eyes.landing = item := by
    have kept := ((s.readBeltEyes item home).markTaken_changes (s.belt.moved home)).keeps .eyes
    exact congrArg Eyes.landing kept
  cases home with
  | true =>
    have runs : exec (mark true item) s = .next ((s.readBeltEyes item true).pitchWork true s.belt.home) := by
      simp only [mark, if_true, exec, execHomeMark]
      exact congrArg _ (if_pos on)
    rw [runs, State.pitchWork_eq]
    exact congrArg (fun b => Host.Outcome.next (((State.markWorked (s.markStarted true item) b).claimWork
      (s.markStarted true item).headLink).markEnded true)) eyes
  | false =>
    have runs : exec (mark false item) s = .next ((s.readBeltEyes item false).pitchWork false s.belt.pitch) := by
      simp only [mark, Bool.false_eq_true, if_false, exec, execPitchMark]
      exact congrArg _ (if_pos on)
    rw [runs, State.pitchWork_eq]
    exact congrArg (fun b => Host.Outcome.next (((State.markWorked (s.markStarted false item) b).claimWork
      (s.markStarted false item).headLink).markEnded false)) eyes

/-- What a mark writes after the clear point. -/
@[simp] def lateParts : List Part := eyeParts ++ headParts ++ afterParts

theorem State.markLate_changes (s : State) (before : ClaimLink) (home item : Bool) :
    Changes lateParts s (((s.workAfter item).claimWork before).markEnded home) :=
  ((s.workAfter_changes item).andThen (State.claimWork_changes _ before) (rs := lateParts)).andThen
    (State.markEnded_changes _ home)

/-- Without a slip a mark starts with the belt, the eyes and the mark of sort duty alone. -/
theorem State.markStarted_of_noSlip {s : State} {home : Bool} (noSlip : s.belt.noSlip home) (item : Bool) :
    s.markStarted home item =
      ({ s.readBeltEyes item home with belt := (s.belt.moved home).1 } : State).noteDuty := by
  simp only [State.markStarted, State.markTaken, Belt.moved_slip_of_noSlip noSlip]

-- The pitch slip (01 R6, R7)

/-- A pitch slip before its BIN CHANGE. -/
def State.slipWritten (s : State) (cause : SlipCause) (count : Nat) : State :=
  let names := slipFrame s.synced
  ((((({ s with map := freeMap } : State).pruneClaims.withdraw names).markNoRetry names).slipMember cause).raise
    (.pitchSlip cause count s.member.state)).loseTrust.mapHead Container.slipped

/-- What a slip writes before its BIN CHANGE. -/
@[simp] def slipEarlyParts : List Part :=
  [.map, .claims, .givenUp, .transfer, .hold, .notice .pitchSlip] ++ slipMemberParts

theorem State.slipWritten_changes (s : State) (cause : SlipCause) (count : Nat) :
    Changes slipEarlyParts s (s.slipWritten cause count) := by
  have freed := ((Changes.map s freeMap).andThen (State.pruneClaims_changes _) (rs := slipEarlyParts)).andThen
    (State.withdraw_changes _ (slipFrame s.synced)) (rs := slipEarlyParts)
  have told (d : NoticeDetail) (kind : d.kind = .pitchSlip) :=
    ((freed.andThen (State.markNoRetry_changes _ (slipFrame s.synced)) (rs := slipEarlyParts)).andThen
      (State.slipMember_changes _ cause) (rs := slipEarlyParts)).andThen (State.raise_changes _ d kind)
      (rs := slipEarlyParts)
  exact ((told _ rfl).andThen (State.loseTrust_changes _) (rs := slipEarlyParts)).andThen (State.mapHead_changes _ _)

theorem State.pitchSlip_eq (s : State) (cause : SlipCause) (count : Nat) :
    s.pitchSlip cause count = (s.slipWritten cause count).reportBins s.bins := by
  have freed := ((Changes.map s freeMap).andThen (State.pruneClaims_changes _) (rs := slipEarlyParts)).andThen
    (State.withdraw_changes _ (slipFrame s.synced)) (rs := slipEarlyParts)
  have kept := (freed.andThen (State.markNoRetry_changes _ (slipFrame s.synced)) (rs := slipEarlyParts)).andThen
    (State.slipMember_changes _ cause) (rs := slipEarlyParts)
  unfold State.pitchSlip
  exact congrArg (fun b => State.reportBins b (s.slipWritten cause count)) (kept.keeps .bins)

theorem State.slipWritten_map (s : State) (cause : SlipCause) (count : Nat) : (s.slipWritten cause count).map = freeMap := by
  have later (s : State) (d : NoticeDetail) (names : Frame → Bool) :
      (((((s.pruneClaims.withdraw names).markNoRetry names).slipMember cause).raise d).loseTrust.mapHead
        Container.slipped).map = s.map := by
    have moved := (State.slipMember_changes ((s.pruneClaims.withdraw names).markNoRetry names) cause).keeps .map
    exact ((State.mapHead_changes _ Container.slipped).keeps .map).trans moved
  exact later _ _ _

/-- After a slip the full marks are reported, so that the clear point finds nothing to report. -/
theorem State.clearPoint_of_free {s : State} {c : Cleat} (free : ∀ x, s.entryAt x = .free)
    (reported : ∀ b : BinNo, b ≠ 0 → s.full b = s.bins[b].reportedFull) : Changes [.claims, .givenUp] s (s.clearPoint c) := by
  have cleared := State.changeEntry_same (free (c - BitVec.ofNat 8 s.host.cfg.clearDistance))
  have quiet : (s.changeEntry (c - BitVec.ofNat 8 s.host.cfg.clearDistance) .free).reportBins s.bins =
      s.changeEntry (c - BitVec.ofNat 8 s.host.cfg.clearDistance) .free :=
    State.reportBins_of_quiet _ fun b mem => by
      have full := (cleared.full (b := b)).trans (reported b (mem_gatedBins.mp mem))
      simp only [BinChanges.any, State.binChanges, cleared.used, cleared.binState, full, cleared.mark]
      simp
  unfold State.clearPoint
  rw [quiet]
  exact cleared

end Machine
end Sys2Proof
end

section
/-! PROOF. O31, the statement: MISROUTE and the bin frames (03 R65, 04 R75, R77 to R79), and BIN CHANGE after any frame and any
mark (04 R83). -/
set_option Elab.async false
namespace Sys2Proof
namespace Machine

-- BIN CHANGE at a mark (04 R83)

/-- Without a slip a mark that is a home mark, or that finds the current cleat Known, leaves it Known. -/
theorem Belt.moved_known {b : Belt} {home : Bool}
    (moves : home = true ∨ b.current.isSome = true ∨ (b.homeSeen = true ∧ ¬b.pitchCount < 255))
    (slip : (b.moved home).2 = none) : ∃ c, (b.moved home).1.current = some c := by
  cases home with
  | true => exact ⟨0, rfl⟩
  | false =>
    simp only [Belt.moved, Bool.false_eq_true, if_false, Belt.pitch] at slip ⊢
    by_cases seen : b.homeSeen = true
    · by_cases early : b.pitchCount < 255
      · obtain current | ⟨_, last⟩ := moves.resolve_left nofun
        · obtain ⟨c, known⟩ := Option.isSome_iff_exists.mp current
          exact ⟨c + 1, by simp [seen, early, known]⟩
        · exact absurd early last
      · simp [seen, early] at slip
    · obtain current | ⟨seen', _⟩ := moves.resolve_left nofun
      · obtain ⟨c, known⟩ := Option.isSome_iff_exists.mp current
        exact ⟨c, by simp [seen, known]⟩
      · exact absurd seen' seen

theorem State.entryAt_of_freeMap {s : State} (free : s.map = freeMap) (x : Cleat) : s.entryAt x = .free := by
  simp [State.entryAt, free, freeMap]

/-- The BIN CHANGE of a mark at which the current cleat becomes Known or Unknown, or stays Known. -/
theorem State.mark_reportsBins {s : State} {home : Bool} (item : Bool)
    (moves : home = true ∨ s.belt.current.isSome = true ∨ (s.belt.homeSeen = true ∧ ¬s.belt.pitchCount < 255))
    (before : ClaimLink) :
    s.reportsBins ((((s.markStarted home item).clearWork.workAfter item).claimWork before).markEnded home) := by
  have late (u : State) := u.markLate_changes before home item
  cases slip : (s.belt.moved home).2 with
  | none =>
    have started : s.markStarted home item =
        ({ s.readBeltEyes item home with belt := (s.belt.moved home).1 } : State).noteDuty := by
      simp only [State.markStarted, State.markTaken, slip]
    have known : ∃ c, (s.markStarted home item).belt.current = some c := by
      rw [started]
      exact Belt.moved_known moves slip
    obtain ⟨c, current⟩ := known
    have bins : (s.markStarted home item).bins = s.bins := by rw [started]; rfl
    have notices : (s.markStarted home item).notices = s.notices := by rw [started]; rfl
    have work : (s.markStarted home item).clearWork = (s.markStarted home item).clearPoint c := by
      simp only [State.clearWork, current]
    rw [work, State.clearPoint, bins]
    have cleared := (s.markStarted home item).changeEntry_changes
      (c - BitVec.ofNat 8 (s.markStarted home item).host.cfg.clearDistance) .free
    refine State.reportsBins_of_reportBins (fun b => ?_) ?_ (late _)
    · rw [cleared.mark b]
      simp only [bins]
    · exact (cleared.keeps (.notice .binChange)).trans
        (congrArg (fun n : Vector NoticeRecord 22 => n[NoticeKind.binChange.index]) notices)
  | some cause =>
    have started : s.markStarted home item = ((({ s.readBeltEyes item home with belt := (s.belt.moved home).1 } :
        State).slipWritten cause s.belt.pitchCount).reportBins s.bins).noteDuty := by
      simp only [State.markStarted, State.markTaken, slip]
      rw [State.pitchSlip_eq]
      rfl
    have written := ({ s.readBeltEyes item home with belt := (s.belt.moved home).1 } : State).slipWritten_changes cause
      s.belt.pitchCount
    have map := ({ s.readBeltEyes item home with belt := (s.belt.moved home).1 } : State).slipWritten_map cause
      s.belt.pitchCount
    generalize ({ s.readBeltEyes item home with belt := (s.belt.moved home).1 } : State).slipWritten cause
      s.belt.pitchCount = u at started written map
    have marks (b : BinNo) : u.bins[b].reportedFull = s.bins[b].reportedFull := written.mark b
    have told : u.notices[NoticeKind.binChange.index] = s.notices[NoticeKind.binChange.index] :=
      written.keeps (.notice .binChange)
    have reports := u.reportBins_changes s.bins
    have cleared : Changes [.dutyReports, .claims, .givenUp] (u.reportBins s.bins) (s.markStarted home item).clearWork := by
      rw [started]
      refine (State.noteDuty_changes _).within.trans ?_
      unfold State.clearWork
      split
      · have free : (u.reportBins s.bins).noteDuty.map = freeMap := (reports.keeps .map).trans map
        refine (State.clearPoint_of_free (State.entryAt_of_freeMap free) fun b gated => ?_).within
        · have full : (u.reportBins s.bins).noteDuty.full b = u.full b := reports.full (b := b)
          have record : (u.reportBins s.bins).noteDuty.bins[b] = u.reported b :=
            (State.reportBins_bins s.bins u b).trans (if_pos gated)
          rw [full, record]
          rfl
      · exact .refl _ _
    exact State.reportsBins_of_reportBins marks told
      ((cleared.within fun p mem => List.mem_append_left lateParts mem).trans
        ((late _).within fun p mem => List.mem_append_right _ mem))

-- MISROUTE and the bin frames

/-- What the frames about a bin may write. -/
@[simp] def binFrameParts : List Part := .binStates :: adoptParts

theorem State.adopt_zero (s : State) (k : FrameKind) (n : Nat) (u : Word16) : s.adopt k n 0 u = s := by
  unfold State.adopt
  split
  · rfl
  · exact if_pos rfl

theorem State.setBinState_zero (s : State) (r : BinState) : s.setBinState 0 r = s := by
  rw [State.setBinState, State.setBin]
  exact if_pos rfl

/-- A frame that changes nothing and reports nothing leaves the Line Controller's part alone, where it is no duplicate. -/
theorem State.take_nothing {s : State} (rx : Reception) {t : TakenFrame} {apply : State → State}
    (good : t.screen = none) (still : ∀ s, apply s = s) (reported : ∀ b : BinNo, s.full b = s.bins[b].reportedFull)
    (other : s.hears t.sender ∨ (s.receiving = true ∧ t.applied = false ∧ allWaiting s.line.queue)) :
    s.take rx t apply noReport = s.echoed rx := by
  have applies : ((apply (s.echoed rx)).reportBins s.bins) = s.echoed rx := by
    rw [still]
    exact State.reportBins_self (s := s.echoed rx) reported
  rcases other with hears | ⟨receives, unapplied, waiting⟩
  · have apart : t.station ≠ s.station := hears.2.2
    simp only [State.take, hears.1, if_true, State.takesAsOwn_of_other apart, State.receiveTaken_other, good]
    refine Eq.trans (congrArg (fun u : State => (noReport false u).testDuplicate t false) applies) (if_neg ?_)
    have station : t.station ≠ (s.echoed rx).station := apart
    simp [noReport, station]
  · rw [State.take_unsent apply noReport receives good waiting, applies]
    exact if_neg (by simp [unapplied])

/-- What a frame about one bin leaves, from what its application does to that bin and to the others. -/
theorem State.binFrame_facts {s : State} {rx : Reception} {l : Line} {b : BinNo} {t : TakenFrame} {apply : State → State} {used : Option Nat} {state : BinState}
    {ps : List Part} (taken : s.takesFrom rx t.sender t.kind t.subject l) (good : t.screen = none)
    (applied : ∀ s, Changes ps s (apply s))
    (self : (apply (s.withLine l)).bins[b].used = used ∧ (apply (s.withLine l)).bins[b].state = state)
    (others : ∀ k, k ≠ b → (apply (s.withLine l)).bins[k].used = s.bins[k].used
      ∧ (apply (s.withLine l)).bins[k].state = s.bins[k].state)
    (within : ∀ p ∈ ps, p ∈ binFrameParts := by simp [NoticeDetail.kind]) :
    (s.take rx t apply noReport).bins[b].used = used ∧ (s.take rx t apply noReport).bins[b].state = state
      ∧ (∀ k, k ≠ b → (s.take rx t apply noReport).bins[k].used = s.bins[k].used
        ∧ (s.take rx t apply noReport).bins[k].state = s.bins[k].state)
      ∧ (s.take rx t apply noReport).map = s.map ∧ (s.take rx t apply noReport).line = l
      ∧ (∀ k, .notice k ∉ ps → k ≠ .binChange →
          (s.take rx t apply noReport).notices[k.index] = s.notices[k.index])
      ∧ (s.take rx t apply noReport).notices[NoticeKind.countMismatch.index] =
          (apply (s.withLine l)).notices[NoticeKind.countMismatch.index]
      ∧ (s.take rx t apply noReport).member = s.member := by
  have result := State.take_applied taken good applied (noReport_changes ps) fun mem => by
    have bad := within _ mem
    simp at bad
  have apply_ := applied (s.withLine l)
  have reports := (apply (s.withLine l)).reportBins_changes s.bins
  rw [show s.take rx t apply noReport = (apply (s.withLine l)).reportBins s.bins from result]
  generalize apply (s.withLine l) = u at apply_ reports self others ⊢
  generalize u.reportBins s.bins = v at reports ⊢
  have wide := (apply_.within within).andThen reports (rs := .notice .binChange :: binFrameParts)
  refine ⟨(reports.used (b := b)).trans self.1, (reports.binState (b := b)).trans self.2, fun k other => ?_,
    wide.keeps .map, wide.line, fun k out notBin => ?_, reports.keeps (.notice .countMismatch), wide.keeps .member⟩
  · exact ⟨(reports.used (b := k)).trans (others k other).1, (reports.binState (b := k)).trans (others k other).2⟩
  · exact (reports.keeps (.notice k) (by simpa [NoticeDetail.kind] using notBin)).trans (apply_ _ out)

section Each
variable {s : State} {rx : Reception} {sender : Nibble} {l : Line} {b : BinNo} (gated : b ≠ 0)
include gated

theorem misrouteTaken_facts {x : Cleat} (u : Word16) (taken : s.takesFrom rx sender .misroute (.cleat x) l) :
    ∃ t, exec (.misrouteTaken rx sender x (BitVec.ofNat 4 b.val) u) s = .next t
      ∧ t.bins[b].used = adoptedUsed s.bins[b].used u ∧ t.bins[b].state = s.bins[b].state
      ∧ s.comparesCount t .misroute sender.toNat b (fun n => n - 1) u
      ∧ (∀ k, k ≠ b → t.bins[k].used = s.bins[k].used ∧ t.bins[k].state = s.bins[k].state)
      ∧ t.map = s.map ∧ t.line = l ∧ s.sameNoticesBut [.countMismatch, .binChange] t ∧ t.member = s.member := by
  have changes (s : State) := s.adopt_changes .misroute sender.toNat b u
  obtain ⟨used, state, others, map, line, notices, mismatch, member⟩ := State.binFrame_facts (b := b) (l := l)
    (t := misrouteFrame sender x b) taken (screenFields_inBin taken.2.1 b) changes
    ⟨State.adopt_used_self (s.withLine l) .misroute sender.toNat gated u, (changes (s.withLine l)).binState (b := b)⟩
    fun k other => ⟨State.adopt_used_other (s.withLine l) .misroute sender.toNat (.inl other) u,
      (changes (s.withLine l)).binState (b := k)⟩
  have compares := State.adopt_compares (s.withLine l) (k := .misroute) (expected := fun n => n - 1) (fun _ => rfl)
    sender.toNat b u
  refine ⟨_, exec_misrouteTaken rx sender x b u s, used, state, State.comparesCount.after compares mismatch, others, map,
    line, fun k out => ?_, member⟩
  have apart : k ≠ .countMismatch ∧ k ≠ .binChange := by simpa using out
  exact notices k (by simpa using apart.1) apart.2

theorem binSetTaken_facts (u : Word16) (taken : s.takesFrom rx sender .binSet (.bin b) l) :
    ∃ t, exec (.binSetTaken rx sender (BitVec.ofNat 4 b.val) u) s = .next t
      ∧ t.bins[b].used = adoptedUsed s.bins[b].used u ∧ t.bins[b].state = .opened
      ∧ (∀ k, k ≠ b → t.bins[k].used = s.bins[k].used ∧ t.bins[k].state = s.bins[k].state)
      ∧ t.map = s.map ∧ t.line = l ∧ s.sameNoticesBut [.binChange] t ∧ t.member = s.member := by
  have adopts (s : State) := s.adopt_changes .binSet sender.toNat b u
  have record (s : State) (k : BinNo) : (s.applyBinSet sender.toNat b u).bins[k] = if k = b then
      { s.bins[b] with used := adoptedUsed s.bins[b].used u, state := .opened } else s.bins[k] := by
    rw [State.applyBinSet, State.setBinState_bins, State.adopt_bins, State.adopt_bins]
    simp only [gated, ne_eq, not_false_eq_true, and_true, if_true]
    split <;> rfl
  obtain ⟨used, state, others, map, line, notices, mismatch, member⟩ := State.binFrame_facts (b := b) (l := l)
    (t := binSetFrame sender b) (used := adoptedUsed s.bins[b].used u) (state := .opened) taken
    (screenFields_inBin taken.2.1 b) (fun s => s.applyBinSet_changes sender.toNat b u)
    (by rw [record, if_pos rfl]; exact ⟨rfl, rfl⟩)
    fun k other => by rw [record, if_neg other]; exact ⟨rfl, rfl⟩
  refine ⟨_, exec_binSetTaken rx sender b u s, used, state, others, map, line, fun k out => ?_, member⟩
  have apart : k ≠ .binChange := by simpa using out
  by_cases compared : k = .countMismatch
  · subst compared
    have still : ((s.withLine l).applyBinSet sender.toNat b u).notices = s.notices :=
      (State.setBin_notices ..).trans (State.adopt_notices_of_binSet (s.withLine l) sender.toNat b u)
    exact mismatch.trans (congrArg (fun n : Vector NoticeRecord 22 => n[NoticeKind.countMismatch.index]) still)
  · exact notices k (by simpa using compared) apart

/-- A frame that sets the state of a bin (04 R78, R79). -/
theorem binStateTaken_facts {t : TakenFrame} (state : BinState) (taken : s.takesFrom rx t.sender t.kind t.subject l)
    (good : t.screen = none) :
    (s.take rx t (fun s => s.setBinState b state) noReport).bins[b].used = s.bins[b].used
      ∧ (s.take rx t (fun s => s.setBinState b state) noReport).bins[b].state = state
      ∧ (∀ k, k ≠ b → (s.take rx t (fun s => s.setBinState b state) noReport).bins[k].used = s.bins[k].used
        ∧ (s.take rx t (fun s => s.setBinState b state) noReport).bins[k].state = s.bins[k].state)
      ∧ (s.take rx t (fun s => s.setBinState b state) noReport).map = s.map
      ∧ (s.take rx t (fun s => s.setBinState b state) noReport).line = l
      ∧ s.sameNoticesBut [.binChange] (s.take rx t (fun s => s.setBinState b state) noReport)
      ∧ (s.take rx t (fun s => s.setBinState b state) noReport).member = s.member := by
  have record (k : BinNo) : ((s.withLine l).setBinState b state).bins[k] =
      if k = b then { s.bins[b] with state := state } else s.bins[k] := by
    rw [State.setBinState_bins]
    simp only [gated, ne_eq, not_false_eq_true, and_true]
    rfl
  obtain ⟨used, state_, others, map, line, notices, _, member⟩ := State.binFrame_facts (b := b) (l := l)
    (used := s.bins[b].used) (state := state) taken good (fun s => s.setBinState_changes b state)
    (by rw [record, if_pos rfl]; exact ⟨rfl, rfl⟩)
    fun k other => by rw [record, if_neg other]; exact ⟨rfl, rfl⟩
  exact ⟨used, state_, others, map, line, fun k out => notices k (by simp) (by simpa using out), member⟩

end Each

/-- Every frame with its fields in range reports the bins that its application changed (04 R83). -/
theorem takenFrames_reportBins {s : State} (rx : Reception) {sender : Nibble} (x : Cleat) (b : BinNo) (m : Material)
    (cause : HoldCause) (u digest : Word16) (used : Vector Word16 8) (receives : s.receiving = true)
    (inRange : senderInRange sender = true) :
    ∀ i ∈ [Instr.releaseTaken rx sender x, .strayTaken rx sender x, .misrouteTaken rx sender x (BitVec.ofNat 4 b.val) u,
        .loadTaken rx sender x (BitVec.ofNat 4 b.val) (BitVec.ofNat 4 m.code) u,
        .claimTaken rx sender x (BitVec.ofNat 4 b.val) u,
        .binHoldTaken rx sender (BitVec.ofNat 4 b.val) (BitVec.ofNat 4 cause.code),
        .binOpenTaken rx sender (BitVec.ofNat 4 b.val), .binSetTaken rx sender (BitVec.ofNat 4 b.val) u,
        .countsTaken rx sender digest used, .joinTaken rx sender digest],
      ∃ t, exec i s = .next t ∧ s.reportsBins t := by
  have silent (own : Bool) (s : State) : Changes [] s (noReport own s) := .refl _ s
  have plain := screenFields_plain inRange
  have inBin := screenFields_inBin inRange b
  simp only [List.forall_mem_cons]
  refine ⟨⟨_, rfl, ?_⟩, ⟨_, rfl, ?_⟩, ⟨_, exec_misrouteTaken .., ?_⟩, ⟨_, exec_loadTaken .., ?_⟩,
    ⟨_, exec_claimTaken .., ?_⟩, ⟨_, exec_binHoldTaken .., ?_⟩, ⟨_, exec_binOpenTaken .., ?_⟩, ⟨_, exec_binSetTaken .., ?_⟩,
    ⟨_, rfl, ?_⟩, ⟨_, rfl, ?_⟩, nofun⟩
  · exact State.take_reportsBins rx receives plain (fun s b => (s.applyRelease_changes _ x).mark b)
      (fun s => s.applyRelease_changes _ x) silent
  · exact State.take_reportsBins rx receives plain (fun s b => (s.applyStray_changes x).mark b)
      (fun s => s.applyStray_changes x) silent
  · exact State.take_reportsBins rx receives inBin (fun s _ => s.adopt_mark ..) (fun s => s.adopt_changes _ _ _ _) silent
  · exact State.take_reportsBins rx receives (screenFields_inMaterial inRange b m) (fun s _ => s.applyLoad_mark ..)
      (fun s => s.applyLoad_changes _ _ _ _ _) silent
  · exact State.take_reportsBins rx receives inBin (fun s _ => s.applyClaim_mark ..) (fun s => s.applyClaim_changes _ _ _ _)
      (fun own s => s.reportClaim_changes x own)
  · exact State.take_reportsBins rx receives (screenFields_inCause inRange b cause) (fun s _ => s.setBinState_mark ..)
      (fun s => s.setBinState_changes _ _) silent
  · exact State.take_reportsBins rx receives inBin (fun s _ => s.setBinState_mark ..) (fun s => s.setBinState_changes _ _)
      silent
  · exact State.take_reportsBins rx receives inBin (fun s _ => s.applyBinSet_mark ..) (fun s => s.applyBinSet_changes _ _ _)
      silent
  · exact State.take_reportsBins rx receives plain (fun s _ => s.applyCounts_mark ..) (fun s => s.applyCounts_changes _ _ _)
      (fun own s => s.reportCounts_changes digest own)
  · exact State.take_reportsBins rx receives plain (fun _ _ => rfl) (ps := []) (fun s => .refl _ s)
      (fun own s => s.reportJoin_changes _ digest own)

/-- Settles O31. -/
theorem binFramesTaken : Obligations.BinFramesTaken := by
  refine ⟨fun s rx sender x b u cause => ⟨fun hears reported => ?_, fun other reported => ?_, fun l gated => ?_⟩,
    fun s rx sender x b m cause u digest used receives inRange =>
      takenFrames_reportBins rx x b m cause u digest used receives inRange,
    fun home item s on moves => ⟨_, exec_mark on home item, State.mark_reportsBins item moves _⟩⟩
  · exact (exec_misrouteTaken rx sender x 0 u s).trans (congrArg _ (State.take_nothing rx (screenFields_inBin hears.2.1 0)
      (fun s => s.adopt_zero ..) reported (.inl hears)))
  · have inRange : senderInRange sender = true := other.elim (fun h => h.2.1) fun h => h.2.1
    have nothing {t : TakenFrame} (sender_ : t.sender = sender) (subject : t.subject = .bin 0) (good : t.screen = none)
        {apply : State → State} (still : ∀ s, apply s = s) : s.take rx t apply noReport = s.echoed rx :=
      State.take_nothing rx good still reported (by
        rw [sender_]
        exact other.imp id fun h => ⟨h.1, by rw [TakenFrame.applied, subject]; rfl, h.2.2⟩)
    refine ⟨(exec_binSetTaken rx sender 0 u s).trans (congrArg _ (nothing rfl rfl (screenFields_inBin inRange 0) fun s => ?_)),
      (exec_binHoldTaken rx sender 0 cause s).trans (congrArg _ (nothing rfl rfl (screenFields_inCause inRange 0 cause)
        fun s => s.setBinState_zero _)),
      (exec_binOpenTaken rx sender 0 s).trans (congrArg _ (nothing rfl rfl (screenFields_inBin inRange 0)
        fun s => s.setBinState_zero _))⟩
    rw [State.applyBinSet, State.adopt_zero, State.setBinState_zero]
  · exact ⟨misrouteTaken_facts gated u, binSetTaken_facts gated u,
      fun taken => ⟨_, exec_binHoldTaken .., binStateTaken_facts gated (.held cause) taken (screenFields_inCause taken.2.1 b cause)⟩,
      fun taken => ⟨_, exec_binOpenTaken .., binStateTaken_facts gated .opened taken (screenFields_inBin taken.2.1 b)⟩⟩

end Machine
end Sys2Proof
end

section
/-! PROOF. O29 and O30: RELEASE, STRAY and LOAD of another station and of this station (03 R58, R60, R63, R64, 01 R21). -/
set_option Elab.async false
namespace Sys2Proof
namespace Machine

theorem State.mapHead_cons {s : State} {h : Container} {rest : List Container} (hold : s.path.hold = h :: rest)
    (f : Container → Container) : (s.mapHead f).path = { s.path with hold := f h :: rest } := by
  simp only [State.mapHead, hold]

-- RELEASE (03 R58)

theorem State.applyRelease_entryAt (s : State) (n : Nat) (x y : Cleat) : (s.applyRelease n x).entryAt y =
    if y = x ∧ (s.entryAt x).claimedBy n = true then .free else s.entryAt y := by
  unfold State.applyRelease
  split
  next claimed => simp [State.changeEntry_entryAt, claimed]
  next other => simp [other]

section Frames
variable {s : State} {rx : Reception} {sender : Nibble} {x : Cleat} {l : Line}

theorem releaseTaken_facts (taken : s.takesFrom rx sender .release (.cleat x) l) :
    ∃ t, exec (.releaseTaken rx sender x) s = .next t
      ∧ (∀ y, t.entryAt y = if y = x ∧ (s.entryAt x).claimedBy sender.toNat = true then .free else s.entryAt y)
      ∧ (∀ k : BinNo, t.bins[k].state = s.bins[k].state ∧ t.bins[k].used = s.bins[k].used)
      ∧ t.line = l ∧ s.sameNoticesBut [.binChange] t ∧ t.path.hold = s.path.hold
      ∧ t.belt = s.belt ∧ t.member = s.member ∧ t.session = s.session ∧ t.drives = s.drives := by
  have runs := exec_of_taken (exec_releaseTaken rx sender x s) taken (screenFields_plain taken.2.1)
    (fun s => s.applyRelease_changes sender.toNat x)
  have applied := (s.withLine l).applyRelease_changes sender.toNat x
  have entries := State.applyRelease_entryAt (s.withLine l) sender.toNat x
  generalize (s.withLine l).applyRelease sender.toNat x = u at runs applied entries
  have reports := u.reportBins_changes s.bins
  have changes := applied.andThen reports (rs := [.map, .claims, .givenUp, .notice .binChange, .bins])
  exact ⟨_, runs, fun y => reports.entryAt y |>.trans (entries y), fun k => ⟨changes.binState (b := k), changes.used (b := k)⟩,
    changes.line, changes.sameNoticesBut _, changes.keeps .hold, changes.keeps .belt, changes.keeps .member,
    changes.session, changes.drives⟩

-- STRAY (03 R63, R64)

theorem State.applyStray_entryAt (s : State) (x y : Cleat) : (s.applyStray x).entryAt y =
    if y = x ∧ (s.entryAt x).strays = true then .foreign else s.entryAt y := by
  have written : (if (s.entryAt x).strays = true then s.changeEntry x .foreign else s).entryAt y =
      if y = x ∧ (s.entryAt x).strays = true then .foreign else s.entryAt y := by
    split
    next strays => simp [State.changeEntry_entryAt, strays]
    next stays => simp [stays]
  unfold State.applyStray
  dsimp only
  split
  · exact ((State.loseHeld_changes _ x).entryAt y).trans written
  · exact written

theorem Entry.strays_of_claimedBy {e : Entry} {n : Nat} (claimed : e.claimedBy n = true) : e.strays = true := by
  cases e with
  | claimed o b => rfl
  | _ => contradiction

theorem State.applyStray_hold {s : State} {h : Container} {rest : List Container} (hold : s.path.hold = h :: rest)
    (ready : h.stage = .ready) (cleat : h.cleat = some x) (own : s.ownClaim x = true) :
    (s.applyStray x).path.hold = h.unlinked (some 0) :: rest := by
  have kept : (s.changeEntry x .foreign).path.hold = h :: rest := hold
  unfold State.applyStray
  dsimp only
  rw [if_pos own, if_pos (Entry.strays_of_claimedBy own), State.loseHeld, State.mapHead_cons kept]
  simp only [ready, cleat, and_self, if_true]

theorem strayTaken_facts (taken : s.takesFrom rx sender .stray (.cleat x) l) :
    ∃ t, exec (.strayTaken rx sender x) s = .next t
      ∧ (∀ y, t.entryAt y = if y = x ∧ (s.entryAt x).strays = true then .foreign else s.entryAt y)
      ∧ (∀ h rest, s.path.hold = h :: rest → h.stage = .ready → h.cleat = some x → s.ownClaim x = true →
          t.path.hold = h.unlinked (some 0) :: rest)
      ∧ (∀ k : BinNo, t.bins[k].state = s.bins[k].state ∧ t.bins[k].used = s.bins[k].used)
      ∧ t.line = l ∧ s.sameNoticesBut [.binChange] t
      ∧ t.belt = s.belt ∧ t.member = s.member ∧ t.session = s.session ∧ t.drives = s.drives := by
  have runs := exec_of_taken (exec_strayTaken rx sender x s) taken (screenFields_plain taken.2.1)
    (fun s => s.applyStray_changes x)
  have applied := (s.withLine l).applyStray_changes x
  have entries := State.applyStray_entryAt (s.withLine l) x
  have head (h : Container) (rest : List Container) (hold : s.path.hold = h :: rest) (ready : h.stage = .ready)
    (cleat : h.cleat = some x) (own : s.ownClaim x = true) := State.applyStray_hold (s := s.withLine l) hold ready cleat own
  generalize (s.withLine l).applyStray x = u at runs applied entries head
  have reports := u.reportBins_changes s.bins
  have changes := applied.andThen reports (rs := [.map, .claims, .givenUp, .hold, .notice .binChange, .bins])
  exact ⟨_, runs, fun y => reports.entryAt y |>.trans (entries y),
    fun h rest hold ready cleat own => (reports.keeps .hold).trans (head h rest hold ready cleat own),
    fun k => ⟨changes.binState (b := k), changes.used (b := k)⟩, changes.line, changes.sameNoticesBut _,
    changes.keeps .belt, changes.keeps .member, changes.session, changes.drives⟩

end Frames

/-- Settles O29. -/
theorem releaseAndStrayTaken : Obligations.ReleaseAndStrayTaken := by
  refine fun s rx sender x l => ⟨releaseTaken_facts, fun taken => ?_⟩
  obtain ⟨t, runs, entries, head, bins, line, notices, rest⟩ := strayTaken_facts taken
  have at_ := entries x
  refine ⟨t, runs, fun y other => ?_, fun free => ?_, fun o b claimed => ?_, fun o b m loaded => ?_, fun foreign => ?_, head,
    bins, line, notices, rest⟩
  · rw [entries y, if_neg fun h => other h.1]
  · rw [at_, free]
    simp [Entry.strays]
  · rw [at_, claimed]
    simp [Entry.strays]
  · rw [at_, loaded]
    simp [Entry.strays]
  · rw [at_, foreign]
    simp [Entry.strays]

end Machine
end Sys2Proof
end

section
/-! PROOF. O30, a LOAD of another station and of this station (03 R60, 04 R75, 01 R21, 05 R89). -/
set_option Elab.async false
namespace Sys2Proof
namespace Machine

theorem Entry.loadConflicts_iff {n : Nat} {b : BinNo} {e : Entry} :
    e.loadConflicts n b = false ↔ e = .free ∨ e = .claimed n b := by
  cases e with
  | claimed o k => simp [Entry.loadConflicts]
  | _ => simp [Entry.loadConflicts]

/-- A LOAD applied, before the station with sort duty looks at the gate that its cleat has passed. -/
def State.loadWritten (s : State) (n : Nat) (x : Cleat) (b : BinNo) (m : Material) (u : Word16) : State :=
  let a := s.adopt .load n b u
  let before := a.entryAt x
  let w := if before.loads n then a.changeEntry x (.loaded n b m) else a
  if before.loadConflicts n b then w.raise (.mapConflict (.load x n b m before)) else w

theorem State.applyLoad_eq (s : State) (n : Nat) (x : Cleat) (b : BinNo) (m : Material) (u : Word16) :
    s.applyLoad n x b m u = (s.loadWritten n x b m u).misrouteLoad x b := rfl

/-- What a LOAD writes before sort duty. -/
@[simp] def loadEarlyParts : List Part := .map :: .claims :: .givenUp :: .notice .mapConflict :: adoptParts

section Written
variable (s : State) (n : Nat) (x : Cleat) (b : BinNo) (m : Material) (u : Word16)

/-- The map and the claims are written after the adoption. -/
theorem State.loadWritten_after_adopt :
    Changes [.map, .claims, .givenUp, .notice .mapConflict] (s.adopt .load n b u) (s.loadWritten n x b m u) := by
  have written : Changes [.map, .claims, .givenUp, .notice .mapConflict] (s.adopt .load n b u)
      (if ((s.adopt .load n b u).entryAt x).loads n then (s.adopt .load n b u).changeEntry x (.loaded n b m)
        else s.adopt .load n b u) :=
    .ite (fun _ => (State.changeEntry_changes _ _ _).within) fun _ => .refl _ _
  exact .ite (fun _ => written.trans (State.raise_changes _ _ (k := .mapConflict)).within) fun _ => written

theorem State.loadWritten_changes : Changes loadEarlyParts s (s.loadWritten n x b m u) :=
  (s.adopt_changes .load n b u).andThen (s.loadWritten_after_adopt n x b m u)

theorem State.adopt_entryAt (k : FrameKind) (y : Cleat) : (s.adopt k n b u).entryAt y = s.entryAt y :=
  (s.adopt_changes k n b u).entryAt y

theorem State.loadWritten_entryAt (y : Cleat) : (s.loadWritten n x b m u).entryAt y =
    if y = x ∧ (s.entryAt x).loads n = true then .loaded n b m else s.entryAt y := by
  have written : (if ((s.adopt .load n b u).entryAt x).loads n then (s.adopt .load n b u).changeEntry x (.loaded n b m)
      else s.adopt .load n b u).entryAt y =
        if y = x ∧ (s.entryAt x).loads n = true then .loaded n b m else s.entryAt y := by
    rw [State.adopt_entryAt]
    split
    next loads => simp [State.changeEntry_entryAt, State.adopt_entryAt, loads]
    next stays => simp [State.adopt_entryAt, stays]
  unfold State.loadWritten
  dsimp only
  split
  · exact written
  · exact written

theorem State.loadWritten_conflict : (s.loadWritten n x b m u).notices[NoticeKind.mapConflict.index] =
    if (s.entryAt x).loadConflicts n b then
      { detail := some (.mapConflict (.load x n b m (s.entryAt x)))
        count := min 255 (s.notices[NoticeKind.mapConflict.index].count + 1) }
    else s.notices[NoticeKind.mapConflict.index] := by
  have still : (if ((s.adopt .load n b u).entryAt x).loads n then (s.adopt .load n b u).changeEntry x (.loaded n b m)
      else s.adopt .load n b u).notices[NoticeKind.mapConflict.index] = s.notices[NoticeKind.mapConflict.index] := by
    have adopted := (s.adopt_changes .load n b u).keeps (.notice .mapConflict)
    split
    · exact adopted
    · exact adopted
  unfold State.loadWritten
  dsimp only
  rw [State.adopt_entryAt] at still ⊢
  split
  · refine (State.raise_record _ (.mapConflict (.load x n b m (s.entryAt x))) (k := .mapConflict) rfl).trans ?_
    rw [still]
  · exact still

end Written

-- Sort duty (01 R21, 05 R89)

theorem State.misrouteLoad_of_not_reporting {s : State}
    (quiet : s.host.cfg.sortDuty = 0 ∨ s.member ≠ .synced ∨ s.dutyReports = false) (x : Cleat) (b : BinNo) :
    s.misrouteLoad x b = s := by
  refine if_neg ?_
  rcases quiet with off | out | unmarked
  · simp [Configuration.hasSortDuty, off]
  · simp [State.reportsDuty, State.synced, out]
  · simp [State.reportsDuty, unmarked]

/-- A cleat that has passed the gate of its bin is misrouted (01 R21). -/
theorem State.misrouteLoad_queues {s : State} {x c : Cleat} {g : Gate} (duty : s.host.cfg.sortDuty = 1)
    (synced : s.member = .synced) (reports : s.dutyReports = true) (current : s.belt.current = some c)
    (room : s.line.queue.length < Config.queuePlacesOther)
    (passed : (256 - s.host.cfg.clearDistance ≤ (x - c).toNat ∧ (x - c).toNat ≤ 256 - s.host.cfg.gateDistance[g])
      ∨ s.entryAt x = .foreign) : (s.misrouteLoad x g.succ).queues .misroute (.cleat x) := by
  have distance : s.host.cfg.gateDistance.toList.getD (g.succ.val - 1) 0 = s.host.cfg.gateDistance[g] := by
    rw [Fin.val_succ, Nat.add_sub_cancel, List.getD_eq_getElem?_getD, List.getElem?_eq_getElem (by simp)]
    simp
  have gone : (s.passedGate x g.succ || s.entryAt x == .foreign) = true := by
    refine Bool.or_eq_true_iff.mpr (passed.imp (fun within => ?_) fun foreign => ?_)
    · simp only [State.passedGate, State.lead, current, Option.map_some, Option.any_some, distance]
      exact decide_eq_true within
    · simp [foreign]
  have misroutes : s.misrouteLoad x g.succ = s.queueFrame (.misroute x g.succ 0) := by
    refine if_pos ?_
    simp only [Configuration.hasSortDuty, duty, State.reportsDuty, State.synced, synced, reports, current, gone]
    rfl
  rw [misroutes]
  exact State.queueFrame_queues room

-- The frame

section Frame
variable {s : State} {rx : Reception} {sender : Nibble} {x : Cleat} {l : Line} {b : BinNo} {m : Material} {u : Word16}

theorem loadTaken_runs (taken : s.takesFrom rx sender .load (.cleat x) l) :
    exec (.loadTaken rx sender x (BitVec.ofNat 4 b.val) (BitVec.ofNat 4 m.code) u) s =
      .next ((((s.withLine l).loadWritten sender.toNat x b m u).misrouteLoad x b).reportBins s.bins) := by
  rw [← State.applyLoad_eq]
  have runs := exec_of_taken (exec_loadTaken rx sender x b m u s) taken (screenFields_inMaterial taken.2.1 b m)
    fun s => s.applyLoad_changes sender.toNat x b m u
  exact runs

theorem State.misrouteLoad_line {w : State} (x : Cleat) (b : BinNo)
    (quiet : w.host.cfg.sortDuty = 0 ∨ w.member ≠ .synced ∨ w.dutyReports = false) (before : Vector BinRecord 9) :
    ((w.misrouteLoad x b).reportBins before).line = w.line := by
  rw [State.misrouteLoad_of_not_reporting quiet]
  exact (State.reportBins_changes _ w).line

end Frame

/-- Settles O30. -/
theorem loadTaken : Obligations.LoadTaken := by
  intro s rx sender x b m u l taken
  have early := (s.withLine l).loadWritten_changes sender.toNat x b m u
  have afterAdopt := (s.withLine l).loadWritten_after_adopt sender.toNat x b m u
  have entries := (s.withLine l).loadWritten_entryAt sender.toNat x b m u
  have conflict := (s.withLine l).loadWritten_conflict sender.toNat x b m u
  have runs := loadTaken_runs (b := b) (m := m) (u := u) taken
  refine ⟨?_, fun c g synced reports duty _ current room passed => ?_⟩
  · generalize (s.withLine l).loadWritten sender.toNat x b m u = w at early afterAdopt entries conflict runs
    have mapped := w.misrouteLoad_changes x b
    have reported := (w.misrouteLoad x b).reportBins_changes s.bins
    have later := mapped.andThen reported (rs := [.queue, .notice .lineFault, .notice .binChange, .bins])
    have line := State.misrouteLoad_line (w := w) x b (before := s.bins)
    generalize (w.misrouteLoad x b).reportBins s.bins = t at later runs line
    have all := early.andThen later (rs := .queue :: .notice .lineFault :: .notice .binChange :: loadEarlyParts)
    have entry (y : Cleat) := (later.entryAt y).trans (entries y)
    have told := (later.keeps (.notice .mapConflict)).trans conflict
    have compares := State.adopt_compares (s.withLine l) (k := .load) (expected := fun n => min 65534 (n + 1))
      (fun _ => rfl) sender.toNat b u
    have used (k : BinNo) : t.bins[k].used = ((s.withLine l).adopt .load sender.toNat b u).bins[k].used :=
      (later.used (b := k)).trans (afterAdopt.used (b := k))
    refine ⟨t, runs, fun y other => ?_, fun free => ?_, fun o k claimed => ?_, fun o k n loaded => ?_, fun foreign => ?_,
      fun agrees => ?_, fun notFree notOwn => ?_,
      compares.after ((later.keeps (.notice .countMismatch)).trans (afterAdopt.keeps (.notice .countMismatch))),
      fun gated => (used b).trans (State.adopt_used_self _ _ _ gated _), fun k => ⟨all.binState (b := k), fun other =>
        (used k).trans (State.adopt_used_other _ _ _ other _)⟩, fun quiet => ?_, all.keeps .belt, all.keeps .member,
      all.session, all.drives⟩
    · rw [entry y, if_neg fun h => other h.1]
      rfl
    · have at_ : (s.withLine l).entryAt x = .free := free
      rw [entry x, at_]
      simp [Entry.loads]
    · have at_ : (s.withLine l).entryAt x = .claimed o k := claimed
      rw [entry x, at_]
      simp [Entry.loads]
    · have at_ : (s.withLine l).entryAt x = .loaded o k n := loaded
      rw [entry x, at_]
      simp [Entry.loads]
    · have at_ : (s.withLine l).entryAt x = .foreign := foreign
      rw [entry x, at_]
      simp [Entry.loads]
    · have agree : ((s.withLine l).entryAt x).loadConflicts sender.toNat b = false := Entry.loadConflicts_iff.mpr agrees
      exact told.trans (if_neg (by rw [agree]; nofun))
    · have conflicts : ((s.withLine l).entryAt x).loadConflicts sender.toNat b = true :=
        Bool.eq_true_of_not_eq_false fun agrees => (Entry.loadConflicts_iff.mp agrees).elim notFree notOwn
      exact congrArg NoticeRecord.detail (told.trans (if_pos conflicts))
    · have cfg : w.host.cfg = s.host.cfg := early.config
      have member : w.member = s.member := early.keeps .member
      have marked : w.dutyReports = s.dutyReports := early.keeps .dutyReports
      exact (line (by rw [cfg, member, marked]; exact quiet)).trans early.line
  · have early := (s.withLine l).loadWritten_changes sender.toNat x g.succ m u
    have entries := (s.withLine l).loadWritten_entryAt sender.toNat x g.succ m u x
    refine ⟨_, loadTaken_runs taken, ?_⟩
    generalize (s.withLine l).loadWritten sender.toNat x g.succ m u = w at early entries
    have cfg : w.host.cfg = s.host.cfg := early.config
    refine (State.reportBins_changes s.bins (w.misrouteLoad x g.succ)).queues (State.misrouteLoad_queues (c := c) ?_
      ((early.keeps .member).trans synced) ((early.keeps .dutyReports).trans reports)
      ((congrArg Belt.current (early.keeps .belt)).trans current) ?_ ?_)
    · rw [cfg]
      exact duty
    · have queue : w.line.queue = l.queue := early.keeps .queue
      rw [queue]
      exact room
    · rw [cfg]
      refine passed.imp_right fun foreign => ?_
      have at_ : (s.withLine l).entryAt x = .foreign := foreign
      rw [entries, at_]
      simp [Entry.loads]

end Machine
end Sys2Proof
end

section
/-! PROOF. O27 and O28, a CLAIM of another station and of this station, and the verdict on an own one (03 R47, R52 to R54,
04 R75). -/
set_option Elab.async false
namespace Sys2Proof
namespace Machine

-- The application (03 R52)

theorem Entry.claimedByFor_iff {n : Nat} {b : BinNo} {e : Entry} : e.claimedByFor n b = true ↔ e = .claimed n b := by
  cases e with
  | claimed o k => simp [Entry.claimedByFor, Entry.claimedBy, Entry.claimedFor]
  | _ => simp [Entry.claimedByFor, Entry.claimedBy, Entry.claimedFor]

/-- A bin takes one more claim as 03 R52 says. -/
theorem State.binPasses_iff (s : State) (b : BinNo) : s.binPasses b = true ↔ b = 0 ∨ (s.bins[b].state = .opened
    ∧ ∃ n, s.bins[b].used = some n ∧ n + s.claimedCount b + 1 ≤ s.capacityOf b) := by
  unfold State.binPasses State.usedOf
  cases known : s.bins[b].used <;> simp

section Apply
variable (s : State) (n : Nat) (x : Cleat) (b : BinNo) (u : Word16)

/-- The claim is accepted after the adoption. -/
theorem State.applyClaim_after_adopt :
    Changes [.map, .claims, .givenUp] (s.adopt .claim n b u) (s.applyClaim n x b u) :=
  .ite (fun _ => State.changeEntry_changes _ _ _) fun _ => .refl _ _

theorem State.applyClaim_entryAt (y : Cleat) : (s.applyClaim n x b u).entryAt y =
    if y = x ∧ s.entryAt x = .free ∧ (s.adopt .claim n b u).binPasses b = true then .claimed n b else s.entryAt y := by
  unfold State.applyClaim
  dsimp only
  rw [State.adopt_entryAt]
  split
  next accepted => simp [State.changeEntry_entryAt, State.adopt_entryAt, accepted]
  next void => simp [State.adopt_entryAt, void]

/-- The claims that a frame has ended leave the given-up list. -/
theorem State.applyClaim_givenUp : (s.applyClaim n x b u).path.givenUp = s.path.givenUp
    ∨ (s.applyClaim n x b u).path.givenUp = s.path.givenUp.filter (s.applyClaim n x b u).ownClaim := by
  have adopted : (s.adopt .claim n b u).path = s.path := (s.adopt_changes .claim n b u).path
  by_cases accepted : (s.adopt .claim n b u).entryAt x = .free ∧ (s.adopt .claim n b u).binPasses b = true
  · have equal : s.applyClaim n x b u = (s.adopt .claim n b u).changeEntry x (.claimed n b) := if_pos accepted
    rw [equal, ← adopted]
    exact .inr rfl
  · have equal : s.applyClaim n x b u = s.adopt .claim n b u := if_neg accepted
    rw [equal, adopted]
    exact .inl rfl

end Apply

/-- The state as a CLAIM has been applied and its BIN CHANGE raised. -/
def State.claimApplied (s : State) (l : Line) (n : Nat) (x : Cleat) (b : BinNo) (u : Word16) : State :=
  ((s.withLine l).applyClaim n x b u).reportBins s.bins

section Frame
variable {s : State} {rx : Reception} {sender : Nibble} {x : Cleat} {l : Line} {b : BinNo} {u : Word16}

theorem claimTaken_runs (taken : s.takesFrom rx sender .claim (.cleat x) l) :
    exec (.claimTaken rx sender x (BitVec.ofNat 4 b.val) u) s =
      .next ((s.claimApplied l sender.toNat x b u).reportClaim x (decide (sender.toNat = s.station))) := by
  have result := State.take_applied (t := claimFrame sender x b)
    (ps := .hold :: .queue :: .notice .lineFault :: .map :: .claims :: .givenUp :: adoptParts) taken
    (screenFields_inBin taken.2.1 b) (fun s => (s.applyClaim_changes sender.toNat x b u).within)
    (fun own s => (s.reportClaim_changes x own).within)
  exact (exec_claimTaken rx sender x b u s).trans (congrArg _ result)

/-- What a CLAIM writes before its verdict. -/
@[simp] def claimParts : List Part := .notice .binChange :: .map :: .claims :: .givenUp :: adoptParts

theorem State.claimApplied_changes (n : Nat) : Changes claimParts (s.withLine l) (s.claimApplied l n x b u) :=
  ((s.withLine l).applyClaim_changes n x b u).andThen (State.reportBins_changes _ _)

theorem State.claimApplied_entryAt (n : Nat) (y : Cleat) : (s.claimApplied l n x b u).entryAt y =
    if y = x ∧ s.entryAt x = .free ∧ ((s.withLine l).adopt .claim n b u).binPasses b = true then .claimed n b
    else s.entryAt y :=
  ((State.reportBins_changes s.bins _).entryAt y).trans ((s.withLine l).applyClaim_entryAt n x b u y)

theorem State.claimApplied_givenUp (n : Nat) : (s.claimApplied l n x b u).path.givenUp = s.path.givenUp
    ∨ (s.claimApplied l n x b u).path.givenUp = s.path.givenUp.filter (s.claimApplied l n x b u).ownClaim := by
  have written := (s.withLine l).applyClaim_givenUp n x b u
  have reported := State.reportBins_changes s.bins ((s.withLine l).applyClaim n x b u)
  have own : (s.claimApplied l n x b u).ownClaim = ((s.withLine l).applyClaim n x b u).ownClaim :=
    funext fun y => reported.ownClaim y
  have givenUp : (s.claimApplied l n x b u).path.givenUp = ((s.withLine l).applyClaim n x b u).path.givenUp :=
    reported.keeps .givenUp
  rw [own, givenUp]
  exact written

theorem State.claimApplied_used (n : Nat) (k : BinNo) :
    (s.claimApplied l n x b u).bins[k].used = ((s.withLine l).adopt .claim n b u).bins[k].used :=
  ((State.reportBins_changes s.bins _).used (b := k)).trans (((s.withLine l).applyClaim_after_adopt n x b u).used (b := k))

theorem State.claimApplied_compares (n : Nat) :
    s.comparesCount (s.claimApplied l n x b u) .claim n b (fun n => n) u :=
  (State.adopt_compares (s.withLine l) (fun _ => rfl) n b u).after
    (((State.reportBins_changes s.bins _).keeps (.notice .countMismatch)).trans
      (((s.withLine l).applyClaim_after_adopt n x b u).keeps (.notice .countMismatch)))

/-- The acceptance test of R52 with the count that the frame carries. -/
theorem State.adopt_binPasses (n : Nat) : ((s.withLine l).adopt .claim n b u).binPasses b = true ↔ b = 0
    ∨ (s.bins[b].state = .opened ∧ ∃ m, adoptedUsed s.bins[b].used u = some m
      ∧ m + s.claimedCount b + 1 ≤ s.capacityOf b) := by
  have adopts := (s.withLine l).adopt_changes .claim n b u
  have state : ((s.withLine l).adopt .claim n b u).bins[b].state = s.bins[b].state := adopts.binState (b := b)
  have claimed : ((s.withLine l).adopt .claim n b u).claimedCount b = s.claimedCount b := adopts.claimedCount (b := b)
  have capacity : ((s.withLine l).adopt .claim n b u).capacityOf b = s.capacityOf b := (adopts.capacity (b := b)).1
  rw [State.binPasses_iff, state, claimed, capacity]
  by_cases zero : b = 0
  · simp [zero]
  · rw [State.adopt_used_self _ _ _ zero]
    rfl

end Frame

/-- Settles O27. -/
theorem claimTaken : Obligations.ClaimTaken := by
  intro s rx sender x b u l taken
  have runs := claimTaken_runs (b := b) (u := u) taken
  have early := State.claimApplied_changes (s := s) (l := l) (x := x) (b := b) (u := u) sender.toNat
  have entries := State.claimApplied_entryAt (s := s) (l := l) (x := x) (b := b) (u := u) sender.toNat
  have used := State.claimApplied_used (s := s) (l := l) (x := x) (b := b) (u := u) sender.toNat
  have compares := State.claimApplied_compares (s := s) (l := l) (x := x) (b := b) (u := u) sender.toNat
  have passes := State.adopt_binPasses (s := s) (l := l) (b := b) (u := u) sender.toNat
  generalize s.claimApplied l sender.toNat x b u = v at runs early entries used compares
  have verdict := v.reportClaim_changes x (decide (sender.toNat = s.station))
  have quiet : sender.toNat ≠ s.station ∨ s.member ≠ .synced →
      v.reportClaim x (decide (sender.toNat = s.station)) = v := by
    intro out
    unfold State.reportClaim
    split
    · refine if_neg ?_
      have member : v.member = s.member := early.keeps .member
      rcases out with other | out
      · simp [other]
      · simp [State.synced, member, out]
    · rfl
  generalize v.reportClaim x (decide (sender.toNat = s.station)) = t at runs verdict quiet
  have all := early.andThen verdict (rs := .hold :: .queue :: .notice .lineFault :: claimParts)
  have entry (y : Cleat) := (verdict.entryAt y).trans (entries y)
  have count (k : BinNo) := (verdict.used (b := k)).trans (used k)
  have self (gated : b ≠ 0) : t.bins[b].used = adoptedUsed s.bins[b].used u :=
    (count b).trans (State.adopt_used_self (s.withLine l) .claim sender.toNat gated u)
  refine ⟨t, runs, fun y other => ?_, fun taken => ?_, fun free zero => ?_, fun n free gated known => ?_,
    fun free gated unknown => ?_, self, fun k => ⟨all.binState (b := k), fun other =>
      (count k).trans (State.adopt_used_other (s.withLine l) .claim sender.toNat other u)⟩,
    compares.after (verdict.keeps (.notice .countMismatch)), fun out => ?_, all.lineBody, all.sameNoticesBut _,
    all.keeps .belt, all.keeps .member, all.session, all.drives, all.host⟩
  · rw [entry y, if_neg fun h => other h.1]
  · rw [entry x, if_neg fun h => taken h.2.1]
  · rw [entry x, if_pos ⟨rfl, free, passes.mpr (.inl zero)⟩]
  · have known' : adoptedUsed s.bins[b].used u = some n := (self gated).symm.trans known
    rw [entry x, free]
    refine if_congr ?_ rfl rfl
    rw [passes, known']
    simp [gated]
  · have unknown' : adoptedUsed s.bins[b].used u = none := (self gated).symm.trans unknown
    rw [entry x, if_neg, free]
    rw [passes, unknown']
    simp [gated]
  · rw [quiet out]
    exact ⟨early.line, early.sameNoticesBut _⟩

end Machine
end Sys2Proof
end

section
/-! PROOF. O28, the verdict on this station's own CLAIM (03 R47, R53, R54), and what giving up a cleat does (03 R47). -/
set_option Elab.async false
namespace Sys2Proof
namespace Machine

-- A cleat is given up (03 R47)

theorem State.enterGivenUp_givenUp (s : State) (x : Cleat) : (s.enterGivenUp x).path.givenUp =
    if s.path.givenUp.length < 2 ∧ s.ownClaim x = true ∧ x ∉ s.path.givenUp then s.path.givenUp ++ [x]
    else s.path.givenUp := by
  have test : (decide (s.path.givenUp.length < Config.givenUpPlaces) && s.ownClaim x && !s.path.givenUp.contains x) = true ↔
      s.path.givenUp.length < 2 ∧ s.ownClaim x = true ∧ x ∉ s.path.givenUp := by
    simp [Config.givenUpPlaces, and_assoc]
  unfold State.enterGivenUp
  simp only [test]
  split <;> rfl

/-- The list after a cleat has been given up. -/
theorem State.giveUp_givenUp (s : State) (x : Cleat) : (s.giveUp x).path.givenUp =
    if s.path.givenUp.length < 2 ∧ s.ownClaim x = true ∧ x ∉ s.path.givenUp then s.path.givenUp ++ [x]
    else s.path.givenUp := by
  have queued := s.queueFrame_changes (.release x)
  have path : (s.queueFrame (.release x)).path = s.path := queued.path
  have entered := State.enterGivenUp_givenUp (s.queueFrame (.release x)) x
  rw [path, queued.ownClaim x] at entered
  exact ((State.setRole_changes _ x .givenUp).keeps .givenUp).trans entered

/-- What the list holds after the claims have been pruned, a cleat given up, and what follows left alone. -/
theorem State.givesUp_of {s v t : State} {x : Cleat}
    (pruned : v.path.givenUp = s.path.givenUp ∨ v.path.givenUp = s.path.givenUp.filter v.ownClaim)
    (entered : t.path.givenUp = (v.giveUp x).path.givenUp) (own : ∀ y, t.ownClaim y = v.ownClaim y) : s.givesUp t x := by
  have shorter : v.path.givenUp.length ≤ s.path.givenUp.length := by
    rcases pruned with same | filtered
    · rw [same]
    · rw [filtered]
      exact List.length_filter_le ..
  rw [State.giveUp_givenUp] at entered
  refine ⟨fun room claimed => ?_, fun full claimed => ?_⟩
  · by_cases listed : x ∈ v.path.givenUp
    · rw [entered, if_neg fun h => h.2.2 listed]
      exact listed
    · rw [entered, if_pos ⟨shorter.trans_lt room, (own x).symm.trans claimed, listed⟩]
      simp
  · have same : v.path.givenUp = s.path.givenUp := pruned.elim id fun filtered => filtered.trans
      (List.filter_eq_self.mpr fun y mem => (own y).symm.trans (claimed y mem))
    rw [entered, same, if_neg fun h => absurd h.1 (by omega)]

theorem State.giveUp_queues {s : State} {x : Cleat} (room : s.line.queue.length < Config.queuePlaces) :
    (s.giveUp x).queues .release (.cleat x) :=
  ((State.enterGivenUp_changes _ x).andThen (State.setRole_changes _ x .givenUp) (rs := [.givenUp, .claims])).queues
    (State.queueFrame_queues room)

-- The verdict (03 R53, R54)

theorem State.setRole_hasRole {s : State} {x : Cleat} (own : s.ownClaim x = true) (r : ClaimRole) :
    (s.setRole x r).hasRole x r = true := by
  simp [State.setRole, own, State.hasRole]

section Verdict
variable {v : State} {x c : Cleat} {h : Container} {rest : List Container} {b : BinNo}
  (hold : v.path.hold = h :: rest) (bin : h.bin = some b) (current : v.belt.current = some c)

include bin in
theorem State.claimVerdict_eq (v : State) : v.claimVerdict x h = if v.entryAt x = .claimed v.station b then
      if v.claimLate x then (v.giveUp x).mapHead fun h => h.unlinked (some 0)
      else (v.setRole x .held).mapHead fun h => { h with stage := .ready, link := .held, holdWait := none }
    else v.mapHead fun h => h.unlinked h.holdWait := by
  unfold State.claimVerdict
  simp only [bin, Option.any_some, Entry.claimedByFor_iff]

include current in
theorem State.claimLate_iff : v.claimLate x = true ↔ (x - c).toNat ≤ v.host.cfg.commitLead := by
  simp [State.claimLate, State.lead, current]

include hold bin in
theorem State.claimVerdict_void (void : v.entryAt x ≠ .claimed v.station b) :
    (v.claimVerdict x h).path.hold = h.unlinked h.holdWait :: rest ∧ (v.claimVerdict x h).line = v.line := by
  rw [v.claimVerdict_eq bin, if_neg void, State.mapHead_cons hold]
  exact ⟨rfl, (v.mapHead_changes _).line⟩

variable (accepted : v.entryAt x = .claimed v.station b)
include hold bin current accepted

theorem State.claimVerdict_inTime (inTime : v.host.cfg.commitLead < (x - c).toNat) :
    (v.claimVerdict x h).path.hold = { h with stage := .ready, link := .held, holdWait := none } :: rest
      ∧ (v.claimVerdict x h).hasRole x .held = true ∧ (v.claimVerdict x h).line = v.line := by
  have early : ¬v.claimLate x = true := fun late => absurd ((State.claimLate_iff current).mp late) (by omega)
  have own : v.ownClaim x = true := by simp [State.ownClaim, accepted, Entry.claimedBy]
  have entered := v.setRole_changes x .held
  have role := State.setRole_hasRole own .held
  rw [v.claimVerdict_eq bin, if_pos accepted, if_neg early]
  generalize v.setRole x .held = w at entered role
  have holds : w.path.hold = h :: rest := (entered.keeps .hold).trans hold
  rw [State.mapHead_cons holds]
  refine ⟨rfl, ?_, (w.mapHead_changes _).line.trans entered.line⟩
  have claims : (w.mapHead fun h => { h with stage := .ready, link := .held, holdWait := none }).path.claims = w.path.claims :=
    (w.mapHead_changes _).keeps .claims
  simp only [State.hasRole, claims]
  exact role

theorem State.claimVerdict_late (late : (x - c).toNat ≤ v.host.cfg.commitLead) :
    (v.claimVerdict x h).path.hold = h.unlinked (some 0) :: rest
      ∧ (v.claimVerdict x h).path.givenUp = (v.giveUp x).path.givenUp
      ∧ (v.line.queue.length < Config.queuePlaces → (v.claimVerdict x h).queues .release (.cleat x)) := by
  have given := v.giveUp_changes x
  have queues (room : v.line.queue.length < Config.queuePlaces) := State.giveUp_queues (s := v) (x := x) room
  rw [v.claimVerdict_eq bin, if_pos accepted, if_pos ((State.claimLate_iff current).mpr late)]
  generalize v.giveUp x = w at given queues
  have holds : w.path.hold = h :: rest := (given.keeps .hold).trans hold
  rw [State.mapHead_cons holds]
  exact ⟨rfl, rfl, fun room => (w.mapHead_changes _).queues (queues room)⟩

end Verdict

theorem toNat_ofNat_station {n : Nat} (most : n ≤ 12) : (BitVec.ofNat 4 n).toNat = n := by
  rw [BitVec.toNat_ofNat]
  exact Nat.mod_eq_of_lt (by omega)

theorem senderInRange_station {n : Nat} (least : 1 ≤ n) (most : n ≤ 12) : senderInRange (BitVec.ofNat 4 n) = true := by
  rw [senderInRange, toNat_ofNat_station most]
  exact decide_eq_true ⟨least, most⟩

/-- Settles O28. -/
theorem ownClaimVerdict : Obligations.OwnClaimVerdict := by
  intro s rx pre post g x c b u w h rest receives synced least most queue before after won frame hold link cleat bin current
    used fits
  have number := toNat_ofNat_station most
  have sent : g.phase ≠ .waiting := by rw [won]; nofun
  obtain ⟨l, shape⟩ : ∃ l, l = { s.lineAfter rx with
      queue := pre ++ post, slot := .none
      aloneCount := if rx.echo then 0 else min 8 (s.line.aloneCount + 1) } := ⟨_, rfl⟩
  have lineQueue : l.queue = pre ++ post := by rw [shape]
  have taken : s.takesFrom rx (BitVec.ofNat 4 s.station) .claim (.cleat x) l :=
    ⟨receives, senderInRange_station least most, .inr ⟨number, pre, g, post, queue, before, after, sent,
      by rw [frame]; rfl, by rw [frame]; rfl, shape⟩⟩
  have runs := claimTaken_runs (b := b) (u := u) taken
  rw [number, decide_eq_true rfl] at runs
  have early := State.claimApplied_changes (s := s) (l := l) (x := x) (b := b) (u := u) s.station
  have entries := State.claimApplied_entryAt (s := s) (l := l) (x := x) (b := b) (u := u) s.station x
  have givenUp := State.claimApplied_givenUp (s := s) (l := l) (x := x) (b := b) (u := u) s.station
  have passes : ((s.withLine l).adopt .claim s.station b u).binPasses b = true ↔ fits :=
    State.adopt_binPasses (s := s) (l := l) (b := b) (u := u) s.station
  generalize s.claimApplied l s.station x b u = v at runs early entries givenUp
  have holds : v.path.hold = h :: rest := (early.keeps .hold).trans hold
  have cur : v.belt.current = some c := (congrArg Belt.current (early.keeps .belt)).trans current
  have cfg : v.host.cfg = s.host.cfg := early.config
  have station : v.station = s.station := congrArg Configuration.stationNumber cfg
  have vline : v.line = l := early.line
  have judged : v.reportClaim x true = v.claimVerdict x h := by
    have member : v.member = s.member := early.keeps .member
    simp [State.reportClaim, State.head, holds, State.synced, member, synced, link, cleat]
  rw [judged] at runs
  have verdict := v.claimVerdict_changes x h
  have entry : (v.claimVerdict x h).entryAt x = v.entryAt x := verdict.entryAt x
  have own (y : Cleat) : (v.claimVerdict x h).ownClaim y = v.ownClaim y := verdict.ownClaim y
  refine ⟨_, runs, fun free fit => ?_, fun free unfit => ?_, fun other => ?_, fun accepted inTime => ?_,
    fun accepted late => ?_, fun void => ?_⟩
  · rw [entry, entries, if_pos ⟨rfl, free, passes.mpr fit⟩]
  · rw [entry, entries, if_neg fun h => unfit (passes.mp h.2.2), free]
  · rw [entry, entries, if_neg fun h => other h.2.1]
  · rw [entry, ← station] at accepted
    rw [← cfg] at inTime
    obtain ⟨hold', role, line⟩ := State.claimVerdict_inTime holds bin cur accepted inTime
    exact ⟨hold', role, by rw [line, vline, lineQueue]⟩
  · rw [entry, ← station] at accepted
    rw [← cfg] at late
    obtain ⟨hold', entered, queues⟩ := State.claimVerdict_late holds bin cur accepted late
    exact ⟨hold', State.givesUp_of givenUp entered own, fun room => queues (by rw [vline, lineQueue]; simpa using room)⟩
  · rw [entry, ← station] at void
    obtain ⟨hold', line⟩ := State.claimVerdict_void holds bin void
    exact ⟨hold', by rw [line, vline, lineQueue]⟩

end Machine
end Sys2Proof
end

section
/-! PROOF. O32, a COUNTS of another station and of this station (05 R93, R94, 04 R80). -/
set_option Elab.async false
namespace Sys2Proof
namespace Machine

-- Frames queued where there is a place (02 R43, R44)

/-- A frame with a place changes the queue alone. -/
theorem State.queueFrame_of_room {s : State} {f : Frame} (room : s.line.queue.length < f.kind.places) :
    s.queueFrame f = s.setQueue (s.queueFrame f).line.queue := by
  have places : s.queueFullFor (s.fill f).kind = false := by
    rw [(s.fill_slot f).1]
    exact decide_eq_false (by omega)
  unfold State.queueFrame State.enqueue
  dsimp only
  rw [places]
  split
  next full =>
    split at full
    · split at full <;> simp at full
    · simp at full
  next taken =>
    split at taken
    · split at taken
      all_goals
        obtain ⟨rfl, _⟩ := Prod.mk.inj taken
        rfl
    · obtain ⟨rfl, _⟩ := Prod.mk.inj taken
      rfl

-- The holds queued afresh (04 R80, 05 R92)

/-- BIN HOLD is queued for a HELD bin. -/
def State.assertHold (s : State) (b : BinNo) : State :=
  match s.bins[b].state with
  | .held cause => s.queueFrame (.binHold b cause)
  | .opened => s

theorem State.reassertHolds_eq (s : State) : s.reassertHolds = gatedBins.foldl State.assertHold s := rfl

theorem State.assertHold_held {s : State} {b : BinNo} {c : HoldCause} (held : s.bins[b].state = .held c) :
    s.assertHold b = s.queueFrame (.binHold b c) := by
  simp only [State.assertHold, held]

theorem State.assertHold_opened {s : State} {b : BinNo} (opened : s.bins[b].state = .opened) : s.assertHold b = s := by
  simp only [State.assertHold, opened]

theorem State.assertHold_changes (s : State) (b : BinNo) : Changes [.queue, .notice .lineFault] s (s.assertHold b) := by
  unfold State.assertHold
  split
  · exact s.queueFrame_changes _
  · exact .refl _ s

theorem State.assertHold_state (s : State) (b k : BinNo) : (s.assertHold b).bins[k].state = s.bins[k].state :=
  (s.assertHold_changes b).binState (b := k)

theorem State.assertHolds_keep (s : State) (l : List BinNo) {k : FrameKind} {x : Subject} (queued : s.queues k x) :
    (l.foldl State.assertHold s).queues k x := by
  induction l generalizing s with
  | nil => exact queued
  | cons b l ih =>
    refine ih _ ?_
    unfold State.assertHold
    split
    · exact State.queueFrame_keeps _ queued
    · exact queued

theorem State.assertHolds_kept (s : State) (l : List BinNo) {g : QueuedFrame} (mem : g ∈ s.line.queue)
    (other : g.frame.kind ≠ .binHold) : g ∈ (l.foldl State.assertHold s).line.queue := by
  induction l generalizing s with
  | nil => exact mem
  | cons b l ih =>
    refine ih _ ?_
    unfold State.assertHold
    split
    next c _ =>
      exact (s.queueFrame_gives (.binHold b c)).kept g mem (Bool.eq_false_iff.mpr fun same =>
        other ((Frame.sameSlot_iff _ _).mp same).1)
    · exact mem

theorem State.assertHolds_old (s : State) (l : List BinNo) {g : QueuedFrame}
    (mem : g ∈ (l.foldl State.assertHold s).line.queue) :
    g ∈ s.line.queue ∨ ∃ b c, b ∈ l ∧ s.bins[b].state = .held c ∧ g.frame = .binHold b c := by
  induction l generalizing s with
  | nil => exact .inl mem
  | cons b l ih =>
    rcases ih _ mem with early | ⟨k, c, mem, held, frame⟩
    · cases state : s.bins[b].state with
      | opened =>
        rw [State.assertHold_opened state] at early
        exact .inl early
      | held c =>
        rw [State.assertHold_held state] at early
        exact ((s.queueFrame_gives (.binHold b c)).old g early).symm.imp id fun frame =>
          ⟨b, c, List.mem_cons_self, state, frame⟩
    · rw [s.assertHold_state] at held
      exact .inr ⟨k, c, List.mem_cons_of_mem _ mem, held, frame⟩

/-- With a place for each HELD bin every hold is queued, and nothing is dropped. -/
theorem State.assertHolds_room (s : State) (l : List BinNo)
    (room : s.line.queue.length + (l.filter fun b => s.bins[b].state != .opened).length ≤ Config.queuePlacesOther) :
    (∀ b ∈ l.filter fun b => s.bins[b].state != .opened, (l.foldl State.assertHold s).queues .binHold (.bin b))
      ∧ (l.foldl State.assertHold s).notices = s.notices := by
  induction l generalizing s with
  | nil => exact ⟨nofun, rfl⟩
  | cons b l ih =>
    have tail : (l.filter fun k => (s.assertHold b).bins[k].state != .opened) = l.filter fun k => s.bins[k].state != .opened :=
      List.filter_congr fun k _ => by rw [s.assertHold_state]
    cases state : s.bins[b].state with
    | opened =>
      have skipped : ((b :: l).filter fun k => s.bins[k].state != .opened) = l.filter fun k => s.bins[k].state != .opened :=
        List.filter_cons_of_neg (by simpa using state)
      rw [skipped] at room ⊢
      rw [List.foldl_cons, State.assertHold_opened state]
      exact ih s room
    | held c =>
      have head : ((b :: l).filter fun k => s.bins[k].state != .opened) =
          b :: l.filter fun k => s.bins[k].state != .opened :=
        List.filter_cons_of_pos (by rw [state]; rfl)
      rw [head, List.length_cons] at room
      have place : s.line.queue.length < (Frame.binHold b c).kind.places := by
        change s.line.queue.length < Config.queuePlacesOther
        omega
      have grows := (s.queueFrame_gives (.binHold b c)).length
      rw [← State.assertHold_held state] at grows
      obtain ⟨queues, notices⟩ := ih (s.assertHold b) (by rw [tail]; omega)
      rw [tail] at queues
      rw [head, List.foldl_cons]
      refine ⟨List.forall_mem_cons.mpr ⟨?_, queues⟩, ?_⟩
      · refine State.assertHolds_keep _ l ?_
        rw [State.assertHold_held state]
        exact State.queueFrame_queues place
      · rw [notices, State.assertHold_held state, State.queueFrame_of_room place]
        rfl

theorem State.heldBins_congr {s t : State} (same : ∀ b : BinNo, t.bins[b].state = s.bins[b].state) :
    t.heldBins = s.heldBins := List.filter_congr fun b _ => by rw [same]

theorem State.mem_heldBins {s : State} {b : BinNo} {c : HoldCause} (gated : b ∈ gatedBins)
    (held : s.bins[b].state = .held c) : b ∈ s.heldBins :=
  List.mem_filter.mpr ⟨gated, bne_iff_ne.mpr (by rw [held]; nofun)⟩

/-- The queue after the holds have been queued afresh. -/
theorem State.reassertHolds_facts (s : State) : Changes [.queue, .notice .lineFault] s s.reassertHolds
    ∧ (s.line.queue.length + s.heldBins.length ≤ Config.queuePlacesOther →
        (∀ b ∈ s.heldBins, s.reassertHolds.queues .binHold (.bin b)) ∧ s.reassertHolds.notices = s.notices)
    ∧ (∀ g ∈ s.line.queue, g.frame.kind ≠ .binHold → g ∈ s.reassertHolds.line.queue)
    ∧ (∀ g ∈ s.reassertHolds.line.queue, g ∈ s.line.queue
        ∨ ∃ b c, b ∈ s.heldBins ∧ s.bins[b].state = .held c ∧ g.frame = .binHold b c) := by
  have changes := s.reassertHolds_changes
  rw [State.reassertHolds_eq] at changes ⊢
  refine ⟨changes, s.assertHolds_room gatedBins, fun g mem => s.assertHolds_kept gatedBins mem,
    fun g mem => (s.assertHolds_old gatedBins mem).imp id ?_⟩
  rintro ⟨b, c, gated, held, frame⟩
  exact ⟨b, c, State.mem_heldBins gated held, held, frame⟩

-- CONFLICT (05 R94, R96, R98)

theorem State.listening_iff (s : State) : s.listening = true ↔ s.member.state = .listening := beq_iff_eq

theorem State.enterConflict_facts (s : State) (cause : JoinCause) : (s.enterConflict cause).member = .conflict
    ∧ (s.enterConflict cause).line.queue = []
    ∧ (s.enterConflict cause).notices[NoticeKind.joinState.index] =
        { detail := some (.joinState .conflict s.member.state cause)
          count := min 255 (s.notices[NoticeKind.joinState.index].count + 1) } :=
  ⟨rfl, rfl, State.raise_record _ _ rfl⟩

-- A COUNTS

/-- The state as a COUNTS has been applied and its BIN CHANGE raised. -/
def State.countsApplied (s : State) (l : Line) (n : Nat) (digest : Word16) (used : Vector Word16 8) : State :=
  ((s.withLine l).applyCounts n digest used).reportBins s.bins

theorem countsTaken_runs {s : State} {rx : Reception} {sender : Nibble} {l : Line} (digest : Word16)
    (used : Vector Word16 8) (taken : s.takesFrom rx sender .counts .none l) :
    exec (.countsTaken rx sender digest used) s = .next (State.reportCounts digest (decide (sender.toNat = s.station))
      (s.countsApplied l sender.toNat digest used)) := by
  have result := State.take_applied (t := countsFrame sender) (ps := .notice .lineFault :: (adoptParts ++ foreignParts))
    taken (screenFields_plain taken.2.1) (fun s => (s.applyCounts_changes sender.toNat digest used).within)
    (fun own s => (s.reportCounts_changes digest own).within)
  exact (exec_countsTaken rx sender digest used s).trans (congrArg _ result)

theorem State.ownsDigest_iff (s : State) (digest : Word16) : s.ownsDigest digest = true ↔ s.ownDigest = some digest :=
  beq_iff_eq

theorem State.withdrawCounts_waiting (s : State) {g : QueuedFrame} (mem : g ∈ s.withdrawCounts.line.queue)
    (waiting : g.phase = .waiting) : g.frame.kind ≠ .counts := by
  have stays := (List.mem_filter.mp mem).2
  intro same
  simp [waiting, same] at stays

/-- A COUNTS with another digest that does not carry this station's number (05 R94). -/
theorem State.foreignCounts_facts {s : State} {n : Nat} (other : n ≠ s.station) (digest : Word16) :
    (s.foreignCounts n digest).noticeOf .configConflict =
        some (.configConflict .counts n digest s.ownDigest s.member.state)
      ∧ (s.foreignCounts n digest).member = (if s.member.state = .listening then .conflict else s.member)
      ∧ (s.member.state = .listening → (s.foreignCounts n digest).line.queue = []
          ∧ (s.foreignCounts n digest).noticeOf .joinState = some (.joinState .conflict .listening .digest))
      ∧ (s.member.state ≠ .listening →
          (s.foreignCounts n digest).notices[NoticeKind.joinState.index] = s.notices[NoticeKind.joinState.index]) := by
  have told : (s.configConflict .counts n digest).noticeOf .configConflict =
      some (.configConflict .counts n digest s.ownDigest s.member.state) := State.raise_noticeOf _ _ rfl
  by_cases listens : s.member.state = .listening
  · have enters : s.foreignCounts n digest = (s.configConflict .counts n digest).enterConflict .digest := by
      have apart : n ≠ (s.configConflict .counts n digest).station := other
      refine if_pos ?_
      have listening : (s.configConflict .counts n digest).listening = true := (State.listening_iff _).mpr listens
      simp [listening, apart]
    obtain ⟨member, queue, join⟩ := (s.configConflict .counts n digest).enterConflict_facts .digest
    rw [enters]
    refine ⟨(congrArg NoticeRecord.detail ((State.enterConflict_changes _ _).keeps (.notice .configConflict))).trans told,
      ?_, fun _ => ⟨queue, ?_⟩, fun out => absurd listens out⟩
    · rw [member, if_pos listens]
    · refine (congrArg NoticeRecord.detail join).trans ?_
      exact congrArg (fun m => some (NoticeDetail.joinState .conflict m .digest)) listens
  · have stays : s.foreignCounts n digest = s.configConflict .counts n digest := by
      refine if_neg ?_
      simp [State.listening, State.configConflict, listens]
    rw [stays]
    exact ⟨told, (if_neg listens).symm, fun listening => absurd listening listens,
      fun _ => (s.raise_changes (.configConflict .counts n digest s.ownDigest s.member.state)
        (k := .configConflict)).keeps (.notice .joinState)⟩

/-- What a COUNTS writes before its report. -/
@[simp] def countsParts : List Part := .notice .binChange :: (adoptParts ++ foreignParts)

section Applied
variable {s : State} {l : Line} {n : Nat} {digest : Word16} {used : Vector Word16 8}

theorem State.countsApplied_changes : Changes countsParts (s.withLine l) (s.countsApplied l n digest used) :=
  ((s.withLine l).applyCounts_changes n digest used).andThen (State.reportBins_changes _ _)

theorem State.countsApplied_ownDigest : (s.countsApplied l n digest used).ownDigest = s.ownDigest :=
  congrArg (fun c => c.2.2) (State.countsApplied_changes.keeps .cfg)

section Same
variable (digests : s.ownDigest = some digest)
include digests

theorem State.countsApplied_of_same :
    s.countsApplied l n digest used = ((s.withLine l).adoptCounts n used).reportBins s.bins :=
  congrArg (State.reportBins s.bins) (if_pos ((State.ownsDigest_iff _ _).mpr digests))

theorem State.countsApplied_same_changes :
    Changes (.notice .binChange :: adoptParts) (s.withLine l) (s.countsApplied l n digest used) := by
  rw [State.countsApplied_of_same digests]
  exact ((s.withLine l).adoptCounts_changes n used).andThen (State.reportBins_changes _ _)

/-- What an adopted COUNTS leaves, with what follows it (04 R80). -/
theorem State.countsApplied_adopts {t : State} {ps : List Part} (later : Changes ps (s.countsApplied l n digest used) t)
    (usedKept : .used ∉ ps := by simp [NoticeDetail.kind])
    (silent : .notice .countMismatch ∉ ps := by simp [NoticeDetail.kind]) :
    (∀ i : Fin 8, t.bins[i.succ].used = if used[i] = 0xFFFF#16 then s.bins[i.succ].used else some used[i].toNat)
      ∧ s.comparesCounts t n used := by
  rw [State.countsApplied_of_same digests] at later
  have reports := ((s.withLine l).adoptCounts n used).reportBins_changes s.bins
  refine ⟨fun i => ?_, ((s.withLine l).adoptCounts_compares n used).after
    ((later.keeps (.notice .countMismatch) silent).trans (reports.keeps (.notice .countMismatch)))⟩
  rw [later.used usedKept, reports.used (b := i.succ), State.adoptCounts_bins]
  rfl

/-- Another station's COUNTS with the own digest (05 R93). -/
theorem State.reportCounts_same : State.reportCounts digest false (s.countsApplied l n digest used) =
    (s.countsApplied l n digest used).withdrawCounts := by
  simp only [State.reportCounts, Bool.false_eq_true, if_false]
  exact if_pos ((State.ownsDigest_iff _ _).mpr (State.countsApplied_ownDigest.trans digests))

end Same

section Other
variable (differs : s.ownDigest ≠ some digest)
include differs

theorem State.countsApplied_of_other :
    s.countsApplied l n digest used = ((s.withLine l).foreignCounts n digest).reportBins s.bins :=
  congrArg (State.reportBins s.bins) (if_neg fun owns => differs ((State.ownsDigest_iff _ _).mp owns))

theorem State.countsApplied_other_changes :
    Changes (.notice .binChange :: .bins :: foreignParts) (s.withLine l) (s.countsApplied l n digest used) := by
  rw [State.countsApplied_of_other differs]
  exact ((s.withLine l).foreignCounts_changes n digest).andThen (State.reportBins_changes _ _)

/-- Another station's COUNTS with another digest is not reported. -/
theorem State.reportCounts_other : State.reportCounts digest false (s.countsApplied l n digest used) =
    s.countsApplied l n digest used := by
  simp only [State.reportCounts, Bool.false_eq_true, if_false]
  exact if_neg fun owns => differs (State.countsApplied_ownDigest.symm.trans ((State.ownsDigest_iff _ _).mp owns))

/-- CONFIG CONFLICT and the way into CONFLICT (05 R94). -/
theorem State.countsApplied_conflicts (station : n ≠ s.station) :
    (s.countsApplied l n digest used).noticeOf .configConflict =
        some (.configConflict .counts n digest s.ownDigest s.member.state)
      ∧ (s.countsApplied l n digest used).member = (if s.member.state = .listening then .conflict else s.member)
      ∧ (s.member.state = .listening → (s.countsApplied l n digest used).line.queue = []
          ∧ (s.countsApplied l n digest used).noticeOf .joinState = some (.joinState .conflict .listening .digest))
      ∧ (s.member.state ≠ .listening → (s.countsApplied l n digest used).notices[NoticeKind.joinState.index] =
          s.notices[NoticeKind.joinState.index]) := by
  obtain ⟨told, member, listens, quiet⟩ := State.foreignCounts_facts (s := s.withLine l) (n := n) station digest
  rw [State.countsApplied_of_other differs]
  have reports := State.reportBins_changes s.bins ((s.withLine l).foreignCounts n digest)
  refine ⟨(congrArg NoticeRecord.detail (reports.keeps (.notice .configConflict))).trans told,
    (reports.keeps .member).trans member, fun listening => ?_, fun out => (reports.keeps (.notice .joinState)).trans (quiet out)⟩
  obtain ⟨queue, join⟩ := listens listening
  exact ⟨(reports.keeps .queue).trans queue,
    (congrArg NoticeRecord.detail (reports.keeps (.notice .joinState))).trans join⟩

end Other

end Applied

/-- A COUNTS of another station. -/
theorem countsTaken_heard {s : State} {rx : Reception} {sender : Nibble} (digest : Word16) (used : Vector Word16 8)
    (hears : s.hears sender) : ∃ t, exec (.countsTaken rx sender digest used) s = .next t
      ∧ (s.ownDigest = some digest →
          (∀ i : Fin 8, t.bins[i.succ].used =
            if used[i] = 0xFFFF#16 then s.bins[i.succ].used else some used[i].toNat)
          ∧ s.comparesCounts t sender.toNat used
          ∧ (∀ g ∈ t.line.queue, g.phase = .waiting → g.frame.kind ≠ .counts)
          ∧ t.member = s.member ∧ s.sameNoticesBut [.countMismatch, .binChange] t)
      ∧ (s.ownDigest ≠ some digest →
          t.noticeOf .configConflict = some (.configConflict .counts sender.toNat digest s.ownDigest s.member.state)
          ∧ (∀ i : Fin 8, t.bins[i.succ].used = s.bins[i.succ].used)
          ∧ t.member = (if s.member.state = .listening then .conflict else s.member)
          ∧ (s.member.state = .listening → t.line.queue = []
              ∧ t.noticeOf .joinState = some (.joinState .conflict .listening .digest))
          ∧ (s.member.state ≠ .listening →
              t.notices[NoticeKind.joinState.index] = s.notices[NoticeKind.joinState.index]))
      ∧ (∀ k : BinNo, t.bins[k].state = s.bins[k].state)
      ∧ t.map = s.map ∧ t.belt = s.belt ∧ t.session = s.session ∧ t.drives = s.drives := by
  have runs := countsTaken_runs digest used (hears.takesFrom rx .counts .none)
  rw [decide_eq_false hears.2.2] at runs
  have applied := State.countsApplied_changes (s := s) (l := s.lineAfter rx) (n := sender.toNat) (digest := digest)
    (used := used)
  have all := applied.andThen (State.reportCounts_changes digest false _) (rs := .notice .lineFault :: countsParts)
  by_cases digests : s.ownDigest = some digest
  · have early := State.countsApplied_same_changes (l := s.lineAfter rx) (n := sender.toNat) (used := used) digests
    have facts := State.countsApplied_adopts (l := s.lineAfter rx) (n := sender.toNat) (used := used) digests
      (State.withdrawCounts_changes _)
    rw [State.reportCounts_same digests] at runs all
    generalize s.countsApplied (s.lineAfter rx) sender.toNat digest used = v at runs all early facts
    have late := early.andThen v.withdrawCounts_changes (rs := .queue :: .notice .binChange :: adoptParts)
    exact ⟨_, runs, fun _ => ⟨facts.1, facts.2, fun g mem waiting => v.withdrawCounts_waiting mem waiting,
      late.keeps .member, late.sameNoticesBut _⟩, fun differs => absurd digests differs, fun k => all.binState (b := k),
      all.keeps .map, all.keeps .belt, all.session, all.drives⟩
  · have early := State.countsApplied_other_changes (l := s.lineAfter rx) (n := sender.toNat) (used := used) digests
    obtain ⟨told, conflicts⟩ := State.countsApplied_conflicts (l := s.lineAfter rx) (used := used) digests hears.2.2
    rw [State.reportCounts_other digests] at runs all
    generalize s.countsApplied (s.lineAfter rx) sender.toNat digest used = v at runs all early told conflicts
    exact ⟨v, runs, fun same => absurd same digests, fun _ => ⟨told, fun i => early.used (b := i.succ), conflicts⟩,
      fun k => all.binState (b := k), all.keeps .map, all.keeps .belt, all.session, all.drives⟩

/-- This station's own COUNTS queues the holds afresh (04 R80). -/
theorem countsTaken_own {s : State} {rx : Reception} {sender : Nibble} {digest : Word16} (used : Vector Word16 8) {l : Line}
    (taken : s.takesFrom rx sender .counts .none l) (own : sender.toNat = s.station) (digests : s.ownDigest = some digest) :
    ∃ t, exec (.countsTaken rx sender digest used) s = .next t
      ∧ (∀ i : Fin 8, t.bins[i.succ].used =
          if used[i] = 0xFFFF#16 then s.bins[i.succ].used else some used[i].toNat)
      ∧ s.comparesCounts t sender.toNat used
      ∧ (l.queue.length + s.heldBins.length ≤ Config.queuePlacesOther →
          (∀ b ∈ s.heldBins, t.queues .binHold (.bin b)) ∧ s.sameNoticesBut [.countMismatch, .binChange] t)
      ∧ (∀ g ∈ l.queue, g.frame.kind ≠ .binHold → g ∈ t.line.queue)
      ∧ (∀ g ∈ t.line.queue, g ∈ l.queue ∨ ∃ b c, b ∈ s.heldBins ∧ s.bins[b].state = .held c ∧ g.frame = .binHold b c)
      ∧ (∀ k : BinNo, t.bins[k].state = s.bins[k].state)
      ∧ t.line = { l with queue := t.line.queue } ∧ t.member = s.member
      ∧ t.map = s.map ∧ t.belt = s.belt ∧ t.session = s.session ∧ t.drives = s.drives := by
  have runs : exec (.countsTaken rx sender digest used) s = .next (s.countsApplied l sender.toNat digest used).reassertHolds := by
    have runs := countsTaken_runs digest used taken
    rw [decide_eq_true own] at runs
    exact runs
  have early := State.countsApplied_same_changes (l := l) (n := sender.toNat) (used := used) digests
  have facts := State.countsApplied_adopts (l := l) (n := sender.toNat) (used := used) digests
    (State.reassertHolds_changes _)
  generalize s.countsApplied l sender.toNat digest used = v at runs early facts
  have queue : v.line.queue = l.queue := early.keeps .queue
  have told : s.sameNoticesBut [.countMismatch, .binChange] v := early.sameNoticesBut _
  obtain ⟨asserts, holds, kept, old⟩ := v.reassertHolds_facts
  rw [State.heldBins_congr fun b => early.binState (b := b), queue] at holds
  rw [queue] at kept
  generalize v.reassertHolds = t at runs facts asserts holds kept old
  have all := early.andThen asserts (rs := .queue :: .notice .lineFault :: .notice .binChange :: adoptParts)
  refine ⟨t, runs, facts.1, facts.2, fun room => ?_, kept, fun g mem => ?_, fun k => all.binState (b := k), all.lineBody,
    all.keeps .member, all.keeps .map, all.keeps .belt, all.session, all.drives⟩
  · obtain ⟨queues, notices⟩ := holds room
    exact ⟨queues, fun k out => (congrArg (fun n : Vector NoticeRecord 22 => n[k.index]) notices).trans (told k out)⟩
  · have held : v.heldBins = s.heldBins := State.heldBins_congr fun b => early.binState (b := b)
    refine (old g mem).imp (fun mem => by rwa [queue] at mem) fun ⟨b, c, mem, hold, frame⟩ => ⟨b, c, ?_, ?_, frame⟩
    · rwa [held] at mem
    · rwa [early.binState (b := b)] at hold

/-- Settles O32. -/
theorem countsTaken : Obligations.CountsTaken :=
  fun _ _ _ digest used => ⟨countsTaken_heard digest used, fun _ => countsTaken_own used⟩

end Machine
end Sys2Proof
end

section
/-! PROOF. O33, a JOIN of another station and of this station, and a frame with this station's number that it did not send
(05 R88, R92, R95 to R98). -/
set_option Elab.async false
namespace Sys2Proof
namespace Machine

/-- What changes the queue and LINE FAULT alone, as one state. -/
theorem Changes.queueAndNotices {s t : State} (h : Changes [.queue, .notice .lineFault] s t) :
    t = { s with line := { s.line with queue := t.line.queue }, notices := t.notices } := by
  have host := h.host
  have belt : t.belt = s.belt := h.keeps .belt
  have map : t.map = s.map := h.keeps .map
  have bins : t.bins = s.bins := h.keeps .bins
  have member : t.member = s.member := h.keeps .member
  have digest : t.ownDigest = s.ownDigest := congrArg (fun c => c.2.2) (h.keeps .cfg)
  have gates : t.gates = s.gates := h.keeps .gates
  have duty : t.dutyReports = s.dutyReports := h.keeps .dutyReports
  have line := h.lineBody
  have path := h.path
  have eyes : t.eyes = s.eyes := h.keeps .eyes
  have scan := h.scan
  have reader : t.reader = s.reader := h.keeps .reader
  have article := h.article
  have drives := h.drives
  have heat : t.heat = s.heat := h.keeps .heat
  have session := h.session
  have pending : t.pending = s.pending := h.keeps .pending
  have draws : t.draws = s.draws := h.keeps .draws
  rw [← host, ← belt, ← map, ← bins, ← member, ← digest, ← gates, ← duty, ← line, ← path, ← eyes, ← scan, ← reader,
    ← article, ← drives, ← heat, ← session, ← pending, ← draws]

-- A JOIN (05 R88, R92, R95)

theorem joinTaken_runs {s : State} {rx : Reception} {sender : Nibble} {l : Line} (digest : Word16)
    (taken : s.takesFrom rx sender .join .none l) :
    exec (.joinTaken rx sender digest) s = .next (State.reportJoin sender.toNat digest (decide (sender.toNat = s.station))
      ((s.withLine l).reportBins s.bins)) := by
  have result := State.take_applied (t := joinFrame sender) (ps := joinFrameParts) (apply := fun s => s) taken
    (screenFields_plain taken.2.1) (fun s => .refl _ s) (fun own s => s.reportJoin_changes sender.toNat digest own)
  exact (exec_joinTaken rx sender digest s).trans (congrArg _ result)

/-- Another station's JOIN where no full mark is to be reported. -/
theorem joinTaken_heard {s : State} {rx : Reception} {sender : Nibble} (digest : Word16) (hears : s.hears sender)
    (reported : ∀ b : BinNo, s.full b = s.bins[b].reportedFull) :
    exec (.joinTaken rx sender digest) s = .next ((s.echoed rx).foreignJoin sender.toNat digest) := by
  have runs := joinTaken_runs digest (hears.takesFrom rx .join .none)
  rw [decide_eq_false hears.2.2] at runs
  have quiet : (s.withLine (s.lineAfter rx)).reportBins s.bins = s.echoed rx :=
    State.reportBins_self (s := s.echoed rx) reported
  rw [quiet] at runs
  exact runs

section Foreign
variable {s : State} {n : Nat} {digest : Word16} (other : n ≠ s.station)
include other

theorem State.foreignJoin_of_same (digests : s.ownDigest = some digest) (synced : s.member = .synced) :
    s.foreignJoin n digest = s.answerJoin digest := by
  have owns : s.ownsDigest digest = true := (s.ownsDigest_iff digest).mpr digests
  simp [State.foreignJoin, other, owns, State.synced, synced]

theorem State.foreignJoin_of_other (differs : s.ownDigest ≠ some digest) :
    s.foreignJoin n digest = s.configConflict .join n digest := by
  have foreign : ¬s.ownsDigest digest = true := fun owns => differs ((s.ownsDigest_iff digest).mp owns)
  simp [State.foreignJoin, other, foreign]

end Foreign

theorem State.allKnown_iff (s : State) : s.allKnown = true ↔ ∀ i : Fin 8, s.bins[i.succ].used.isSome = true := by
  simp only [State.allKnown, List.all_eq_true, mem_gatedBins, State.usedOf]
  refine ⟨fun all i => all i.succ (Fin.succ_ne_zero i), fun all b gated => ?_⟩
  obtain ⟨i, rfl⟩ := Fin.exists_succ_eq.mpr gated
  exact all i

/-- A SYNCED station that knows its counts answers with them (05 R92). -/
theorem State.answerJoin_counts {s : State} (known : ∀ i : Fin 8, s.bins[i.succ].used.isSome = true)
    (room : s.line.queue.length < Config.queuePlacesOther) (digest : Word16) :
    (s.answerJoin digest).queues .counts .none
      ∧ s.answerJoin digest = s.setQueue (s.answerJoin digest).line.queue := by
  have answers : s.answerJoin digest = s.queueFrame (.counts digest (Vector.replicate 8 0xFFFF#16)) :=
    if_pos (s.allKnown_iff.mpr known)
  rw [answers]
  exact ⟨State.queueFrame_queues room, State.queueFrame_of_room room⟩

theorem State.answerJoin_holds {s : State} (unknown : ∃ i : Fin 8, s.bins[i.succ].used = none) (digest : Word16) :
    s.answerJoin digest = s.reassertHolds := by
  refine if_neg fun all => ?_
  obtain ⟨i, absent⟩ := unknown
  have known := s.allKnown_iff.mp all i
  rw [absent] at known
  contradiction

-- A frame with this station's number that it did not send (05 R96 to R98)

/-- What the duplicate test of a LISTENING station does to the state after the frame has been applied. -/
theorem State.testDuplicate_facts {v : State} {t : TakenFrame} (listens : v.member.state = .listening)
    (own : t.station = v.station) (applied : t.applied = true) :
    (v.testDuplicate t false).member = .conflict ∧ (v.testDuplicate t false).line.queue = []
      ∧ (v.testDuplicate t false).noticeOf .duplicateId = some (.duplicateId t.kind t.subject .listening)
      ∧ (v.testDuplicate t false).noticeOf .joinState = some (.joinState .conflict .listening .duplicate)
      ∧ (v.testDuplicate t false).notices[NoticeKind.joinState.index].count =
          min 255 (v.notices[NoticeKind.joinState.index].count + 1) := by
  have listening : v.listening = true := v.listening_iff.mpr listens
  have tests : v.testDuplicate t false =
      (v.raise (.duplicateId t.kind t.subject v.member.state)).enterConflict .duplicate := by
    refine if_pos ?_
    simp [listening, own, applied]
  obtain ⟨member, queue, join⟩ :=
    (v.raise (.duplicateId t.kind t.subject v.member.state)).enterConflict_facts .duplicate
  have told : (v.raise (.duplicateId t.kind t.subject v.member.state)).noticeOf .duplicateId =
      some (.duplicateId t.kind t.subject v.member.state) := State.raise_noticeOf _ _ rfl
  rw [tests]
  refine ⟨member, queue, ?_, ?_, ?_⟩
  · rw [listens] at told ⊢
    exact (congrArg NoticeRecord.detail ((State.enterConflict_changes _ _).keeps (.notice .duplicateId))).trans told
  · refine (congrArg NoticeRecord.detail join).trans ?_
    exact congrArg (fun m => some (NoticeDetail.joinState .conflict m .duplicate)) listens
  · refine (congrArg NoticeRecord.count join).trans ?_
    have still := (v.raise_changes (.duplicateId t.kind t.subject v.member.state) (k := .duplicateId)).keeps
      (.notice .joinState)
    exact congrArg (fun r : NoticeRecord => min 255 (r.count + 1)) still

/-- What the duplicate test leaves of a station out of OFFLINE: CONFLICT, with both notices raised once. -/
structure Duplicated (s t : State) (k : FrameKind) (x : Subject) : Prop where
  member : t.member = .conflict
  queue : t.line.queue = []
  duplicate : t.noticeOf .duplicateId = some (.duplicateId k x .listening)
  join : t.noticeOf .joinState = some (.joinState .conflict .listening .duplicate)
  once : t.notices[NoticeKind.joinState.index].count = min 255 (s.notices[NoticeKind.joinState.index].count + 1)

/-- A frame that carries this station's number, and that it did not send, is applied as any other; a LISTENING station then
enters CONFLICT. -/
theorem State.take_duplicate {s : State} {rx : Reception} {t : TakenFrame} {apply : State → State}
    {report : Bool → State → State} {ps : List Part} (receives : s.receiving = true) (waiting : allWaiting s.line.queue)
    (good : t.screen = none) (own : t.station = s.station) (applied : t.applied = true)
    (listens : s.member.state = .listening)
    (changes : Changes ps (s.echoed rx) (report false ((apply (s.echoed rx)).reportBins s.bins)))
    (member : .member ∉ ps := by simp [NoticeDetail.kind]) (cfg : .cfg ∉ ps := by simp [NoticeDetail.kind])
    (join : .notice .joinState ∉ ps := by simp [NoticeDetail.kind]) :
    Changes duplicateParts (report false ((apply (s.echoed rx)).reportBins s.bins)) (s.take rx t apply report)
      ∧ Duplicated s (s.take rx t apply report) t.kind t.subject := by
  rw [State.take_unsent apply report receives good waiting]
  generalize report false ((apply (s.echoed rx)).reportBins s.bins) = v at changes ⊢
  have member_ : v.member = s.member := changes .member member
  have station : v.station = s.station := congrArg Configuration.stationNumber (changes.config cfg)
  have join_ : v.notices[NoticeKind.joinState.index] = s.notices[NoticeKind.joinState.index] := changes _ join
  obtain ⟨conflict, queue, duplicate, joined, once⟩ :=
    State.testDuplicate_facts (t := t) (by rw [member_]; exact listens) (own.trans station.symm) applied
  exact ⟨v.testDuplicate_changes t false, conflict, queue, duplicate, joined, once.trans (by rw [join_])⟩

end Machine
end Sys2Proof
end

section
/-! PROOF. O33, the statement: JOIN and the frames with this station's number that it did not send (05 R88, R92, R95 to
R98). -/
set_option Elab.async false
namespace Sys2Proof
namespace Machine

theorem State.reportClaim_false (s : State) (x : Cleat) : s.reportClaim x false = s := by
  unfold State.reportClaim
  split <;> rfl

theorem applied_of_gated {b : BinNo} (gated : b ≠ 0) {sender : Nibble} {k : FrameKind} {f : Option ScreenField} :
    TakenFrame.applied { kind := k, sender := sender, subject := .bin b, screen := f } = true := by
  simp [TakenFrame.applied, gated]

/-- CONFIG CONFLICT of a frame with this station's number (log 22). -/
theorem State.configConflict_told {s : State} (listens : s.member.state = .listening) (k : FrameKind) (digest : Word16) :
    (s.configConflict k s.station digest).noticeOf .configConflict =
      some (.configConflict k s.station digest s.ownDigest .listening) := by
  refine (State.raise_noticeOf (k := .configConflict) _ _ rfl).trans ?_
  rw [listens]

section Duplicates
variable {s : State} {rx : Reception} (receives : s.receiving = true) (least : 1 ≤ s.station) (most : s.station ≤ 12)
  (waiting : allWaiting s.line.queue) (listens : s.member.state = .listening)

include receives waiting listens in
/-- The state after such a frame: that of its application, and the duplicate test. -/
theorem duplicate_of {i : Instr} {t : TakenFrame} {apply : State → State} {report : Bool → State → State} {ps : List Part}
    (runs : exec i s = .next (s.take rx t apply report)) (own : t.station = s.station) (good : t.screen = none)
    (applied : t.applied = true)
    (changes : Changes ps (s.echoed rx) (report false ((apply (s.echoed rx)).reportBins s.bins)))
    (member : .member ∉ ps := by simp [NoticeDetail.kind]) (cfg : .cfg ∉ ps := by simp [NoticeDetail.kind])
    (join : .notice .joinState ∉ ps := by simp [NoticeDetail.kind]) :
    ∃ u, exec i s = .next u ∧ Duplicated s u t.kind t.subject
      ∧ Changes duplicateParts (report false ((apply (s.echoed rx)).reportBins s.bins)) u := by
  obtain ⟨later, duplicated⟩ := State.take_duplicate receives waiting good own applied listens changes member cfg join
  exact ⟨_, runs, duplicated, later⟩

include least most in
theorem stationFrames_inRange : senderInRange (BitVec.ofNat 4 s.station) = true := senderInRange_station least most

include receives least most waiting listens

theorem releaseTaken_duplicate (x : Cleat) : ∃ t, exec (.releaseTaken rx (BitVec.ofNat 4 s.station) x) s = .next t
    ∧ Duplicated s t .release (.cleat x)
    ∧ t.entryAt x = if (s.entryAt x).claimedBy s.station then .free else s.entryAt x := by
  have number := toNat_ofNat_station most
  have inRange := stationFrames_inRange least most
  obtain ⟨t, runs, duplicated, later⟩ := duplicate_of receives waiting listens
    (exec_releaseTaken rx (BitVec.ofNat 4 s.station) x s) number (screenFields_plain inRange) rfl
    (((s.echoed rx).applyRelease_changes _ x).andThen (State.reportBins_changes _ _)
      (rs := [.map, .claims, .givenUp, .notice .binChange, .bins]))
  refine ⟨t, runs, duplicated, (later.entryAt x).trans (((State.reportBins_changes _ _).entryAt x).trans ?_)⟩
  rw [State.applyRelease_entryAt, number]
  simp only [true_and]
  rfl

theorem strayTaken_duplicate (x : Cleat) : ∃ t, exec (.strayTaken rx (BitVec.ofNat 4 s.station) x) s = .next t
    ∧ Duplicated s t .stray (.cleat x) ∧ (s.entryAt x = .free → t.entryAt x = .foreign) := by
  have number := toNat_ofNat_station most
  have inRange := stationFrames_inRange least most
  obtain ⟨t, runs, duplicated, later⟩ := duplicate_of receives waiting listens
    (exec_strayTaken rx (BitVec.ofNat 4 s.station) x s) number (screenFields_plain inRange) rfl
    (((s.echoed rx).applyStray_changes x).andThen (State.reportBins_changes _ _)
      (rs := [.map, .claims, .givenUp, .hold, .notice .binChange, .bins]))
  refine ⟨t, runs, duplicated, fun free => (later.entryAt x).trans (((State.reportBins_changes _ _).entryAt x).trans ?_)⟩
  have at_ : (s.echoed rx).entryAt x = .free := free
  rw [State.applyStray_entryAt, at_]
  simp [Entry.strays]

theorem claimTaken_duplicate (x : Cleat) (b : BinNo) (u : Word16) :
    ∃ t, exec (.claimTaken rx (BitVec.ofNat 4 s.station) x (BitVec.ofNat 4 b.val) u) s = .next t
      ∧ Duplicated s t .claim (.cleat x) ∧ (s.entryAt x = .free → b = 0 → t.entryAt x = .claimed s.station b) := by
  have number := toNat_ofNat_station most
  have inRange := stationFrames_inRange least most
  obtain ⟨t, runs, duplicated, later⟩ := duplicate_of receives waiting listens
    (exec_claimTaken rx (BitVec.ofNat 4 s.station) x b u s) number (screenFields_inBin inRange b) rfl (by
      rw [State.reportClaim_false]
      exact ((s.echoed rx).applyClaim_changes _ x b u).andThen (State.reportBins_changes _ _) (rs := claimParts))
  refine ⟨t, runs, duplicated, fun free zero => (later.entryAt x).trans ?_⟩
  have passes := (State.adopt_binPasses (s := s) (l := s.lineAfter rx) (b := b) (u := u) s.station).mpr (.inl zero)
  rw [State.reportClaim_false, (State.reportBins_changes _ _).entryAt x, State.applyClaim_entryAt, number]
  exact if_pos ⟨rfl, free, passes⟩

theorem loadTaken_duplicate (x : Cleat) (b : BinNo) (m : Material) (u : Word16) :
    ∃ t, exec (.loadTaken rx (BitVec.ofNat 4 s.station) x (BitVec.ofNat 4 b.val) (BitVec.ofNat 4 m.code) u) s = .next t
      ∧ Duplicated s t .load (.cleat x) ∧ (s.entryAt x = .free → t.entryAt x = .loaded s.station b m) := by
  have number := toNat_ofNat_station most
  have inRange := stationFrames_inRange least most
  obtain ⟨t, runs, duplicated, later⟩ := duplicate_of receives waiting listens
    (exec_loadTaken rx (BitVec.ofNat 4 s.station) x b m u s) number (screenFields_inMaterial inRange b m) rfl
    (((s.echoed rx).applyLoad_changes _ x b m u).andThen (State.reportBins_changes _ _)
      (rs := .notice .binChange :: loadParts))
  refine ⟨t, runs, duplicated, fun free => (later.entryAt x).trans (((State.reportBins_changes _ _).entryAt x).trans ?_)⟩
  have at_ : (s.echoed rx).entryAt x = .free := free
  rw [State.applyLoad_eq, (State.misrouteLoad_changes _ x b).entryAt x, State.loadWritten_entryAt, at_, number]
  simp [Entry.loads]

omit least most in
/-- A frame about a bin that this station did not send. -/
theorem binFrame_duplicate {i : Instr} {t : TakenFrame} {apply : State → State} {b : BinNo} {ps : List Part}
    (runs : exec i s = .next (s.take rx t apply noReport)) (own : t.station = s.station) (good : t.screen = none)
    (applied : t.applied = true) (changes : ∀ s, Changes ps s (apply s))
    (within : ∀ p ∈ ps, p ∈ binFrameParts := by simp [NoticeDetail.kind]) :
    ∃ u, exec i s = .next u ∧ Duplicated s u t.kind t.subject
      ∧ u.bins[b].used = (apply (s.echoed rx)).bins[b].used ∧ u.bins[b].state = (apply (s.echoed rx)).bins[b].state := by
  obtain ⟨u, runs, duplicated, later⟩ := duplicate_of receives waiting listens runs own good applied
    (((changes (s.echoed rx)).within within).andThen (State.reportBins_changes _ _)
      (rs := .notice .binChange :: binFrameParts))
  have reports := (apply (s.echoed rx)).reportBins_changes s.bins
  exact ⟨u, runs, duplicated, (later.used (b := b)).trans (reports.used (b := b)),
    (later.binState (b := b)).trans (reports.binState (b := b))⟩

theorem misrouteTaken_duplicate (x : Cleat) (b : BinNo) (u : Word16) :
    ∃ t, exec (.misrouteTaken rx (BitVec.ofNat 4 s.station) x (BitVec.ofNat 4 b.val) u) s = .next t
      ∧ Duplicated s t .misroute (.cleat x) ∧ (b ≠ 0 → t.bins[b].used = adoptedUsed s.bins[b].used u) := by
  obtain ⟨t, runs, duplicated, used, _⟩ := binFrame_duplicate receives waiting listens (b := b)
    (exec_misrouteTaken rx (BitVec.ofNat 4 s.station) x b u s) (toNat_ofNat_station most)
    (screenFields_inBin (stationFrames_inRange least most) b) rfl (fun s => s.adopt_changes _ _ b u)
  exact ⟨t, runs, duplicated, fun gated => used.trans (State.adopt_used_self (s.echoed rx) _ _ gated u)⟩

section Bin
variable {b : BinNo} (gated : b ≠ 0)
include gated

theorem binSetTaken_duplicate (u : Word16) :
    ∃ t, exec (.binSetTaken rx (BitVec.ofNat 4 s.station) (BitVec.ofNat 4 b.val) u) s = .next t
      ∧ Duplicated s t .binSet (.bin b) ∧ t.bins[b].used = adoptedUsed s.bins[b].used u ∧ t.bins[b].state = .opened := by
  obtain ⟨t, runs, duplicated, used, state⟩ := binFrame_duplicate receives waiting listens (b := b)
    (exec_binSetTaken rx (BitVec.ofNat 4 s.station) b u s) (toNat_ofNat_station most)
    (screenFields_inBin (stationFrames_inRange least most) b) (applied_of_gated gated)
    (fun s => s.applyBinSet_changes _ b u)
  have record : ((s.echoed rx).applyBinSet (BitVec.ofNat 4 s.station).toNat b u).bins[b] =
      { s.bins[b] with used := adoptedUsed s.bins[b].used u, state := .opened } := by
    rw [State.applyBinSet, State.setBinState_bins, if_pos ⟨rfl, gated⟩, State.adopt_bins, if_pos ⟨rfl, gated⟩]
    rfl
  rw [record] at used state
  exact ⟨t, runs, duplicated, used, state⟩

omit least in
theorem binStateTaken_duplicate {i : Instr} {k : FrameKind} {f : Option ScreenField} (state : BinState)
    (runs : exec i s = .next (s.take rx
      { kind := k, sender := BitVec.ofNat 4 s.station, subject := .bin b, screen := f }
      (fun s => s.setBinState b state) noReport)) (good : f = none) :
    ∃ t, exec i s = .next t ∧ Duplicated s t k (.bin b) ∧ t.bins[b].state = state := by
  obtain ⟨t, runs, duplicated, _, state_⟩ := binFrame_duplicate receives waiting listens (b := b) runs
    (toNat_ofNat_station most) good (applied_of_gated gated)
    (fun s => s.setBinState_changes b state)
  rw [State.setBinState_bins, if_pos ⟨rfl, gated⟩] at state_
  exact ⟨t, runs, duplicated, state_⟩

end Bin

theorem countsTaken_duplicate (digest : Word16) (used : Vector Word16 8) :
    ∃ t, exec (.countsTaken rx (BitVec.ofNat 4 s.station) digest used) s = .next t
      ∧ Duplicated s t .counts .none
      ∧ (s.ownDigest ≠ some digest →
        t.noticeOf .configConflict = some (.configConflict .counts s.station digest s.ownDigest .listening))
      ∧ (s.ownDigest = some digest → ∀ i : Fin 8, t.bins[i.succ].used =
          if used[i] = 0xFFFF#16 then s.bins[i.succ].used else some used[i].toNat) := by
  have number := toNat_ofNat_station most
  have good : (countsFrame (BitVec.ofNat 4 s.station)).screen = none :=
    screenFields_plain (stationFrames_inRange least most)
  have runs := exec_countsTaken rx (BitVec.ofNat 4 s.station) digest used s
  by_cases digests : s.ownDigest = some digest
  · have early := State.countsApplied_same_changes (l := s.lineAfter rx) (n := (BitVec.ofNat 4 s.station).toNat)
      (used := used) digests
    have reports := (State.reportCounts_changes digest false
      (s.countsApplied (s.lineAfter rx) (BitVec.ofNat 4 s.station).toNat digest used))
    obtain ⟨t, runs, duplicated, later⟩ := duplicate_of receives waiting listens runs number good rfl
      (early.andThen reports (rs := .queue :: .notice .lineFault :: .notice .binChange :: adoptParts))
    have facts := State.countsApplied_adopts (l := s.lineAfter rx) (n := (BitVec.ofNat 4 s.station).toNat) (used := used)
      digests (reports.andThen later (rs := .notice .lineFault :: duplicateParts))
    exact ⟨t, runs, duplicated, fun differs => absurd digests differs, fun _ => facts.1⟩
  · have told := State.configConflict_told (s := s.echoed rx) listens .counts digest
    have conflicts : s.countsApplied (s.lineAfter rx) (BitVec.ofNat 4 s.station).toNat digest used =
        ((s.echoed rx).configConflict .counts s.station digest).reportBins s.bins := by
      rw [State.countsApplied_of_other digests, number]
      refine congrArg (State.reportBins s.bins) (if_neg ?_)
      have same : ((s.withLine (s.lineAfter rx)).configConflict .counts s.station digest).station = s.station := rfl
      rw [same, bne_self_eq_false, Bool.and_false]
      nofun
    have raised := (s.echoed rx).raise_changes (.configConflict .counts s.station digest s.ownDigest s.member.state)
      (k := .configConflict)
    have reports := State.reportBins_changes s.bins ((s.echoed rx).configConflict .counts s.station digest)
    have early : Changes [.notice .configConflict, .notice .binChange, .bins] (s.echoed rx)
        (State.reportCounts digest false (s.countsApplied (s.lineAfter rx) (BitVec.ofNat 4 s.station).toNat digest used)) := by
      rw [State.reportCounts_other digests, conflicts]
      exact raised.andThen reports
    obtain ⟨t, runs, duplicated, later⟩ := duplicate_of receives waiting listens runs number good rfl early
    refine ⟨t, runs, duplicated, fun _ => ?_, fun same => absurd same digests⟩
    refine (congrArg NoticeRecord.detail (later.keeps (.notice .configConflict))).trans ?_
    refine Eq.trans ?_ told
    have equal := (State.reportCounts_other (l := s.lineAfter rx) (n := (BitVec.ofNat 4 s.station).toNat) (used := used)
      digests).trans conflicts
    exact (congrArg (fun v : State => v.noticeOf .configConflict) equal).trans
      (congrArg NoticeRecord.detail (reports.keeps (.notice .configConflict)))

theorem joinTaken_duplicate (digest : Word16) :
    ∃ t, exec (.joinTaken rx (BitVec.ofNat 4 s.station) digest) s = .next t
      ∧ Duplicated s t .join .none
      ∧ (s.ownDigest ≠ some digest →
        t.noticeOf .configConflict = some (.configConflict .join s.station digest s.ownDigest .listening)) := by
  have number := toNat_ofNat_station most
  have good : (joinFrame (BitVec.ofNat 4 s.station)).screen = none :=
    screenFields_plain (stationFrames_inRange least most)
  have reports := (s.echoed rx).reportBins_changes s.bins
  have joins : State.reportJoin (BitVec.ofNat 4 s.station).toNat digest false ((s.echoed rx).reportBins s.bins) =
      if s.ownDigest = some digest then (s.echoed rx).reportBins s.bins
      else ((s.echoed rx).reportBins s.bins).configConflict .join s.station digest := by
    have member : ((s.echoed rx).reportBins s.bins).member = s.member := reports.keeps .member
    have unsynced : ((s.echoed rx).reportBins s.bins).synced = false := by
      simp only [State.synced, member]
      exact beq_eq_false_iff_ne.mpr fun synced => by rw [synced] at listens; contradiction
    have kept : ((s.echoed rx).reportBins s.bins).ownDigest = s.ownDigest := congrArg (fun c => c.2.2) (reports.keeps .cfg)
    simp only [State.reportJoin, State.foreignJoin, unsynced, Bool.false_and, Bool.false_eq_true, if_false, number,
      State.ownsDigest_iff, kept]
  have raised := ((s.echoed rx).reportBins s.bins).raise_changes (.configConflict .join s.station digest
    ((s.echoed rx).reportBins s.bins).ownDigest ((s.echoed rx).reportBins s.bins).member.state) (k := .configConflict)
  have early : Changes [.notice .configConflict, .notice .binChange, .bins] (s.echoed rx)
      (State.reportJoin (BitVec.ofNat 4 s.station).toNat digest false ((s.echoed rx).reportBins s.bins)) := by
    rw [joins]
    exact .ite (fun _ => reports.within) fun _ => reports.andThen raised
  obtain ⟨t, runs, duplicated, later⟩ := duplicate_of receives waiting listens
    (exec_joinTaken rx (BitVec.ofNat 4 s.station) digest s) number good rfl early
  refine ⟨t, runs, duplicated, fun differs => (congrArg NoticeRecord.detail (later.keeps (.notice .configConflict))).trans ?_⟩
  refine (congrArg (fun v : State => v.noticeOf .configConflict) (joins.trans (if_neg differs))).trans ?_
  have told := State.raise_noticeOf ((s.echoed rx).reportBins s.bins) (.configConflict .join s.station digest
    ((s.echoed rx).reportBins s.bins).ownDigest ((s.echoed rx).reportBins s.bins).member.state) (k := .configConflict) rfl
  refine told.trans ?_
  have member : ((s.echoed rx).reportBins s.bins).member = s.member := reports.keeps .member
  have kept : ((s.echoed rx).reportBins s.bins).ownDigest = s.ownDigest := congrArg (fun c => c.2.2) (reports.keeps .cfg)
  rw [member, kept, listens]

end Duplicates

/-- This station's own JOIN starts the revolution (05 R88). -/
theorem joinTaken_own {s : State} (rx : Reception) {pre post : List QueuedFrame} {g : QueuedFrame} {digest : Word16}
    (receives : s.receiving = true) (least : 1 ≤ s.station) (most : s.station ≤ 12) (queue : s.line.queue = pre ++ g :: post)
    (before : allWaiting pre) (after : allWaiting post) (won : g.phase = .won) (frame : g.frame = .join digest)
    (pending : s.member = .listening .joinPending) :
    ∃ t, exec (.joinTaken rx (BitVec.ofNat 4 s.station) digest) s = .next t
      ∧ t.member = .listening (.counting 0) ∧ t.line.queue = pre ++ post ∧ t.map = s.map := by
  have number := toNat_ofNat_station most
  obtain ⟨l, shape⟩ : ∃ l, l = { s.lineAfter rx with
      queue := pre ++ post, slot := .none
      aloneCount := if rx.echo then 0 else min 8 (s.line.aloneCount + 1) } := ⟨_, rfl⟩
  have lineQueue : l.queue = pre ++ post := by rw [shape]
  have taken : s.takesFrom rx (BitVec.ofNat 4 s.station) .join .none l :=
    ⟨receives, senderInRange_station least most, .inr ⟨number, pre, g, post, queue, before, after,
      by rw [won]; nofun, by rw [frame]; rfl, by rw [frame]; rfl, shape⟩⟩
  have runs := joinTaken_runs digest taken
  rw [decide_eq_true number] at runs
  have reports := (s.withLine l).reportBins_changes s.bins
  generalize (s.withLine l).reportBins s.bins = v at runs reports
  have member : v.member = .listening .joinPending := (reports.keeps .member).trans pending
  have counts : State.reportJoin (BitVec.ofNat 4 s.station).toNat digest true v =
      { v with member := .listening (.counting 0) } := if_pos member
  rw [counts] at runs
  exact ⟨_, runs, rfl, (reports.keeps .queue).trans lineQueue, reports.keeps .map⟩

/-- A SYNCED station that takes a JOIN with its own number stays SYNCED (05 R97). -/
theorem joinTaken_synced {s : State} (rx : Reception) (digest : Word16) (receives : s.receiving = true) (least : 1 ≤ s.station)
    (most : s.station ≤ 12) (waiting : allWaiting s.line.queue) (synced : s.member = .synced) :
    ∃ t, exec (.joinTaken rx (BitVec.ofNat 4 s.station) digest) s = .next t
      ∧ t.member = .synced ∧ t.noticeOf .duplicateId = some (.duplicateId .join .none .synced) := by
  have number := toNat_ofNat_station most
  have runs := exec_joinTaken rx (BitVec.ofNat 4 s.station) digest s
  rw [State.take_unsent (apply := fun s => s) _ receives (screenFields_plain (senderInRange_station least most)) waiting,
    number] at runs
  have reports := (s.echoed rx).reportBins_changes s.bins
  generalize (s.echoed rx).reportBins s.bins = v at runs reports
  have member : v.member = .synced := (reports.keeps .member).trans synced
  have station : v.station = s.station := congrArg Configuration.stationNumber reports.config
  have told : (v.raise (.duplicateId .join .none v.member.state)).noticeOf .duplicateId =
      some (.duplicateId .join .none .synced) := by
    rw [State.raise_noticeOf (k := .duplicateId) _ _ rfl, member]
    rfl
  have raised := v.raise_changes (.duplicateId .join .none v.member.state) (k := .duplicateId)
  have joins : State.reportJoin s.station digest false v =
      if (v.raise (.duplicateId .join .none v.member.state)).ownsDigest digest then
        (v.raise (.duplicateId .join .none v.member.state)).answerJoin digest
      else (v.raise (.duplicateId .join .none v.member.state)).configConflict .join s.station digest := by
    simp only [State.reportJoin, Bool.false_eq_true, if_false, State.foreignJoin, State.synced, member, station, beq_self_eq_true,
      Bool.and_self, if_true, State.raise_member]
  generalize v.raise (.duplicateId .join .none v.member.state) = w at told raised joins
  have answers : Changes [.queue, .notice .lineFault, .notice .configConflict] w (State.reportJoin s.station digest false v) := by
    rw [joins]
    exact .ite (fun _ => (w.answerJoin_changes digest).within) fun _ => (w.raise_changes _ (k := .configConflict)).within
  generalize State.reportJoin s.station digest false v = u at runs answers
  have member_ : u.member = .synced := (answers.keeps .member).trans ((raised.keeps .member).trans member)
  have untested : u.testDuplicate (joinFrame (BitVec.ofNat 4 s.station)) false = u := if_neg (by
    simp [State.listening, member_, Membership.state])
  rw [untested] at runs
  exact ⟨u, runs, member_, (congrArg NoticeRecord.detail (answers.keeps (.notice .duplicateId))).trans told⟩

/-- Settles O33. -/
theorem joinsAndDuplicates : Obligations.JoinsAndDuplicates := by
  intro s rx sender digest
  refine ⟨fun hears synced digests known room reported => ?_, fun hears synced digests unknown reported => ?_,
    fun hears differs reported => ?_, fun pre g post receives least most queue before after won frame pending =>
      joinTaken_own rx receives least most queue before after won frame pending,
    fun x b m cause u used receives least most waiting => ?_⟩
  · have runs := joinTaken_heard (rx := rx) digest hears reported
    rw [State.foreignJoin_of_same (s := s.echoed rx) hears.2.2 digests synced] at runs
    obtain ⟨queues, same⟩ := State.answerJoin_counts (s := s.echoed rx) known room digest
    exact ⟨_, runs, queues, same⟩
  · have runs := joinTaken_heard (rx := rx) digest hears reported
    rw [State.foreignJoin_of_same (s := s.echoed rx) hears.2.2 digests synced,
      State.answerJoin_holds (s := s.echoed rx) unknown] at runs
    obtain ⟨changes, holds, kept, old⟩ := (s.echoed rx).reassertHolds_facts
    generalize (s.echoed rx).reassertHolds = t at runs changes holds kept old
    exact ⟨t, runs, holds, kept, old, changes.queueAndNotices, changes.sameNoticesBut _⟩
  · have runs := joinTaken_heard (rx := rx) digest hears reported
    rw [State.foreignJoin_of_other (s := s.echoed rx) hears.2.2 differs] at runs
    exact runs
  · intro own bin adopted foreign frames
    refine ⟨fun listens => ?_, fun synced => joinTaken_synced rx digest receives least most waiting synced⟩
    simp only [frames, List.forall_mem_cons]
    have gated (nonzero : Subject.bin b ≠ .bin 0) : b ≠ 0 := fun zero => nonzero (congrArg Subject.bin zero)
    refine ⟨fun _ => ?_, fun _ => ?_, fun _ => ?_, fun _ => ?_, fun _ => ?_, fun nonzero => ?_, fun nonzero => ?_,
      fun nonzero => ?_, fun _ => ?_, fun _ => ?_, nofun⟩
    · obtain ⟨t, runs, d, freed⟩ := releaseTaken_duplicate (rx := rx) receives least most waiting listens x
      exact ⟨t, runs, d.member, d.queue, freed, d.duplicate, d.join, d.once⟩
    · obtain ⟨t, runs, d, strays⟩ := strayTaken_duplicate (rx := rx) receives least most waiting listens x
      exact ⟨t, runs, d.member, d.queue, strays, d.duplicate, d.join, d.once⟩
    · obtain ⟨t, runs, d, claims⟩ := claimTaken_duplicate (rx := rx) receives least most waiting listens x b u
      exact ⟨t, runs, d.member, d.queue, claims, d.duplicate, d.join, d.once⟩
    · obtain ⟨t, runs, d, loads⟩ := loadTaken_duplicate (rx := rx) receives least most waiting listens x b m u
      exact ⟨t, runs, d.member, d.queue, loads, d.duplicate, d.join, d.once⟩
    · obtain ⟨t, runs, d, counts⟩ := misrouteTaken_duplicate (rx := rx) receives least most waiting listens x b u
      exact ⟨t, runs, d.member, d.queue, counts, d.duplicate, d.join, d.once⟩
    · obtain ⟨t, runs, d, sets⟩ := binSetTaken_duplicate (rx := rx) receives least most waiting listens (gated nonzero) u
      exact ⟨t, runs, d.member, d.queue, fun _ => sets, d.duplicate, d.join, d.once⟩
    · obtain ⟨t, runs, d, holds⟩ := binStateTaken_duplicate (rx := rx) receives most waiting listens (gated nonzero)
        (.held cause) (exec_binHoldTaken rx own b cause s) (screenFields_inCause (senderInRange_station least most) b cause)
      exact ⟨t, runs, d.member, d.queue, fun _ => holds, d.duplicate, d.join, d.once⟩
    · obtain ⟨t, runs, d, opens⟩ := binStateTaken_duplicate (rx := rx) receives most waiting listens (gated nonzero)
        .opened (exec_binOpenTaken rx own b s) (screenFields_inBin (senderInRange_station least most) b)
      exact ⟨t, runs, d.member, d.queue, fun _ => opens, d.duplicate, d.join, d.once⟩
    · obtain ⟨t, runs, d, conflict, adopts⟩ := countsTaken_duplicate (rx := rx) receives least most waiting listens digest used
      exact ⟨t, runs, d.member, d.queue, ⟨conflict, adopts⟩, d.duplicate, d.join, d.once⟩
    · obtain ⟨t, runs, d, conflict⟩ := joinTaken_duplicate (rx := rx) receives least most waiting listens digest
      exact ⟨t, runs, d.member, d.queue, conflict, d.duplicate, d.join, d.once⟩

end Machine
end Sys2Proof
end

section
/-! PROOF. O11 fails: the landing of one container lets the READY head behind it fire, whose place in the hold queue lets the
WAITING HOLD record move; ENTRY found FAULTED jams that record (06 R104, R109), and so a second pending container is lost at
the same mark (10 R167). -/
set_option Elab.async false
namespace Sys2Proof
namespace Machine

/-- An article for the counterexample. -/
def lostArticle : Article where
  code := 7#48
  deposit := 25
  material := .pet
  bin := 1
  weightMin := 20
  weightMax := 60
  heightClass := 2
  flags := 0#8

/-- A container of that article in a stage of the path. -/
def lostContainer (tag : Tag) (stage : Stage) : Container :=
  { Container.entering tag with
    stage := stage, code := some lostArticle.code, article := some lostArticle, bin := some 1, value := some 25 }

/-- The container that lands at the next mark. -/
def lostLanding : Container := { lostContainer 9#8 .transferring with landing := 1, cleat := some 11#8 }

/-- The READY head, whose cleat comes to the commit point at the same mark. -/
def lostHead : Container :=
  { lostContainer 1#8 .ready with link := .held, cleat := some (11#8 + BitVec.ofNat 8 Configuration.default.commitLead) }

/-- An OPEN session with six pending containers: four in a full hold queue, one in WAITING HOLD behind it while ENTRY is
FAULTED, and one that lands. -/
def lostState : State :=
  { State.reset with
    host := { State.reset.host with configured := true, started := true }
    member := .synced
    belt := { current := some 10#8, pitchCount := 10, homeSeen := true }
    eyes := { State.reset.eyes with transfer := true }
    path := { State.reset.path with
      hold := [lostHead, lostContainer 2#8 .claiming, lostContainer 3#8 .claiming, lostContainer 4#8 .claiming]
      transfer := some lostLanding
      cleared := true
      entry := some (lostContainer 5#8 .waitingHold) }
    drives := { State.reset.drives with entry := { State.reset.drives.entry with state := .faulted, cause := some .stop } }
    session := { State.reset.session with state := .opened, pending := 6 } }

/-- The pending containers after a command. -/
def pendingAfter (i : Instr) (s : State) : Option Nat :=
  match exec i s with
  | .next t => some t.session.pending
  | .fault _ | .refused _ => none

/-- Refutes O11: the pending count falls by two. -/
theorem not_landedIsCredited : ¬ Obligations.LandedIsCredited := by
  intro h
  obtain ⟨t, _, runs, _, _, _, _, _, _, opened, _, _⟩ := h lostState false lostLanding 11#8 lostArticle rfl
    (fun _ => (by decide : 10 < 255)) rfl rfl rfl rfl rfl
  have one : t.session.pending = 5 := (opened rfl).2.1
  have two : pendingAfter (mark false true) lostState = some 4 := by decide +kernel
  rw [pendingAfter, runs] at two
  rw [Option.some.inj two] at one
  contradiction

end Machine
end Sys2Proof
end

section
/-! PROOF. O7, O8, O9 and O17: the belt, the clear point, the transfer under way and the listening revolution at a mark (01 R2
to R5, R11, R14, 05 R89). -/
set_option Elab.async false
namespace Sys2Proof
namespace Machine

-- A mark up to the clear point

/-- What the start of a mark writes. -/
@[simp] def markStartParts : List Part := .eyes :: .belt :: .dutyReports :: slipParts

theorem State.markStarted_changes (s : State) (home item : Bool) : Changes markStartParts s (s.markStarted home item) := by
  have eyes : Changes [.eyes] s (s.readBeltEyes item home) := .eyes s _
  exact eyes.andThen (State.markTaken_changes _ _)

theorem State.markStarted_belt (s : State) (home item : Bool) :
    (s.markStarted home item).belt = (s.belt.moved home).1 := by
  unfold State.markStarted State.markTaken
  split
  · exact (State.noteDuty_changes _).keeps .belt |>.trans ((State.pitchSlip_changes _ _ _).keeps .belt)
  · rfl

theorem State.markStarted_eyes (s : State) (home item : Bool) :
    (s.markStarted home item).eyes = { s.eyes with landing := item, home := home } :=
  ((s.readBeltEyes item home).markTaken_changes (s.belt.moved home)).keeps .eyes

/-- What a mark writes from its clear point on. -/
@[simp] def markRestParts : List Part := clearParts ++ lateParts

section Mark
variable {s : State} {home : Bool}

theorem State.markRest_changes (s : State) (before : ClaimLink) (home item : Bool) :
    Changes markRestParts s (((s.clearWork.workAfter item).claimWork before).markEnded home) :=
  s.clearWork_changes.andThen (State.markLate_changes _ before home item)

/-- Without a slip nothing but the belt, the eyes and the mark of sort duty is written before the clear point. -/
theorem State.markStarted_plain (noSlip : s.belt.noSlip home) (item : Bool) :
    Changes [.eyes, .belt, .dutyReports] s (s.markStarted home item) := by
  rw [State.markStarted_of_noSlip noSlip]
  have eyes : Changes [.eyes] s (s.readBeltEyes item home) := .eyes s _
  exact (eyes.andThen (Changes.belt _ (s.belt.moved home).1) (rs := [.eyes, .belt, .dutyReports])).andThen
    (State.noteDuty_changes _)

theorem State.markStarted_dutyReports (noSlip : s.belt.noSlip home) (item : Bool) :
    (s.markStarted home item).dutyReports = s.synced := by
  rw [State.markStarted_of_noSlip noSlip]
  rfl

end Mark

-- The landing eye and the head leave a transfer under way alone (01 R14, 06 R112)

theorem State.canFire_of_transfer {s : State} (full : s.path.transfer.isSome = true) : s.canFire = false := by
  obtain ⟨r, some_⟩ := Option.isSome_iff_exists.mp full
  simp [State.canFire, some_]

/-- What a head that does not fire writes. -/
@[simp] def unfiredParts : List Part :=
  [.queue, .hold, .notice .lineFault, .notice .overflowRoute, .givenUp, .claims]

theorem State.headWork_unfired {s : State} (stays : s.canFire = false) (c : Cleat) (before : ClaimLink) :
    Changes unfiredParts s (s.headWork c before) := by
  unfold State.headWork
  split
  next h _ =>
    refine .ite (fun _ => ?_) fun _ => .ite (fun _ => (s.claimingHead_changes _ _ _).within) fun _ => .refl _ s
    unfold State.readyHead
    split
    next x _ =>
      refine .ite (fun _ => ?_) fun _ => (s.mapHead_changes _).within
      rw [stays, if_neg (by nofun)]
      exact (s.miss_changes x).within
    · exact .refl _ s
  · exact .refl _ s

/-- The test to fire reads nothing that the withdrawal of a CLAIM writes. -/
theorem Changes.canFire {ps : List Part} {s t : State} (h : Changes ps s t)
    (eyes : .eyes ∉ ps := by simp [NoticeDetail.kind]) (cleared : .cleared ∉ ps := by simp [NoticeDetail.kind])
    (transfer : .transfer ∉ ps := by simp [NoticeDetail.kind]) (flap : .flapDrive ∉ ps := by simp [NoticeDetail.kind]) :
    t.canFire = s.canFire := by
  have eyes : t.eyes = s.eyes := h _ eyes
  have cleared : t.path.cleared = s.path.cleared := h _ cleared
  have transfer : t.path.transfer = s.path.transfer := h _ transfer
  have flap : t.channel .flap = s.channel .flap := congrArg Prod.fst (h _ flap)
  simp only [State.canFire, eyes, cleared, transfer, flap]

theorem State.claimWork_unfired {s : State} (stays : s.canFire = false) (before : ClaimLink) :
    Changes unfiredParts s (s.claimWork before) := by
  unfold State.claimWork
  split
  next c _ =>
    have withdrawn := s.withdrawClaims_changes c
    exact withdrawn.within.trans (State.headWork_unfired (withdrawn.canFire.trans stays) c before)
  · exact .refl _ s

/-- A transfer with two marks or more before it counts one of them (01 R14). -/
theorem State.landingWork_counts {s : State} {r : Container} (transfer : s.path.transfer = some r)
    (stage : r.stage = .transferring) (later : 2 ≤ r.landing) (item : Bool) : s.landingWork item =
      (s.mapPath fun p => { p with transfer := some { r with landing := r.landing - 1 } }).entryCheck item := by
  have last : ¬r.landing - 1 = 0 := by omega
  simp only [State.landingWork, transfer, stage, if_true, last, if_false]

theorem State.landingWork_checks {s : State} (still : ∀ r, s.path.transfer = some r → r.stage ≠ .transferring)
    (item : Bool) : s.landingWork item = s.entryCheck item := by
  unfold State.landingWork
  split
  next r transfer => exact if_neg (still r transfer)
  · rfl

/-- The transfer that the landing eye leaves, where no transfer ends (01 R14). -/
theorem State.landingWork_transfer {s : State} (noLanding : s.noLanding) (item : Bool) : (s.landingWork item).path.transfer =
    s.path.transfer.map fun r => if r.stage = .transferring then { r with landing := r.landing - 1 } else r := by
  cases transfer : s.path.transfer with
  | none =>
    rw [State.landingWork_checks (fun r some_ => by rw [transfer] at some_; contradiction)]
    exact ((s.entryCheck_changes item).keeps .transfer).trans transfer
  | some r =>
    by_cases stage : r.stage = .transferring
    · rw [State.landingWork_counts transfer stage (noLanding r transfer stage), Option.map_some, if_pos stage]
      exact (State.entryCheck_changes _ item).keeps .transfer
    · rw [State.landingWork_checks (fun q some_ => by rw [transfer] at some_; exact Option.some.inj some_ ▸ stage),
        Option.map_some, if_neg stage]
      exact ((s.entryCheck_changes item).keeps .transfer).trans transfer

/-- With a transfer under way the rest of the mark leaves it alone. -/
theorem State.markEnded_transfer {u : State} (full : u.path.transfer.isSome = true) (before : ClaimLink) (home : Bool) :
    ((u.gateWork.claimWork before).markEnded home).path.transfer = u.path.transfer := by
  have gates : u.gateWork.path.transfer = u.path.transfer := u.gateWork_changes.keeps .transfer
  have head := State.claimWork_unfired (State.canFire_of_transfer (gates ▸ full)) before
  exact ((State.markEnded_changes _ home).keeps .transfer).trans ((head.keeps .transfer).trans gates)

theorem Changes.noLanding {ps : List Part} {s t : State} (h : Changes ps s t) (noLanding : s.noLanding)
    (out : .transfer ∉ ps := by simp [NoticeDetail.kind]) : t.noLanding := by
  have same : t.path.transfer = s.path.transfer := h _ out
  intro r
  rw [same]
  exact noLanding r

-- The pitch slip of a mark

theorem State.slipWritten_notice (s : State) (cause : SlipCause) (count : Nat) :
    (s.slipWritten cause count).noticeOf .pitchSlip = some (.pitchSlip cause count s.member.state) := by
  unfold State.slipWritten
  dsimp only
  refine (congrArg NoticeRecord.detail (((State.loseTrust_changes _).andThen (State.mapHead_changes _ Container.slipped)
    (rs := [.transfer, .hold])).keeps (.notice .pitchSlip))).trans ?_
  exact State.raise_noticeOf _ _ rfl

theorem State.markStarted_slip {s : State} {home : Bool} {cause : SlipCause} (slip : (s.belt.moved home).2 = some cause)
    (item : Bool) : s.markStarted home item = ((({ s.readBeltEyes item home with belt := (s.belt.moved home).1 } :
      State).slipWritten cause s.belt.pitchCount).reportBins s.bins).noteDuty := by
  simp only [State.markStarted, State.markTaken, slip]
  rw [State.pitchSlip_eq]
  rfl

/-- The notice of a slip stands to the end of the mark (01 R6). -/
theorem State.mark_pitchSlip {s : State} {home : Bool} {cause : SlipCause} (slip : (s.belt.moved home).2 = some cause)
    (item : Bool) (before : ClaimLink) :
    ((((s.markStarted home item).clearWork.workAfter item).claimWork before).markEnded home).noticeOf .pitchSlip =
      some (.pitchSlip cause s.belt.pitchCount s.member.state) := by
  have rest := (s.markStarted home item).markRest_changes before home item
  refine (congrArg NoticeRecord.detail (rest.keeps (.notice .pitchSlip))).trans ?_
  change (s.markStarted home item).noticeOf .pitchSlip = _
  rw [State.markStarted_slip slip]
  have written := State.slipWritten_notice ({ s.readBeltEyes item home with belt := (s.belt.moved home).1 } : State) cause
    s.belt.pitchCount
  generalize ({ s.readBeltEyes item home with belt := (s.belt.moved home).1 } : State).slipWritten cause s.belt.pitchCount = u
    at written
  exact (congrArg NoticeRecord.detail (((State.reportBins_changes s.bins u).andThen (State.noteDuty_changes _)
    (rs := [.notice .binChange, .bins, .dutyReports])).keeps (.notice .pitchSlip))).trans written

theorem State.mark_noSlip_notice {s : State} {home : Bool} (noSlip : s.belt.noSlip home) (item : Bool) (before : ClaimLink) :
    ((((s.markStarted home item).clearWork.workAfter item).claimWork before).markEnded home).notices[
      NoticeKind.pitchSlip.index] = s.notices[NoticeKind.pitchSlip.index] :=
  ((State.markRest_changes _ before home item).keeps (.notice .pitchSlip)).trans
    ((State.markStarted_plain noSlip item).keeps (.notice .pitchSlip))

-- The clear point (01 R11)

theorem State.clearWork_entryAt {s : State} {c : Cleat} (current : s.belt.current = some c) (x : Cleat) :
    s.clearWork.entryAt x = if x = c - BitVec.ofNat 8 s.host.cfg.clearDistance then .free else s.entryAt x := by
  simp only [State.clearWork, current]
  exact ((State.reportBins_changes s.bins _).entryAt x).trans (s.changeEntry_entryAt _ x .free)

theorem State.clearWork_unknown {s : State} (unknown : s.belt.current = none) : s.clearWork = s := by
  simp only [State.clearWork, unknown]

end Machine
end Sys2Proof
end

section
/-! PROOF. O7, O8, O9 and O17, the statements. -/
set_option Elab.async false
namespace Sys2Proof
namespace Machine

-- What a slip does to the path (01 R7)

/-- A slip before the trust of the transfer and the head are taken back. -/
def State.slipTold (s : State) (cause : SlipCause) (count : Nat) : State :=
  let names := slipFrame s.synced
  (((({ s with map := freeMap } : State).pruneClaims.withdraw names).markNoRetry names).slipMember cause).raise
    (.pitchSlip cause count s.member.state)

/-- What a slip writes before that. -/
@[simp] def slipToldParts : List Part := [.map, .claims, .givenUp, .notice .pitchSlip] ++ slipMemberParts

theorem State.slipTold_changes (s : State) (cause : SlipCause) (count : Nat) :
    Changes slipToldParts s (s.slipTold cause count) := by
  have freed := ((Changes.map s freeMap).andThen (State.pruneClaims_changes _) (rs := slipToldParts)).andThen
    (State.withdraw_changes _ (slipFrame s.synced)) (rs := slipToldParts)
  exact ((freed.andThen (State.markNoRetry_changes _ (slipFrame s.synced)) (rs := slipToldParts)).andThen
    (State.slipMember_changes _ cause) (rs := slipToldParts)).andThen (State.raise_changes _ _ (k := .pitchSlip))

theorem State.slipWritten_eq (s : State) (cause : SlipCause) (count : Nat) :
    s.slipWritten cause count = (s.slipTold cause count).loseTrust.mapHead Container.slipped := rfl

theorem State.slipWritten_transfer (s : State) (cause : SlipCause) (count : Nat) :
    (s.slipWritten cause count).path.transfer = s.path.transfer.map fun r => { r with trust := false } := by
  have same : (s.slipTold cause count).path.transfer = s.path.transfer := (s.slipTold_changes cause count).keeps .transfer
  rw [State.slipWritten_eq]
  refine ((State.mapHead_changes _ _).keeps .transfer).trans ?_
  exact congrArg (Option.map fun r : Container => { r with trust := false }) same

/-- The transfer as a mark reaches the landing eye: a slip takes its trust alone. -/
theorem State.markStarted_transfer {s : State} {r : Container} (transfer : s.path.transfer = some r) (home item : Bool) :
    ∃ trust, (s.markStarted home item).path.transfer = some { r with trust := trust } := by
  cases slip : (s.belt.moved home).2 with
  | none =>
    refine ⟨r.trust, Eq.trans ?_ transfer⟩
    simp only [State.markStarted, State.markTaken, slip]
    rfl
  | some cause =>
    refine ⟨false, ?_⟩
    rw [State.markStarted_slip slip]
    have written := State.slipWritten_transfer ({ s.readBeltEyes item home with belt := (s.belt.moved home).1 } : State)
      cause s.belt.pitchCount
    generalize ({ s.readBeltEyes item home with belt := (s.belt.moved home).1 } : State).slipWritten cause
      s.belt.pitchCount = u at written
    refine (((State.reportBins_changes s.bins u).andThen (State.noteDuty_changes _)
      (rs := [.notice .binChange, .bins, .dutyReports])).keeps .transfer).trans (written.trans ?_)
    exact congrArg (Option.map fun r : Container => { r with trust := false }) transfer

/-- A transfer with two marks or more before it counts one of them, whatever the mark finds (01 R14). -/
theorem State.mark_transfer_counts {s : State} {r : Container} (transfer : s.path.transfer = some r)
    (stage : r.stage = .transferring) (later : 2 ≤ r.landing) (home item : Bool) (before : ClaimLink) :
    ∃ r', ((((s.markStarted home item).clearWork.workAfter item).claimWork before).markEnded home).path.transfer = some r'
      ∧ r'.tag = r.tag ∧ r'.stage = .transferring ∧ r'.landing = r.landing - 1 := by
  obtain ⟨trust, started⟩ := State.markStarted_transfer transfer home item
  have cleared : (s.markStarted home item).clearWork.path.transfer = some { r with trust := trust } :=
    ((State.clearWork_changes _).keeps .transfer).trans started
  have landed : ((s.markStarted home item).clearWork.landingWork item).path.transfer =
      some { r with trust := trust, landing := r.landing - 1 } := by
    rw [State.landingWork_transfer (fun q some_ _ => by
      rw [cleared] at some_
      exact Option.some.inj some_ ▸ later), cleared, Option.map_some, if_pos stage]
  exact ⟨_, (State.markEnded_transfer (by rw [landed]; rfl) before home).trans landed, rfl, stage, rfl⟩

theorem State.member_of_not_online {s : State} (off : s.member = .offline) : s.online = false := by
  simp [State.online, off]

theorem State.online_of_synced {s : State} (synced : s.member = .synced) : s.online = true := by
  simp [State.online, synced]

theorem Belt.steady.pitch_slip {b : Belt} (steady : b.steady) : (b.moved false).2 = none :=
  Belt.moved_slip_of_noSlip (b := b) (home := false) steady

/-- Settles O7. -/
theorem pitchMarkMovesBelt : Obligations.PitchMarkMovesBelt := by
  refine fun landing s => ⟨fun on => ?_, fun off => ?_⟩
  · have rest := (s.markStarted false landing).markRest_changes (s.markStarted false landing).headLink false landing
    have started := s.markStarted_changes false landing
    have belt := (rest.keeps .belt).trans (s.markStarted_belt false landing)
    refine ⟨_, exec_mark on false landing, fun unseen => belt.trans ?_, fun seen early => belt.trans ?_, fun seen last => ⟨?_, ?_⟩,
      fun steady => State.mark_noSlip_notice (home := false) steady landing _, fun r transfer stage later =>
      State.mark_transfer_counts transfer stage later false landing _, (rest.keeps .eyes).trans (s.markStarted_eyes ..),
      (rest.keeps .pending).trans (started.keeps .pending)⟩
    · simp [Belt.moved, Belt.pitch, unseen]
    · simp [Belt.moved, Belt.pitch, seen, early]
    · exact belt.trans (by simp [Belt.moved, Belt.pitch, seen, last, Belt.initial])
    · exact State.mark_pitchSlip (by simp [Belt.moved, Belt.pitch, seen, last]) landing _
  · have out : s.online = false := State.member_of_not_online off
    have pitch : (s.readBeltEyes landing false).online = false := out
    have home : (s.readBeltEyes landing true).online = false := out
    exact ⟨congrArg _ (if_neg (by rw [pitch]; nofun)), congrArg _ (if_neg (by rw [home]; nofun))⟩

/-- Settles O8. -/
theorem homeMarkSetsBelt : Obligations.HomeMarkSetsBelt := by
  intro landing s on
  have rest := (s.markStarted true landing).markRest_changes (s.markStarted true landing).headLink true landing
  have started := s.markStarted_changes true landing
  have late := (s.markStarted true landing).clearWork.markLate_changes (s.markStarted true landing).headLink true landing
  have current : (s.markStarted true landing).belt.current = some 0 := by
    rw [s.markStarted_belt true landing]
    rfl
  refine ⟨_, exec_mark on true landing, (rest.keeps .belt).trans (s.markStarted_belt true landing), fun seen early => ?_,
    fun steady => ?_, ?_, (rest.keeps .eyes).trans (s.markStarted_eyes ..), (rest.keeps .pending).trans (started.keeps .pending)⟩
  · exact State.mark_pitchSlip (by simp [Belt.moved, Belt.home, seen, early]) landing _
  · refine State.mark_noSlip_notice (home := true) ?_ landing _
    simp only [Belt.noSlip, if_true]
    rintro ⟨seen, early⟩
    rcases steady with unseen | late
    · rw [unseen] at seen
      contradiction
    · exact late early
  · have cfg : (s.markStarted true landing).host.cfg = s.host.cfg := started.config
    rw [late.entryAt, State.clearWork_entryAt current, cfg]
    exact if_pos rfl

/-- Settles O9. -/
theorem pitchMarkClearsOneEntry : Obligations.PitchMarkClearsOneEntry := by
  intro landing s on
  have late := (s.markStarted false landing).clearWork.markLate_changes (s.markStarted false landing).headLink false landing
  refine ⟨_, exec_mark on false landing, fun c seen early current x => ?_, fun unseen unknown x => ?_⟩
  · have plain := State.markStarted_plain (s := s) (home := false) (fun _ => early) landing
    have moved : (s.markStarted false landing).belt.current = some (c + 1) := by
      rw [s.markStarted_belt false landing]
      simp [Belt.moved, Belt.pitch, seen, early, current]
    have cfg : (s.markStarted false landing).host.cfg = s.host.cfg := plain.config
    rw [late.entryAt x, State.clearWork_entryAt moved, cfg, plain.entryAt x]
  · have plain := State.markStarted_plain (s := s) (home := false)
      (fun seen => by rw [unseen] at seen; contradiction) landing
    have still : (s.markStarted false landing).belt.current = none := by
      rw [s.markStarted_belt false landing]
      simp [Belt.moved, Belt.pitch, unseen, unknown]
    rw [late.entryAt x, State.clearWork_unknown still, plain.entryAt x]

-- The listening revolution (05 R89)

section Revolution
variable {s : State}

theorem State.revolved_counting {n : Nat} (counting : s.member = .listening (.counting n)) (home : Bool) :
    s.revolved home = if n < 255 then { s with member := .listening (.counting (n + 1)) }
      else s.changeMember .synced .listenComplete := by
  have joined : (if home then s.joinAtHome else s) = s := by
    split
    · exact if_neg (by rw [counting]; simp)
    · rfl
  rw [State.revolved, joined]
  simp only [State.countListening, counting]

theorem State.revolved_synced (synced : s.member = .synced) (home : Bool) : s.revolved home = s := by
  have joined : (if home then s.joinAtHome else s) = s := by
    split
    · exact if_neg (by rw [synced]; simp)
    · rfl
  rw [State.revolved, joined]
  simp only [State.countListening, synced]

end Revolution

/-- What follows the revolution. -/
theorem State.markEnded_after (s : State) (home : Bool) :
    Changes (.doze :: startParts) (s.revolved home) (s.markEnded home) :=
  (State.tryStart_changes _).andThen (State.testDoze_changes _)

/-- Settles O17. -/
theorem listeningRevolution : Obligations.ListeningRevolution := by
  intro home item s noSlip
  have plain := State.markStarted_plain noSlip item
  have duty := State.markStarted_dutyReports noSlip item
  have work := ((State.clearWork_changes (s.markStarted home item)).andThen (State.workAfter_changes _ item)
    (rs := clearParts ++ eyeParts ++ headParts)).andThen (State.claimWork_changes _ (s.markStarted home item).headLink)
    (rs := clearParts ++ eyeParts ++ headParts)
  have runs (on : s.online = true) := exec_mark on home item
  generalize ((s.markStarted home item).clearWork.workAfter item).claimWork (s.markStarted home item).headLink = v
    at work runs
  have member : v.member = s.member := (work.keeps .member).trans (plain.keeps .member)
  have join : v.notices[NoticeKind.joinState.index] = s.notices[NoticeKind.joinState.index] :=
    (work.keeps (.notice .joinState)).trans (plain.keeps (.notice .joinState))
  have ended := v.markEnded_after home
  have reports : (v.markEnded home).dutyReports = s.synced :=
    ((v.markEnded_changes home).keeps .dutyReports).trans ((work.keeps .dutyReports).trans duty)
  refine ⟨fun n counting => ?_, fun synced => ?_⟩
  · rw [State.revolved_counting (member.trans counting)] at ended
    refine ⟨_, runs (by simp [State.online, counting]), reports.trans (by simp [State.synced, counting]), fun early => ?_,
      fun last => ?_⟩
    · rw [if_pos early] at ended
      exact ⟨ended.keeps .member, (ended.keeps (.notice .joinState)).trans join⟩
    · rw [if_neg (by omega)] at ended
      refine ⟨ended.keeps .member, (congrArg NoticeRecord.detail (ended.keeps (.notice .joinState))).trans ?_⟩
      refine (State.raise_noticeOf (k := .joinState) _ _ rfl).trans ?_
      rw [member, counting]
      rfl
  · rw [State.revolved_synced (member.trans synced)] at ended
    exact ⟨_, runs (State.online_of_synced synced), (ended.keeps .member).trans (member.trans synced),
      reports.trans (by simp [State.synced, synced])⟩

end Machine
end Sys2Proof
end

section
/-! PROOF. O10, the pitch slip (01 R6, R7, 05 R93, R99): what it leaves, and that the later work of the mark leaves that
alone. -/
set_option Elab.async false
namespace Sys2Proof
namespace Machine

-- The landing eye (01 R14, R15)

/-- A transfer with one more of its marks counted. -/
def Container.counted (r : Container) : Container := { r with landing := r.landing - 1 }

/-- The transfer slot holds a record. -/
def State.setTransfer (s : State) (r : Container) : State := s.mapPath fun p => { p with transfer := some r }

section Landing
variable {s : State} {r : Container} (transfer : s.path.transfer = some r) (stage : r.stage = .transferring)
include transfer stage

/-- The last mark of a transfer gives the verdict. -/
theorem State.landingWork_ends (last : r.counted.landing = 0) (item : Bool) : s.landingWork item =
    if item then (s.setTransfer r.counted).landed r.counted else (s.setTransfer r.counted).notLanded r.counted := by
  simp only [State.landingWork, transfer]
  rw [if_pos stage]
  exact if_pos last

theorem State.landingWork_counted (later : r.counted.landing ≠ 0) (item : Bool) :
    s.landingWork item = (s.setTransfer r.counted).entryCheck item := by
  simp only [State.landingWork, transfer]
  rw [if_pos stage]
  exact if_neg later

end Landing

/-- What the landing eye writes of a transfer without trust. -/
@[simp] def untrustedParts : List Part := [.transfer, .notice .containerDone, .notice .jam] ++ closeParts

/-- A container without trust lands without a LOAD (01 R7, 06 R113). -/
theorem State.landed_untrusted {r : Container} (trust : r.trust = false) (s : State) :
    Changes untrustedParts s (s.landed r) ∧ (s.landed r).path.transfer = none := by
  have quiet (u : State) : u.queueLoad r = u := by
    simp only [State.queueLoad, Container.load?, trust]
    cases r.cleat <;> cases r.article <;> rfl
  unfold State.landed
  dsimp only
  rw [quiet]
  exact ⟨((s.credit_changes _ _).andThen (Changes.transfer _ none) (rs := untrustedParts)).andThen
    (State.raise_changes _ _ (k := .containerDone)), rfl⟩

/-- The record that has not landed is STUCK in its place. -/
def Container.notLanded (r : Container) : Container := { r with stage := .stuck }

/-- A container without trust that has not landed is STUCK without a RELEASE (01 R7, R15). -/
theorem State.notLanded_untrusted {r : Container} (trust : r.trust = false) (s : State) :
    Changes untrustedParts s (s.notLanded r) ∧ (s.notLanded r).path.transfer = some r.notLanded := by
  have plain : s.notLanded r = (s.setTransfer r.notLanded).losePending.raise
      (.jam r.tag .transferSlot .notLanded r.stage none) := by
    unfold State.notLanded
    dsimp only
    split
    · rw [if_neg (by rw [trust]; nofun)]
      rfl
    · rfl
  have stuck := Changes.transfer s (some r.notLanded)
  have later := (State.losePending_changes (s.setTransfer r.notLanded)).andThen
    (State.raise_changes _ (.jam r.tag .transferSlot .notLanded r.stage none) (k := .jam)) (rs := .notice .jam :: closeParts)
  rw [plain]
  exact ⟨stuck.andThen later, later.keeps .transfer⟩

-- The steps of a mark at a station that is not SYNCED

section Unsynced
variable {s : State} (out : s.synced = false)
include out

theorem State.entryCheck_of_unsynced (item : Bool) : s.entryCheck item = s := by
  unfold State.entryCheck
  split
  · exact if_neg (by rw [out]; nofun)
  · rfl

theorem State.landingWork_untrusted (untrusted : ∀ r, s.path.transfer = some r → r.trust = false) (item : Bool) :
    Changes untrustedParts s (s.landingWork item)
      ∧ ∀ r, (s.landingWork item).path.transfer = some r → r.trust = false := by
  have checked : Changes untrustedParts s (s.entryCheck item)
      ∧ ∀ r, (s.entryCheck item).path.transfer = some r → r.trust = false := by
    rw [State.entryCheck_of_unsynced out]
    exact ⟨.refl _ s, untrusted⟩
  cases transfer : s.path.transfer with
  | none => rwa [State.landingWork_checks (fun r some_ => by rw [transfer] at some_; contradiction)]
  | some r =>
    have counted := (Changes.transfer s (some r.counted)).within (qs := untrustedParts)
    have trust : r.counted.trust = false := untrusted r transfer
    by_cases stage : r.stage = .transferring
    · by_cases last : r.counted.landing = 0
      · rw [State.landingWork_ends transfer stage last]
        split
        · obtain ⟨lands, gone⟩ := State.landed_untrusted trust (s.setTransfer r.counted)
          exact ⟨counted.trans lands, fun q some_ => by rw [gone] at some_; contradiction⟩
        · obtain ⟨sticks, stuck⟩ := State.notLanded_untrusted trust (s.setTransfer r.counted)
          exact ⟨counted.trans sticks, fun q some_ => by rw [stuck] at some_; exact Option.some.inj some_ ▸ trust⟩
      · rw [State.landingWork_counted transfer stage last,
          State.entryCheck_of_unsynced (s := s.setTransfer r.counted) out]
        exact ⟨counted, fun q some_ => Option.some.inj some_ ▸ trust⟩
    · rwa [State.landingWork_checks (fun q some_ => by rw [transfer] at some_; exact Option.some.inj some_ ▸ stage)]

theorem State.tryStart_of_unsynced : s.tryStart = s :=
  State.tryStart_of_not_mayStart (by simp [State.mayStart, out])

end Unsynced

/-- The gates of a station that queues no frames of sort duty write their drives and intervals alone. -/
theorem State.missGate_quiet {s : State} (quiet : s.reportsDuty = false) (g : Gate) : Changes [.gates] s (s.missGate g) := by
  unfold State.missGate
  split
  next i _ =>
    have marked := Changes.gates s (s.gates.set g.val (some { i with missed := true }) g.isLt)
    rw [State.reportMiss_of_not_reporting (s := { s with gates := s.gates.set g.val (some { i with missed := true }) g.isLt })
      quiet]
    exact marked
  · exact .refl _ s

theorem State.holdGate_quiet {s : State} (quiet : s.reportsDuty = false) (g : Gate) (x : Cleat) :
    Changes [.gateDrives, .gates] s (s.holdGate g x) := by
  have asked (v : Vector (Option GateInterval) 8) :=
    (s.mapChannel_changes (.gate g) fun r => if r.standing then r else r.request).andThen (Changes.gates _ v)
      (rs := [.gateDrives, .gates])
  refine .ite (fun _ => asked _) fun _ => (asked _).trans (State.missGate_quiet ?_ g).within
  exact ((asked _).reportsDuty).trans quiet

theorem State.checkGate_quiet {s : State} (quiet : s.reportsDuty = false) (c : Cleat) (g : Gate) :
    Changes [.gateDrives, .gates] s (s.checkGate c g) := by
  refine .ite (fun _ => State.holdGate_quiet quiet g _) fun _ => ?_
  exact (s.mapChannel_changes (.gate g) _).andThen (Changes.gates _ _)

theorem State.gateWork_quiet {s : State} (quiet : s.reportsDuty = false) : Changes [.gateDrives, .gates] s s.gateWork := by
  have checks (c : Cleat) (l : List Gate) (u : State) (quiet : u.reportsDuty = false) :
      Changes [.gateDrives, .gates] u (l.foldl (State.checkGate c) u) := by
    induction l generalizing u with
    | nil => exact .refl _ u
    | cons g l ih =>
      have first := State.checkGate_quiet quiet c g
      exact first.trans (ih _ (first.reportsDuty.trans quiet))
  unfold State.gateWork
  refine .ite (fun _ => ?_) fun _ => .refl _ s
  split
  next c _ => exact checks c _ s quiet
  · exact .foldl _ (fun u g => (u.mapChannel_changes (.gate g) _).andThen (Changes.gates _ _)) _ s

/-- Without a waiting frame that names a cleat, and with a head that neither is READY nor has a CLAIM in the queue, an unsynced
station's head does nothing. -/
theorem State.claimWork_idle {s : State} (out : s.synced = false)
    (frames : ∀ g ∈ s.line.queue, g.phase = .waiting → g.frame.kind.namesCleat = false)
    (head : ∀ h, s.path.hold.head? = some h → h.stage ≠ .ready) (before : ClaimLink) : s.claimWork before = s := by
  have fresh (c : Cleat) : ∀ g ∈ s.line.queue, ¬(g.phase == .waiting && s.staleClaim c g.frame) = true := by
    intro g mem
    by_cases waiting : g.phase = .waiting
    · have unnamed := frames g mem waiting
      cases frame : g.frame <;> simp [State.staleClaim]
      rw [frame] at unnamed
      contradiction
    · simp [waiting]
  have withdrawn (c : Cleat) : s.withdrawClaims c = s := by
    have nothing : (s.line.queue.filter fun g => g.phase == .waiting && s.staleClaim c g.frame) = [] :=
      List.filter_eq_nil_iff.mpr (fresh c)
    have kept : (s.line.queue.filter fun g => !(g.phase == .waiting && s.staleClaim c g.frame)) = s.line.queue :=
      List.filter_eq_self.mpr fun g mem => by
        rw [Bool.not_eq_true']
        exact Bool.eq_false_iff.mpr (fresh c g mem)
    simp only [State.withdrawClaims, nothing, List.filterMap_nil, List.foldl_nil, State.withdraw, kept]
    rfl
  unfold State.claimWork
  split
  · rw [withdrawn]
    unfold State.headWork
    split
    next h some_ =>
      rw [if_neg (head h some_), if_neg (by rw [out]; nofun)]
    · rfl
  · rfl

end Machine
end Sys2Proof
end

section
/-! PROOF. O10, the statement: what a pitch slip leaves to the rest of its mark (01 R6, R7, 05 R93, R99). -/
set_option Elab.async false
namespace Sys2Proof
namespace Machine

-- The frames, the claims and the list of given-up cleats at a slip

/-- A slip before the membership changes: the map is FREE, and the frames it names are withdrawn. -/
def State.slipFreed (s : State) : State :=
  (({ s with map := freeMap } : State).pruneClaims.withdraw (slipFrame s.synced)).markNoRetry (slipFrame s.synced)

theorem State.slipTold_eq (s : State) (cause : SlipCause) (count : Nat) :
    s.slipTold cause count = (s.slipFreed.slipMember cause).raise (.pitchSlip cause count s.member.state) := rfl

theorem State.slipFreed_frames (s : State) :
    ∀ g ∈ s.slipFreed.line.queue, g.phase = .waiting → slipFrame s.synced g.frame = false := by
  intro g mem waiting
  obtain ⟨g', mem', rfl⟩ := List.mem_map.mp mem
  have kept := (List.mem_filter.mp mem').2
  split at waiting <;> split <;> simp_all

theorem State.slipFreed_length (s : State) : s.slipFreed.line.queue.length ≤ s.line.queue.length :=
  (List.length_map _).le.trans (List.length_filter_le _ _)

theorem State.ownClaim_of_free {s : State} {x : Cleat} (free : s.entryAt x = .free) : s.ownClaim x = false := by
  rw [State.ownClaim, free]
  rfl

theorem State.slipFreed_claims (s : State) : s.slipFreed.path.claims = [] ∧ s.slipFreed.path.givenUp = [] := by
  have free (x : Cleat) : ({ s with map := freeMap } : State).ownClaim x = false :=
    State.ownClaim_of_free (State.entryAt_of_freeMap rfl x)
  exact ⟨List.filter_eq_nil_iff.mpr fun p _ => by simp [free], List.filter_eq_nil_iff.mpr fun x _ => by simp [free]⟩

-- The membership (05 R99)

/-- The listen phase after a slip. -/
def SlipCause.phase : SlipCause → Membership
  | .earlyHome => .listening .joinPending
  | .missingHome => .listening .waitingHome

theorem State.queueFrame_join_frames (s : State) :
    ∀ g ∈ (s.queueFrame s.joinFrame).line.queue, g.frame.kind = .join ∨ g ∈ s.line.queue := by
  intro g mem
  rcases (s.queueFrame_gives s.joinFrame).old g mem with same | old
  · rw [same]
    exact .inl (s.fill_slot s.joinFrame).1
  · exact .inr old

theorem State.listenAfterSlip_facts (s : State) (cause : SlipCause) :
    (s.listenAfterSlip cause).member = cause.phase
    ∧ (∀ g ∈ (s.listenAfterSlip cause).line.queue, g.frame.kind = .join ∨ g ∈ s.line.queue)
    ∧ (cause = .earlyHome → s.line.queue.length < Config.queuePlaces →
        (s.listenAfterSlip cause).queues .join .none) := by
  cases cause with
  | missingHome => exact ⟨rfl, fun g mem => .inr mem, nofun⟩
  | earlyHome =>
    refine ⟨(State.queueFrame_changes _ _).keeps .member,
      State.queueFrame_join_frames { s with member := .listening .joinPending }, fun _ room => ?_⟩
    exact State.queueFrame_queues (s := { s with member := .listening .joinPending }) (f := s.joinFrame) room

/-- The membership after a slip: a station in CONFLICT stays there, and any other one listens afresh. -/
def Membership.slipped (m : Membership) (cause : SlipCause) : Membership :=
  if m = .conflict then .conflict else cause.phase

theorem State.slipMember_facts {s : State} (on : s.online = true) (cause : SlipCause) :
    (s.slipMember cause).member = s.member.slipped cause
    ∧ (∀ g ∈ (s.slipMember cause).line.queue, g.frame.kind = .join ∨ g ∈ s.line.queue)
    ∧ (cause = .earlyHome → s.member ≠ .conflict → s.line.queue.length < Config.queuePlaces →
        (s.slipMember cause).queues .join .none)
    ∧ (s.member = .synced →
        (s.slipMember cause).noticeOf .joinState = some (.joinState .listening .synced .pitchSlip))
    ∧ (s.member ≠ .synced → (s.slipMember cause).notices[NoticeKind.joinState.index] =
        s.notices[NoticeKind.joinState.index]) := by
  unfold State.slipMember Membership.slipped
  split
  next synced =>
    obtain ⟨member, frames, join⟩ := State.listenAfterSlip_facts (s.changeMember (.listening .waitingHome) .pitchSlip) cause
    refine ⟨by rw [member, synced]; rfl, frames, fun early _ room => join early room, fun _ => ?_, fun out => absurd synced out⟩
    refine (congrArg NoticeRecord.detail ((State.listenAfterSlip_changes _ cause).keeps (.notice .joinState))).trans ?_
    refine (State.raise_noticeOf (k := .joinState) _ _ rfl).trans ?_
    rw [synced]
    rfl
  next phase listening =>
    obtain ⟨member, frames, join⟩ := State.listenAfterSlip_facts s cause
    refine ⟨by rw [member, listening]; rfl, frames, fun early _ room => join early room, fun synced => ?_, fun _ => ?_⟩
    · rw [listening] at synced
      contradiction
    · exact (State.listenAfterSlip_changes _ cause).keeps (.notice .joinState)
  next off =>
    rw [State.member_of_not_online off] at on
    contradiction
  next conflict =>
    refine ⟨by rw [conflict]; rfl, fun g mem => .inr mem, fun _ out => absurd conflict out, fun synced => ?_, fun _ => rfl⟩
    rw [conflict] at synced
    contradiction

/-- What a slip leaves to the rest of its mark. -/
structure State.Slipped (t : State) (counts : Bool) (m : Membership) : Prop where
  member : t.member = m
  frames : ∀ g ∈ t.line.queue, g.phase = .waiting → slipFrame counts g.frame = false
  untrusted : ∀ r, t.path.transfer = some r → r.trust = false
  claims : t.path.claims = []
  givenUp : t.path.givenUp = []
  duty : t.dutyReports = false
  head : ∀ h, t.path.hold.head? = some h → h.stage ≠ .ready ∧ h.link ≠ .queued

end Machine
end Sys2Proof
end

section
/-! PROOF. O10, the rest of the mark of a slip, and the statement (01 R6, R7, 05 R93, R99). -/
set_option Elab.async false
namespace Sys2Proof
namespace Machine

theorem Membership.slipped_ne_synced (m : Membership) (cause : SlipCause) : m.slipped cause ≠ .synced := by
  unfold Membership.slipped
  split
  · nofun
  · cases cause <;> nofun

section Keep
variable {counts : Bool} {m : Membership}

theorem State.Slipped.frame {counts : Bool} {f : Frame} (names : slipFrame counts f = false) : f.kind.namesCleat = false :=
  (Bool.or_eq_false_iff.mp names).1

theorem Changes.slippedOf {ps : List Part} {s t : State} (h : Changes ps s t) (slipped : s.Slipped counts m)
    (untrusted : ∀ r, t.path.transfer = some r → r.trust = false)
    (out : ∀ p ∈ [Part.member, .queue, .claims, .givenUp, .dutyReports, .hold], p ∉ ps := by simp [NoticeDetail.kind]) :
    t.Slipped counts m where
  member := (h .member (out _ (by simp))).trans slipped.member
  frames := by
    have queue : t.line.queue = s.line.queue := h .queue (out _ (by simp))
    rw [queue]
    exact slipped.frames
  untrusted := untrusted
  claims := (h .claims (out _ (by simp))).trans slipped.claims
  givenUp := (h .givenUp (out _ (by simp))).trans slipped.givenUp
  duty := (h .dutyReports (out _ (by simp))).trans slipped.duty
  head := by
    have hold : t.path.hold = s.path.hold := h .hold (out _ (by simp))
    rw [hold]
    exact slipped.head

theorem Changes.slipped {ps : List Part} {s t : State} (h : Changes ps s t) (slipped : s.Slipped counts m)
    (out : ∀ p ∈ [Part.member, .queue, .claims, .givenUp, .dutyReports, .hold], p ∉ ps := by simp [NoticeDetail.kind])
    (transfer : .transfer ∉ ps := by simp [NoticeDetail.kind]) : t.Slipped counts m := by
  have same : t.path.transfer = s.path.transfer := h .transfer transfer
  exact h.slippedOf slipped (by rw [same]; exact slipped.untrusted) out

/-- What the mark of a slip writes from its clear point on. -/
@[simp] def slipRestParts : List Part := clearParts ++ untrustedParts ++ [.gateDrives, .gates, .doze]

variable {s : State} (slipped : s.Slipped counts m) (out : m ≠ .synced)
include slipped

theorem State.clearWork_slipped : s.clearWork.Slipped counts m := by
  unfold State.clearWork
  split
  next c _ =>
    refine (State.reportBins_changes s.bins _).slipped ?_
    refine { slipped with claims := ?_, givenUp := ?_ }
    · exact (congrArg (List.filter _) slipped.claims).trans List.filter_nil
    · exact (congrArg (List.filter _) slipped.givenUp).trans List.filter_nil
  · exact slipped

include out

theorem State.Slipped.unsynced : s.synced = false := by
  simp only [State.synced, slipped.member]
  exact decide_eq_false out

theorem State.landingWork_slipped (item : Bool) :
    Changes untrustedParts s (s.landingWork item) ∧ (s.landingWork item).Slipped counts m := by
  obtain ⟨changes, untrusted⟩ := State.landingWork_untrusted (slipped.unsynced out) slipped.untrusted item
  exact ⟨changes, changes.slippedOf slipped untrusted⟩

/-- The rest of the mark of a slip touches neither the queue nor the path but for a transfer without trust. -/
theorem State.slipped_rest {home : Bool} (still : m = .conflict ∨ m = .listening .joinPending ∨ home = false)
    (resting : ∀ n, m ≠ .listening (.counting n)) (item : Bool) (before : ClaimLink) :
    Changes slipRestParts s (((s.clearWork.workAfter item).claimWork before).markEnded home)
      ∧ (((s.clearWork.workAfter item).claimWork before).markEnded home).Slipped counts m := by
  have clear := s.clearWork_changes
  have cleared := State.clearWork_slipped slipped
  obtain ⟨landing, landed⟩ := State.landingWork_slipped cleared out item
  have gates := State.gateWork_quiet (s := s.clearWork.landingWork item) (by simp [State.reportsDuty, landed.duty])
  have gated := gates.slipped landed
  have work : Changes slipRestParts s (s.clearWork.workAfter item) :=
    (clear.andThen landing (rs := slipRestParts)).andThen gates
  change (s.clearWork.workAfter item).Slipped counts m at gated
  generalize s.clearWork.workAfter item = u at work gated
  have unsynced := gated.unsynced out
  have idle : u.claimWork before = u := State.claimWork_idle unsynced (fun g mem waiting =>
    State.Slipped.frame (gated.frames g mem waiting)) (fun h some_ => (gated.head h some_).1) before
  have revolved : u.revolved home = u := by
    have joined : (if home then u.joinAtHome else u) = u := by
      split
      next atHome =>
        refine if_neg ?_
        rw [gated.member]
        rintro rfl
        simp [atHome] at still
      · rfl
    rw [State.revolved, joined]
    unfold State.countListening
    split
    next n counting => exact absurd (gated.member.symm.trans counting) (resting n)
    all_goals rfl
  have ended : u.markEnded home = u.testDoze := by
    rw [State.markEnded, revolved, State.tryStart_of_unsynced unsynced]
  rw [idle, ended]
  exact ⟨work.andThen u.testDoze_changes, u.testDoze_changes.slipped gated⟩

end Keep

-- The slip itself

theorem State.mapHead_head (s : State) (f : Container → Container) :
    (s.mapHead f).path.hold.head? = s.path.hold.head?.map f := by
  cases hold : s.path.hold with
  | nil => simp [State.mapHead, hold]
  | cons h rest => simp [State.mapHead_cons hold]

theorem Container.slipped_rests (h : Container) : h.slipped.stage ≠ .ready ∧ h.slipped.link ≠ .queued := by
  unfold Container.slipped
  split
  · exact ⟨nofun, nofun⟩
  next stage =>
    split
    next link => exact ⟨stage, by rw [link]; nofun⟩
    · exact ⟨nofun, nofun⟩

section Slip
variable {s : State} (on : s.online = true) (cause : SlipCause) (count : Nat)
include on

theorem State.slip_slipped (bins : Vector BinRecord 9) :
    ((s.slipWritten cause count).reportBins bins).noteDuty.Slipped s.synced (s.member.slipped cause) := by
  obtain ⟨member, frames, _⟩ := State.slipMember_facts (s := s.slipFreed) on cause
  obtain ⟨claims, givenUp⟩ := s.slipFreed_claims
  have told := (State.slipMember_changes s.slipFreed cause).andThen
    (State.raise_changes _ (.pitchSlip cause count s.member.state) (k := .pitchSlip))
    (rs := .notice .pitchSlip :: slipMemberParts)
  rw [← State.slipTold_eq] at told
  have after := (State.loseTrust_changes (s.slipTold cause count)).andThen (State.mapHead_changes _ Container.slipped)
    (rs := [.transfer, .hold])
  rw [← State.slipWritten_eq] at after
  have reported := (State.reportBins_changes bins (s.slipWritten cause count)).andThen (State.noteDuty_changes _)
    (rs := [.notice .binChange, .bins, .dutyReports])
  have queue : ((s.slipWritten cause count).reportBins bins).noteDuty.line.queue = (s.slipFreed.slipMember cause).line.queue :=
    (reported.keeps .queue).trans (after.keeps .queue)
  have member : ((s.slipWritten cause count).reportBins bins).member = s.member.slipped cause :=
    ((State.reportBins_changes bins _).keeps .member).trans ((after.keeps .member).trans member)
  refine ⟨member, ?_, fun r some_ => ?_, ?_, ?_, ?_, fun h some_ => ?_⟩
  · rw [queue]
    intro g mem waiting
    rcases frames g mem with join | old
    · simp [slipFrame, join, FrameKind.namesCleat]
    · exact s.slipFreed_frames g old waiting
  · have transfer := (reported.keeps .transfer).trans (s.slipWritten_transfer cause count)
    obtain ⟨q, _, rfl⟩ := Option.map_eq_some_iff.mp (transfer.symm.trans some_)
    rfl
  · exact (reported.keeps .claims).trans ((after.keeps .claims).trans ((told.keeps .claims).trans claims))
  · exact (reported.keeps .givenUp).trans ((after.keeps .givenUp).trans ((told.keeps .givenUp).trans givenUp))
  · refine (congrArg (fun m => decide (m = Membership.synced)) member).trans ?_
    exact decide_eq_false (s.member.slipped_ne_synced cause)
  · have hold : ((s.slipWritten cause count).reportBins bins).noteDuty.path.hold = (s.slipWritten cause count).path.hold :=
      reported.keeps .hold
    rw [hold, State.slipWritten_eq, State.mapHead_head] at some_
    obtain ⟨q, _, rfl⟩ := Option.map_eq_some_iff.mp some_
    exact q.slipped_rests

/-- The notice and the JOIN of a slip (05 R93, R99). -/
theorem State.slip_tells (bins : Vector BinRecord 9) :
    (s.member = .synced → ((s.slipWritten cause count).reportBins bins).noteDuty.noticeOf .joinState =
        some (.joinState .listening .synced .pitchSlip))
    ∧ (s.member ≠ .synced → ((s.slipWritten cause count).reportBins bins).noteDuty.notices[NoticeKind.joinState.index] =
        s.notices[NoticeKind.joinState.index])
    ∧ (cause = .earlyHome → s.member ≠ .conflict → s.line.queue.length < Config.queuePlaces →
        ((s.slipWritten cause count).reportBins bins).noteDuty.queues .join .none) := by
  obtain ⟨_, _, join, told, untold⟩ := State.slipMember_facts (s := s.slipFreed) on cause
  have later := ((State.raise_changes (s.slipFreed.slipMember cause) (.pitchSlip cause count s.member.state)
    (k := .pitchSlip)).andThen (State.loseTrust_changes _) (rs := [.notice .pitchSlip, .transfer, .hold])).andThen
    (State.mapHead_changes _ Container.slipped) (rs := [.notice .pitchSlip, .transfer, .hold])
  rw [← State.slipTold_eq, ← State.slipWritten_eq] at later
  have reported := (later.andThen (State.reportBins_changes bins _)
    (rs := [.notice .pitchSlip, .transfer, .hold, .notice .binChange, .bins])).andThen (State.noteDuty_changes _)
    (rs := [.notice .pitchSlip, .transfer, .hold, .notice .binChange, .bins, .dutyReports])
  refine ⟨fun synced => (congrArg NoticeRecord.detail (reported.keeps (.notice .joinState))).trans (told synced),
    fun out => (reported.keeps (.notice .joinState)).trans (untold out), fun early out room => reported.queues (join early out ?_)⟩
  exact s.slipFreed_length.trans_lt room

end Slip

-- The statement

/-- A mark that finds a slip does what 01 R7 says of it. -/
theorem State.mark_slips {s : State} (on : s.online = true) {home : Bool} {cause : SlipCause}
    (slip : (s.belt.moved home).2 = some cause) (early : cause = .earlyHome ∨ home = false) (item : Bool) :
    ∃ t, exec (mark home item) s = .next t ∧ s.slippedTo t ∧ t.member = s.member.slipped cause
      ∧ (cause = .earlyHome → s.member ≠ .conflict → s.line.queue.length < Config.queuePlaces → t.queues .join .none) := by
  have started := State.markStarted_slip slip item
  have changes := s.markStarted_changes home item
  have slipped := State.slip_slipped (s := { s.readBeltEyes item home with belt := (s.belt.moved home).1 }) on cause
    s.belt.pitchCount s.bins
  obtain ⟨told, untold, join⟩ := State.slip_tells (s := { s.readBeltEyes item home with belt := (s.belt.moved home).1 }) on
    cause s.belt.pitchCount s.bins
  have map := State.slipWritten_map ({ s.readBeltEyes item home with belt := (s.belt.moved home).1 } : State) cause
    s.belt.pitchCount
  have reported := (State.reportBins_changes s.bins (({ s.readBeltEyes item home with belt := (s.belt.moved home).1 } :
    State).slipWritten cause s.belt.pitchCount)).andThen (State.noteDuty_changes _)
    (rs := [.notice .binChange, .bins, .dutyReports])
  rw [← started] at slipped told untold join reported
  have free := State.entryAt_of_freeMap ((reported.keeps .map).trans map)
  have still : s.member.slipped cause = .conflict ∨ s.member.slipped cause = .listening .joinPending ∨ home = false := by
    rcases early with rfl | pitch
    · unfold Membership.slipped
      split
      · exact .inl rfl
      · exact .inr (.inl rfl)
    · exact .inr (.inr pitch)
  have resting (n : Nat) : s.member.slipped cause ≠ .listening (.counting n) := by
    unfold Membership.slipped
    split
    · nofun
    · cases cause <;> nofun
  obtain ⟨rest, ends⟩ := State.slipped_rest (s := s.markStarted home item) slipped (s.member.slipped_ne_synced cause) still
    resting item (s.markStarted home item).headLink
  have late := (s.markStarted home item).clearWork.markLate_changes (s.markStarted home item).headLink home item
  have whole := changes.andThen rest (rs := markStartParts ++ slipRestParts)
  have cleared (x : Cleat) : (s.markStarted home item).clearWork.entryAt x = .free := by
    cases current : (s.markStarted home item).belt.current with
    | none => rw [State.clearWork_unknown current, free]
    | some c => rw [State.clearWork_entryAt current, free, ite_self]
  refine ⟨_, exec_mark on home item, ⟨fun x => (late.entryAt x).trans (cleared x), fun b => ⟨whole.used (b := b), whole.binState (b := b)⟩,
    fun g mem waiting => State.Slipped.frame (ends.frames g mem waiting), ends.untrusted, fun synced => ⟨?_, ?_⟩,
    fun out => (rest.keeps (.notice .joinState)).trans (untold out), ends.givenUp, ends.claims, ends.duty, ends.head⟩,
    ends.member, fun atHome out room => rest.queues (join atHome out room)⟩
  · exact (congrArg NoticeRecord.detail (rest.keeps (.notice .joinState))).trans (told synced)
  · intro g mem waiting counts
    have named := ends.frames g mem waiting
    simp [slipFrame, counts, State.synced, State.readBeltEyes, synced] at named

/-- Settles O10. -/
theorem pitchSlip : Obligations.PitchSlip := by
  refine fun item s on seen => ⟨fun last => ?_, fun early => ?_⟩
  · obtain ⟨t, runs, slips, member, _⟩ := State.mark_slips (home := false) on
      (by simp [Belt.moved, Belt.pitch, seen, last] : (s.belt.moved false).2 = some .missingHome) (.inr rfl) item
    exact ⟨t, runs, slips, member⟩
  · obtain ⟨t, runs, slips, member, join⟩ := State.mark_slips (home := true) on
      (by simp [Belt.moved, Belt.home, seen, early] : (s.belt.moved true).2 = some .earlyHome) (.inl rfl) item
    exact ⟨t, runs, slips, member, join rfl⟩

end Machine
end Sys2Proof
end

section
/-! PROOF. What a mark leaves in the transmit queue and in the list of given-up cleats: its later work takes out of them nothing
but a stale CLAIM (02 R43 to R45, 03 R47). -/
set_option Elab.async false
namespace Sys2Proof
namespace Machine

/-- A frame of every slot but a CLAIM's stays queued, and a cleat given up stays in its list, which stays as it is when full. -/
structure ListsKept (s t : State) : Prop where
  frames : ∀ k x, k ≠ .claim → s.queues k x → t.queues k x
  listed : ∀ y ∈ s.path.givenUp, y ∈ t.path.givenUp
  full : 2 ≤ s.path.givenUp.length → t.path.givenUp = s.path.givenUp

namespace ListsKept
variable {s t u : State}

theorem refl (s : State) : ListsKept s s where
  frames _ _ _ queued := queued
  listed _ mem := mem
  full _ := rfl

theorem trans (h : ListsKept s t) (k : ListsKept t u) : ListsKept s u where
  frames kind x other queued := k.frames kind x other (h.frames kind x other queued)
  listed y mem := k.listed y (h.listed y mem)
  full two := (k.full (by rwa [h.full two])).trans (h.full two)

theorem of_changes {ps : List Part} (h : Changes ps s t) (queue : .queue ∉ ps := by simp [NoticeDetail.kind])
    (givenUp : .givenUp ∉ ps := by simp [NoticeDetail.kind]) : ListsKept s t := by
  have same : t.path.givenUp = s.path.givenUp := h .givenUp givenUp
  exact ⟨fun _ _ _ queued => h.queues queued queue, fun y mem => same ▸ mem, fun _ => same⟩

theorem ite {c : Prop} [Decidable c] {a b : State} (yes : c → ListsKept s a) (no : ¬c → ListsKept s b) :
    ListsKept s (if c then a else b) := by
  split
  next h => exact yes h
  next h => exact no h

theorem foldl {α : Type} {f : State → α → State} (step : ∀ s a, ListsKept s (f s a)) (l : List α) (s : State) :
    ListsKept s (l.foldl f s) := by
  induction l generalizing s with
  | nil => exact refl s
  | cons a l ih => exact (step s a).trans (ih _)

end ListsKept

-- The operations on the lists

section Operations
variable (s : State)

theorem State.queueFrame_lists (f : Frame) : ListsKept s (s.queueFrame f) := by
  have same : (s.queueFrame f).path = s.path := (s.queueFrame_changes f).path
  exact ⟨fun _ _ _ queued => State.queueFrame_keeps f queued, fun y mem => same ▸ mem, fun _ => congrArg Path.givenUp same⟩

theorem State.enterGivenUp_lists (x : Cleat) : ListsKept s (s.enterGivenUp x) := by
  refine ⟨fun _ _ _ queued => (s.enterGivenUp_changes x).queues queued, fun y mem => ?_, fun two => ?_⟩
  · rw [State.enterGivenUp_givenUp]
    split
    · exact List.mem_append_left _ mem
    · exact mem
  · rw [State.enterGivenUp_givenUp, if_neg fun h => absurd h.1 (by omega)]

theorem State.giveUp_lists (x : Cleat) : ListsKept s (s.giveUp x) :=
  ((s.queueFrame_lists _).trans (State.enterGivenUp_lists _ x)).trans (.of_changes (State.setRole_changes _ x .givenUp))

theorem State.enqueue_lists (f : Frame) : ListsKept s (s.enqueue f).1 := by
  have same : (s.enqueue f).1.path = s.path := (s.enqueue_changes f).path
  refine ⟨fun k x _ queued => ?_, fun y mem => same ▸ mem, fun _ => congrArg Path.givenUp same⟩
  obtain ⟨g, mem, kind, subject⟩ := queued
  obtain ⟨h, mem', kind', subject', _⟩ := (s.enqueue_gives f).slots g mem
  exact ⟨h, mem', kind'.trans kind, subject'.trans subject⟩

/-- A withdrawal of CLAIMs leaves every other frame. -/
theorem State.withdrawClaims_lists (c : Cleat) : ListsKept s (s.withdrawClaims c) := by
  have withdrawn : ListsKept s (s.withdraw (s.staleClaim c)) := by
    refine ⟨fun k x other queued => ?_, fun _ mem => mem, fun _ => rfl⟩
    obtain ⟨g, mem, kind, subject⟩ := queued
    have fresh : s.staleClaim c g.frame = false := by
      cases frame : g.frame <;> simp only [State.staleClaim]
      rw [frame] at kind
      exact absurd kind.symm other
    exact ⟨g, List.mem_filter.mpr ⟨mem, by simp [fresh]⟩, kind, subject⟩
  exact withdrawn.trans (.foldl (fun u x => .of_changes (u.dropClaim_changes x)) _ _)

-- The entry check and the gates

theorem State.unexpectedClaim_lists (x : Cleat) (b : BinNo) : ListsKept s (s.unexpectedClaim x b) :=
  .ite (fun _ => .refl s) fun _ => ((s.queueFrame_lists _).trans (State.enterGivenUp_lists _ x)).trans
    (.of_changes (State.raise_changes _ (.mapConflict (.unexpectedClaim x b)) (k := .mapConflict)))

theorem State.reportMiss_lists (g : Gate) (x : Cleat) (first_ : Bool) : ListsKept s (s.reportMiss g x first_) := by
  refine .ite (fun _ => ?_) fun _ => .refl s
  have told : ListsKept s (if first_ then s.queueFrame (.misroute x (gateBin g) 0) else s) :=
    .ite (fun _ => s.queueFrame_lists _) fun _ => .refl s
  exact told.trans (.ite (fun _ => State.queueFrame_lists _ _) fun _ => .refl _)

theorem State.missGate_lists (g : Gate) : ListsKept s (s.missGate g) := by
  unfold State.missGate
  split
  next i _ => exact (ListsKept.of_changes (Changes.gates s _)).trans (State.reportMiss_lists _ g i.cleat _)
  · exact .refl s

theorem State.holdGate_lists (g : Gate) (x : Cleat) : ListsKept s (s.holdGate g x) := by
  have asked (v : Vector (Option GateInterval) 8) := ListsKept.of_changes
    ((s.mapChannel_changes (.gate g) fun r => if r.standing then r else r.request).andThen (Changes.gates _ v)
      (rs := [.gateDrives, .gates]))
  exact .ite (fun _ => asked _) fun _ => (asked _).trans (State.missGate_lists _ g)

theorem State.releaseGate_quiet (g : Gate) : Changes [.gateDrives, .gates] s (s.releaseGate g) :=
  (s.mapChannel_changes (.gate g) _).andThen (Changes.gates _ _)

theorem State.checkGate_lists (c : Cleat) (g : Gate) : ListsKept s (s.checkGate c g) :=
  .ite (fun _ => s.holdGate_lists g _) fun _ => .of_changes (s.releaseGate_quiet g)

theorem State.gateWork_lists : ListsKept s s.gateWork := by
  unfold State.gateWork
  refine .ite (fun _ => ?_) fun _ => .refl s
  split
  next c _ => exact .foldl (fun u g => u.checkGate_lists c g) _ s
  · exact .foldl (fun u g => .of_changes (u.releaseGate_quiet g)) _ s

-- The head of the hold queue

theorem State.choose_lists (c : Cleat) (h : Container) : ListsKept s (s.choose c h) := by
  unfold State.choose
  split
  next b x _ _ =>
    refine .ite (fun _ => ?_) fun _ => .refl s
    have taken := s.enqueue_lists (.claim x b (s.claimUsed b))
    split
    next t eq =>
      rw [eq] at taken
      exact taken.trans (.of_changes (t.mapHead_changes _))
    · exact .refl s
  · exact .refl s

theorem State.claimingHead_lists (c : Cleat) (before : ClaimLink) (h : Container) :
    ListsKept s (s.claimingHead c before h) := by
  have waited := ListsKept.of_changes (s.holdWait_changes before h)
  simp only [State.claimingHead]
  split
  · exact .ite (fun _ => waited.trans (State.choose_lists _ _ _)) fun _ => waited
  · exact waited

theorem State.headWork_lists (c : Cleat) (before : ClaimLink) : ListsKept s (s.headWork c before) := by
  unfold State.headWork
  split
  next h _ =>
    refine .ite (fun _ => ?_) fun _ => .ite (fun _ => s.claimingHead_lists c before h) fun _ => .refl s
    unfold State.readyHead
    split
    next x _ =>
      refine .ite (fun _ => .ite (fun _ => .of_changes (s.fire_changes h x)) fun _ => ?_) fun _ =>
        .of_changes (s.mapHead_changes _)
      exact (s.giveUp_lists x).trans (.of_changes (State.mapHead_changes _ _))
    · exact .refl s
  · exact .refl s

theorem State.claimWork_lists (before : ClaimLink) : ListsKept s (s.claimWork before) := by
  unfold State.claimWork
  split
  next c _ => exact (s.withdrawClaims_lists c).trans (State.headWork_lists _ c before)
  · exact .refl s

-- The end of the mark

theorem State.markEnded_lists (home : Bool) : ListsKept s (s.markEnded home) := by
  have joined : ListsKept s (if home then s.joinAtHome else s) :=
    .ite (fun _ => .ite (fun _ => (ListsKept.of_changes (Changes.member s _)).trans (State.queueFrame_lists _ _))
      fun _ => .refl s) fun _ => .refl s
  exact (joined.trans (.of_changes (State.countListening_changes _))).trans (.of_changes (State.markEnded_after s home))

/-- The lists after the landing eye stand to the end of the mark. -/
theorem State.markTail_lists (before : ClaimLink) (home : Bool) :
    ListsKept s ((s.gateWork.claimWork before).markEnded home) :=
  (s.gateWork_lists.trans (State.claimWork_lists _ before)).trans (State.markEnded_lists _ home)

end Operations

theorem ListsKept.givesUp {s w t : State} (h : ListsKept w t) {x : Cleat} (entered : s.givesUp w x)
    (own : ∀ y, t.ownClaim y = w.ownClaim y) : s.givesUp t x := by
  obtain ⟨enters, stays⟩ := entered
  refine ⟨fun room claimed => h.listed x (enters room ((own x).symm.trans claimed)), fun two claimed => ?_⟩
  have same := stays two fun y mem => (own y).symm.trans (claimed y mem)
  exact (h.full (by rwa [same])).trans same

end Machine
end Sys2Proof
end

section
/-! PROOF. O12: a transfer that does not land (01 R15, 06 R114, 10 R167, R170). -/
set_option Elab.async false
namespace Sys2Proof
namespace Machine

-- A pending container is lost (10 R167, R170)

/-- The session with one pending container less. -/
def Session.lost (n : Session) : Session := { n with pending := n.pending - 1 }

theorem State.losePending_waits {s : State}
    (waits : s.session.state ≠ .closing ∨ 2 ≤ s.session.pending ∨ s.session.undecided = true) :
    s.losePending = s.mapSession Session.lost := by
  refine if_neg fun ⟨closing, none_, decided⟩ => ?_
  have closing : s.session.state = .closing := closing
  have none_ : s.session.pending - 1 = 0 := none_
  have decided : s.session.undecided = false := decided
  rcases waits with other | two | undecided
  · exact other closing
  · omega
  · rw [undecided] at decided
    contradiction

section Close
variable {s : State} (closing : s.session.state = .closing) (last : s.session.pending ≤ 1)
  (decided : s.session.undecided = false)
include closing last decided

theorem State.losePending_closes (one : 1 ≤ s.session.count) : s.losePending = (s.mapSession Session.lost).assignNumber :=
  (if_pos ⟨closing, Nat.sub_eq_zero_of_le last, decided⟩).trans (if_pos one)

theorem State.losePending_empties (empty : s.session.count = 0) :
    s.losePending = (s.mapSession Session.lost).mapSession Session.emptied :=
  (if_pos ⟨closing, Nat.sub_eq_zero_of_le last, decided⟩).trans (if_neg (Nat.not_le_of_lt (Nat.lt_one_iff.mpr empty)))

end Close

/-- What the loss of a pending container does to the session and to its notices (10 R167, R170). -/
def State.losesPending (s t : State) : Prop :=
  (s.session.state = .opened ∨ (s.session.state = .closing ∧ (2 ≤ s.session.pending ∨ s.session.undecided = true)) →
    t.session = { s.session with pending := s.session.pending - 1 }
    ∧ t.notices[NoticeKind.sessionClosed.index] = s.notices[NoticeKind.sessionClosed.index])
  ∧ (∀ reason, s.session.state = .closing → s.session.pending ≤ 1 → s.session.undecided = false →
    s.session.reason = some reason →
    let number := s.host.cfg.stationNumber * 1048576 + s.session.sequence
    (1 ≤ s.session.count → t.session = { s.session with
        state := .closed, pending := 0, number := some number, sequence := s.session.sequence + 1 }
      ∧ t.noticeOf .sessionClosed = some
          (.sessionClosed number reason s.session.total s.session.count s.session.lines.length)
      ∧ (s.session.sequence + 1 = Config.lastSequence →
          t.noticeOf .vouchersExhausted = some (.vouchersExhausted number)))
    ∧ (s.session.count = 0 → t.session = { s.session with
        state := .idle, lines := [], total := 0, count := 0, pending := 0, reason := none, number := none
        idleTimer := none }
      ∧ t.notices[NoticeKind.sessionClosed.index] = s.notices[NoticeKind.sessionClosed.index]))

theorem State.losePending_loses (s : State) : s.losesPending s.losePending := by
  refine ⟨fun waits => ?_, fun reason closing last decided why => ⟨fun one => ?_, fun empty => ?_⟩⟩
  · rw [State.losePending_waits]
    · exact ⟨rfl, rfl⟩
    · rcases waits with opened | ⟨_, waits⟩
      · exact .inl (by rw [opened]; nofun)
      · exact .inr waits
  · have none_ : s.session.pending - 1 = 0 := Nat.sub_eq_zero_of_le last
    rw [State.losePending_closes closing last decided one]
    refine ⟨(State.assignNumber_session _).trans ?_, (State.assignNumber_sessionClosed _).trans ?_,
      State.assignNumber_vouchersExhausted (s.mapSession Session.lost)⟩
    · simp only [State.mapSession, Session.lost, none_]
      rfl
    · simp only [State.mapSession, Session.lost, why]
      rfl
  · rw [State.losePending_empties closing last decided empty]
    exact ⟨rfl, rfl⟩

theorem State.losesPending.of {s v w t : State} (h : v.losesPending w) (session : v.session = s.session)
    (cfg : v.host.cfg = s.host.cfg)
    (closed : v.notices[NoticeKind.sessionClosed.index] = s.notices[NoticeKind.sessionClosed.index])
    (session' : t.session = w.session)
    (closed' : t.notices[NoticeKind.sessionClosed.index] = w.notices[NoticeKind.sessionClosed.index])
    (exhausted' : t.noticeOf .vouchersExhausted = w.noticeOf .vouchersExhausted) : s.losesPending t := by
  have told : t.noticeOf .sessionClosed = w.noticeOf .sessionClosed := congrArg NoticeRecord.detail closed'
  unfold State.losesPending at h ⊢
  rw [session', closed', exhausted', told, ← session, ← cfg, ← closed]
  exact h

-- The record that has not landed is STUCK (06 R114)

/-- The cleat of a record with trust is given up. -/
def State.loseCleat (s : State) (r : Container) : State :=
  match r.cleat with
  | some x => if r.trust then s.giveUp x else s
  | none => s

theorem State.notLanded_eq (s : State) (r : Container) : s.notLanded r =
    ((s.setTransfer r.notLanded).loseCleat r).losePending.raise (.jam r.tag .transferSlot .notLanded r.stage none) := rfl

theorem State.loseCleat_changes (s : State) (r : Container) : Changes giveUpParts s (s.loseCleat r) := by
  unfold State.loseCleat
  split
  · exact .ite (fun _ => s.giveUp_changes _) fun _ => .refl _ s
  · exact .refl _ s

theorem State.loseCleat_of_trust {r : Container} {x : Cleat} (cleat : r.cleat = some x) (trust : r.trust = true)
    (s : State) : s.loseCleat r = s.giveUp x := by
  simp only [State.loseCleat, cleat]
  exact if_pos trust

-- The rest of the mark with a STUCK record in the transfer slot

/-- What the rest of a mark writes that neither fires nor takes a container. -/
@[simp] def stuckTailParts : List Part := .doze :: (gateParts ++ unfiredParts ++ revolveParts)

theorem State.stuckTail_changes {u : State} {r : Container} (transfer : u.path.transfer = some r) (stuck : r.stage = .stuck)
    (before : ClaimLink) (home : Bool) : Changes stuckTailParts u ((u.gateWork.claimWork before).markEnded home) := by
  have gates := u.gateWork_changes
  have gated : u.gateWork.path.transfer = some r := (gates.keeps .transfer).trans transfer
  have head := State.claimWork_unfired (State.canFire_of_transfer (by rw [gated]; rfl)) before
  have work := gates.andThen head (rs := stuckTailParts)
  generalize u.gateWork.claimWork before = v at work head
  have revolved := v.revolved_changes home
  have kept : (v.revolved home).path.transfer = some r :=
    (revolved.keeps .transfer).trans ((head.keeps .transfer).trans gated)
  have still : (v.revolved home).tryStart = v.revolved home :=
    State.tryStart_of_not_mayStart (by simp [State.mayStart, State.hasStuck, kept, Container.isStuck, stuck])
  rw [State.markEnded, still]
  exact (work.andThen revolved (rs := stuckTailParts)).andThen (State.testDoze_changes _)

theorem State.mark_started_cleared {s : State} {home : Bool} (noSlip : s.belt.noSlip home) (item : Bool) :
    Changes ([.eyes, .belt, .dutyReports] ++ clearParts) s (s.markStarted home item).clearWork :=
  (State.markStarted_plain noSlip item).andThen (State.clearWork_changes _)

/-- The clear point leaves in the list of given-up cleats those that are still own CLAIMED (03 R46). -/
theorem State.clearWork_givenUp (s : State) : s.clearWork.path.givenUp = s.path.givenUp
    ∨ s.clearWork.path.givenUp = s.path.givenUp.filter s.clearWork.ownClaim := by
  unfold State.clearWork
  split
  next c _ =>
    have reported := State.reportBins_changes s.bins (s.changeEntry (c - BitVec.ofNat 8 s.host.cfg.clearDistance) .free)
    refine .inr ((reported.keeps .givenUp).trans (List.filter_congr fun x _ => ?_))
    exact (reported.ownClaim x).symm
  · exact .inl rfl

/-- Settles O12. -/
theorem notLandedIsStuck : Obligations.NotLandedIsStuck := by
  intro s home r x on noSlip transfer stage last cleat
  have runs := exec_mark on home false
  have started := State.mark_started_cleared noSlip false
  have pruned := (s.markStarted home false).clearWork_givenUp
  have listed : (s.markStarted home false).path.givenUp = s.path.givenUp :=
    (State.markStarted_plain noSlip false).keeps .givenUp
  rw [listed] at pruned
  generalize (s.markStarted home false).clearWork = c at runs started pruned
  have ends : c.landingWork false = (c.setTransfer r.counted).notLanded r.counted :=
    State.landingWork_ends ((started.keeps .transfer).trans transfer) stage (by simp [Container.counted, last]) false
  have stuck : r.counted.notLanded = { r with stage := .stuck, landing := 0 } := by
    simp [Container.counted, Container.notLanded, last]
  rw [State.workAfter, ends, State.notLanded_eq] at runs
  have placed := (Changes.transfer c (some r.counted)).andThen (Changes.transfer _ (some r.counted.notLanded))
    (rs := [.transfer])
  have record : ((c.setTransfer r.counted).setTransfer r.counted.notLanded).path.transfer = some r.counted.notLanded := rfl
  change Changes _ _ ((c.setTransfer r.counted).setTransfer r.counted.notLanded) at placed
  generalize (c.setTransfer r.counted).setTransfer r.counted.notLanded = u at runs placed record
  have lost := u.loseCleat_changes r.counted
  have given (trust : r.trust = true) : u.loseCleat r.counted = u.giveUp x :=
    State.loseCleat_of_trust (r := r.counted) cleat trust u
  have closed := (u.loseCleat r.counted).losePending_changes
  have jammed := (u.loseCleat r.counted).losePending.raise_changes (.jam r.counted.tag .transferSlot .notLanded
    r.counted.stage none) (k := .jam)
  have tail := State.stuckTail_changes (((jammed.keeps .transfer).trans ((closed.keeps .transfer).trans
    (lost.keeps .transfer))).trans record) rfl (s.markStarted home false).headLink home
  have lists := State.markTail_lists ((u.loseCleat r.counted).losePending.raise (.jam r.counted.tag .transferSlot .notLanded
    r.counted.stage none)) (s.markStarted home false).headLink home
  have kept : ListsKept (u.loseCleat r.counted) _ :=
    ((ListsKept.of_changes closed).trans (.of_changes jammed)).trans lists
  have before := (started.andThen placed (rs := .transfer :: ([.eyes, .belt, .dutyReports] ++ clearParts))).andThen lost
    (rs := giveUpParts ++ .transfer :: ([.eyes, .belt, .dutyReports] ++ clearParts))
  have noticed : ((u.loseCleat r.counted).losePending.raise (.jam r.counted.tag .transferSlot .notLanded r.counted.stage
      none)).noticeOf .jam = some (.jam r.tag .transferSlot .notLanded .transferring none) :=
    (State.raise_noticeOf (k := .jam) _ _ rfl).trans (by rw [show r.counted.stage = .transferring from stage]; rfl)
  have later := jammed.andThen tail (rs := .notice .jam :: stuckTailParts)
  refine ⟨_, runs, ?_, (congrArg NoticeRecord.detail (tail.keeps (.notice .jam))).trans noticed, fun trust room => ?_,
    fun trust => ?_, ?_⟩
  · rw [← stuck, ← record]
    exact (later.keeps .transfer).trans ((closed.keeps .transfer).trans (lost.keeps .transfer))
  · refine kept.frames _ _ nofun ?_
    rw [given trust]
    have queue : u.line.queue = s.line.queue := (placed.keeps .queue).trans (started.keeps .queue)
    exact State.giveUp_queues (by rw [queue]; exact room)
  · have enters : s.givesUp (u.giveUp x) x := by
      refine State.givesUp_of (v := u) ?_ rfl fun y => (u.giveUp_changes x).ownClaim y
      have same : u.path.givenUp = c.path.givenUp := placed.keeps .givenUp
      have own : u.ownClaim = c.ownClaim := funext fun y => placed.ownClaim y
      rw [same, own]
      exact pruned
    exact kept.givesUp (given trust ▸ enters) fun y => (closed.andThen later
      (rs := closeParts ++ .notice .jam :: stuckTailParts)).ownClaim y
  · exact (State.losePending_loses _).of (s := s) (before.session) before.config (before.keeps (.notice .sessionClosed))
      later.session (later.keeps (.notice .sessionClosed))
      (congrArg NoticeRecord.detail (later.keeps (.notice .vouchersExhausted)))

end Machine
end Sys2Proof
end

section
/-! PROOF. O13: the entry check at a mark at which no transfer ends (01 R16, R17, 03 R57). -/
set_option Elab.async false
namespace Sys2Proof
namespace Machine

-- The mark up to the entry check

section Bounds
variable {cfg : Configuration} (bounds : cfg.MeetsBounds)
include bounds

theorem Configuration.clear_bounds : 8 ≤ cfg.clearDistance ∧ cfg.clearDistance ≤ 200 := bounds.2.2.1

/-- The clear point lies behind every cleat that a gate is at. -/
theorem Configuration.clear_apart {n : Nat} (near : n < cfg.clearDistance) (c : Cleat) :
    c - BitVec.ofNat 8 n ≠ c - BitVec.ofNat 8 cfg.clearDistance := by
  obtain ⟨_, far⟩ := Configuration.clear_bounds bounds
  bv_omega

theorem Configuration.load_apart (c : Cleat) : c ≠ c - BitVec.ofNat 8 cfg.clearDistance := by
  obtain ⟨near, far⟩ := Configuration.clear_bounds bounds
  bv_omega

end Bounds

/-- Where no transfer ends, the landing eye makes the entry check, with the transfer one mark further. -/
theorem State.landingWork_noLanding {s : State} (noLanding : s.noLanding) (item : Bool) :
    ∃ u, Changes [.transfer] s u ∧ s.landingWork item = u.entryCheck item := by
  by_cases under : ∃ r, s.path.transfer = some r ∧ r.stage = .transferring
  · obtain ⟨r, transfer, stage⟩ := under
    exact ⟨_, Changes.transfer s _, State.landingWork_counts transfer stage (noLanding r transfer stage) item⟩
  · exact ⟨s, .refl _ s, State.landingWork_checks (fun r transfer stage => under ⟨r, transfer, stage⟩) item⟩

/-- What a mark writes after the landing eye. -/
@[simp] def tailParts : List Part := gateParts ++ headParts ++ afterParts

theorem State.markTail_changes (s : State) (before : ClaimLink) (home : Bool) :
    Changes tailParts s ((s.gateWork.claimWork before).markEnded home) :=
  (s.gateWork_changes.andThen (State.claimWork_changes _ before) (rs := tailParts)).andThen (State.markEnded_changes _ home)

/-- The clear point takes claims out of their roles and puts none in (03 R46). -/
theorem State.clearWork_claims (s : State) : ∀ p ∈ s.clearWork.path.claims, p ∈ s.path.claims := by
  intro p mem
  unfold State.clearWork at mem
  split at mem
  next c _ =>
    have reported := State.reportBins_changes s.bins (s.changeEntry (c - BitVec.ofNat 8 s.host.cfg.clearDistance) .free)
    have same : (s.clearPoint c).path.claims = (s.changeEntry (c - BitVec.ofNat 8 s.host.cfg.clearDistance) .free).path.claims :=
      reported.keeps .claims
    rw [same] at mem
    exact (List.mem_filter.mp mem).1
  · exact mem

theorem State.hasRole_of_subset {s t : State} {x : Cleat} {r : ClaimRole}
    (sub : ∀ p ∈ t.path.claims, p ∈ s.path.claims) (out : s.hasRole x r = false) : t.hasRole x r = false := by
  simp only [State.hasRole, List.any_eq_false] at out ⊢
  exact fun p mem => out p (sub p mem)

/-- What a mark without a slip writes before the entry check, where no transfer ends. -/
@[simp] def beforeCheckParts : List Part := .transfer :: ([.eyes, .belt, .dutyReports] ++ clearParts)

/-- What a mark without a slip that brings a cleat has done past its clear point. -/
structure State.Clears (s u : State) (c : Cleat) : Prop where
  changes : Changes beforeCheckParts s u
  current : u.belt.current = some c
  duty : u.dutyReports = s.synced
  entries : ∀ x, u.entryAt x = if x = c - BitVec.ofNat 8 s.host.cfg.clearDistance then .free else s.entryAt x
  givenUp : u.path.givenUp = s.path.givenUp ∨ u.path.givenUp = s.path.givenUp.filter u.ownClaim
  claims : ∀ p ∈ u.path.claims, p ∈ s.path.claims
  transferEye : u.eyes.transfer = s.eyes.transfer

section Brings
variable {s : State} {home : Bool} {c : Cleat} (brings : s.belt.brings home c)
include brings

theorem State.mark_clears (item : Bool) : s.Clears (s.markStarted home item).clearWork c := by
  have plain := State.markStarted_plain brings.1 item
  have cleared := State.clearWork_changes (s.markStarted home item)
  have current : (s.markStarted home item).belt.current = some c := by
    rw [State.markStarted_belt]
    exact Belt.moved_of_brings brings
  have listed : (s.markStarted home item).path.givenUp = s.path.givenUp := plain.keeps .givenUp
  have claims : (s.markStarted home item).path.claims = s.path.claims := plain.keeps .claims
  refine ⟨plain.andThen cleared, (congrArg Belt.current (cleared.keeps .belt)).trans current,
    (cleared.keeps .dutyReports).trans (State.markStarted_dutyReports brings.1 item), fun x => ?_, ?_, fun p mem => ?_, ?_⟩
  · rw [State.clearWork_entryAt current, plain.config, plain.entryAt x]
  · rw [← listed]
    exact State.clearWork_givenUp _
  · rw [← claims]
    exact State.clearWork_claims _ p mem
  · refine (congrArg Eyes.transfer (cleared.keeps .eyes)).trans ?_
    have started := congrArg Eyes.transfer (s.markStarted_eyes home item)
    exact started

omit brings in
/-- The landing eye may change the transfer of such a state. -/
theorem State.Clears.moved {u w : State} (h : s.Clears u c) (k : Changes [.transfer] u w) : s.Clears w c := by
  have listed : w.path.givenUp = u.path.givenUp := k.keeps .givenUp
  have claims : w.path.claims = u.path.claims := k.keeps .claims
  have own : w.ownClaim = u.ownClaim := funext fun x => k.ownClaim x
  refine ⟨h.changes.andThen k, (congrArg Belt.current (k.keeps .belt)).trans h.current, (k.keeps .dutyReports).trans h.duty,
    fun x => (k.entryAt x).trans (h.entries x), ?_, ?_, (congrArg Eyes.transfer (k.keeps .eyes)).trans h.transferEye⟩
  · rw [listed, own]
    exact h.givenUp
  · rw [claims]
    exact h.claims

/-- A mark that brings a cleat, and at which no transfer ends, makes the entry check of that cleat. -/
theorem State.mark_checks (on : s.online = true) (noLanding : s.noLanding) (item : Bool) : ∃ u, s.Clears u c
    ∧ u.path.transfer = s.path.transfer.map (fun r =>
        if r.stage = .transferring then { r with landing := r.landing - 1 } else r)
    ∧ exec (mark home item) s = .next (((u.entryCheck item).gateWork.claimWork s.headLink).markEnded home) := by
  have runs := exec_mark on home item
  have clears := State.mark_clears brings item
  have plain := State.markStarted_plain brings.1 item
  have linked : (s.markStarted home item).headLink = s.headLink := by
    have hold : (s.markStarted home item).path.hold = s.path.hold := plain.keeps .hold
    simp only [State.headLink, State.head, hold]
  have transfer : (s.markStarted home item).clearWork.path.transfer = s.path.transfer :=
    ((State.clearWork_changes _).keeps .transfer).trans (plain.keeps .transfer)
  rw [linked, State.workAfter] at runs
  generalize (s.markStarted home item).clearWork = v at runs clears transfer
  have still : v.noLanding := by
    rw [State.noLanding, transfer]
    exact noLanding
  obtain ⟨u, moved, checks⟩ := State.landingWork_noLanding still item
  have counted := State.landingWork_transfer still item
  rw [checks] at runs counted
  refine ⟨u, clears.moved moved, ?_, runs⟩
  rw [← transfer, ← counted]
  exact ((u.entryCheck_changes item).keeps .transfer).symm

end Brings

namespace State.Clears
variable {s u : State} {c : Cleat} (h : s.Clears u c)
include h

theorem entryAt_ahead (bounds : s.host.cfg.MeetsBounds) {n : Nat} (near : n < s.host.cfg.clearDistance) :
    u.entryAt (c - BitVec.ofNat 8 n) = s.entryAt (c - BitVec.ofNat 8 n) := by
  rw [h.entries, if_neg (Configuration.clear_apart bounds near c)]

theorem entryAt_load (bounds : s.host.cfg.MeetsBounds) : u.entryAt c = s.entryAt c := by
  rw [h.entries, if_neg (Configuration.load_apart bounds c)]

theorem not_listed {x : Cleat} (out : s.path.givenUp.contains x = false) : u.path.givenUp.contains x = false := by
  rw [List.contains_eq_mem, decide_eq_false_iff_not] at out ⊢
  rcases h.givenUp with same | filtered
  · rwa [same]
  · rw [filtered]
    exact fun mem => out (List.mem_filter.mp mem).1

theorem not_role {x : Cleat} {r : ClaimRole} (out : s.hasRole x r = false) : u.hasRole x r = false :=
  State.hasRole_of_subset h.claims out

theorem queue : u.line.queue = s.line.queue := h.changes.keeps .queue

theorem synced (synced : s.member = .synced) : u.synced = true := by
  have member : u.member = s.member := h.changes.keeps .member
  simp [State.synced, member, synced]

end State.Clears

end Machine
end Sys2Proof
end

section
/-! PROOF. O13, the statement (01 R16, R17, 03 R57). -/
set_option Elab.async false
namespace Sys2Proof
namespace Machine

/-- The entry check of a SYNCED station, by the entry of the cleat and the level of the landing eye (01 R16). -/
def State.checkEntry (u : State) (c : Cleat) (item : Bool) : State :=
  match u.entryAt c, item with
  | .free, true => (u.queueFrame (.stray c)).raise (.straySeen c)
  | .claimed owner b, _ => if owner = u.station then u.unexpectedClaim c b else u
  | .loaded owner b m, false => u.raise (.lostItem c owner b m)
  | .free, false | .loaded _ _ _, true | .foreign, _ => u

section EntryCheck
variable {u : State} {c : Cleat} (current : u.belt.current = some c) (synced : u.synced = true)
include current synced

theorem State.entryCheck_eq (item : Bool) : u.entryCheck item = u.checkEntry c item := by
  unfold State.entryCheck
  rw [current]
  exact if_pos synced

theorem State.entryCheck_stray (free : u.entryAt c = .free) :
    u.entryCheck true = (u.queueFrame (.stray c)).raise (.straySeen c) := by
  simp only [State.entryCheck_eq current synced, State.checkEntry, free]

theorem State.entryCheck_lost {owner : Nat} {b : BinNo} {m : Material} (loaded : u.entryAt c = .loaded owner b m) :
    u.entryCheck false = u.raise (.lostItem c owner b m) := by
  simp only [State.entryCheck_eq current synced, State.checkEntry, loaded]

theorem State.entryCheck_claim {b : BinNo} (claimed : u.entryAt c = .claimed u.station b) (item : Bool) :
    u.entryCheck item = u.unexpectedClaim c b := by
  simp only [State.entryCheck_eq current synced, State.checkEntry, claimed, if_true]

/-- STRAY SEEN comes of an item on a FREE cleat alone. -/
theorem State.entryCheck_no_stray {item : Bool} (quiet : ¬(u.entryAt c = .free ∧ item = true)) :
    (u.entryCheck item).notices[NoticeKind.straySeen.index] = u.notices[NoticeKind.straySeen.index] := by
  rw [State.entryCheck_eq current synced]
  unfold State.checkEntry
  split
  next free => exact absurd ⟨free, rfl⟩ quiet
  · split
    · exact (u.unexpectedClaim_changes c _).keeps (.notice .straySeen)
    · rfl
  · exact (u.raise_changes _ (k := .lostItem)).keeps (.notice .straySeen)
  all_goals rfl

/-- LOST ITEM comes of a LOADED cleat without an item alone. -/
theorem State.entryCheck_no_lost {item : Bool} (quiet : ¬((∃ owner b m, u.entryAt c = .loaded owner b m) ∧ item = false)) :
    (u.entryCheck item).notices[NoticeKind.lostItem.index] = u.notices[NoticeKind.lostItem.index] := by
  rw [State.entryCheck_eq current synced]
  unfold State.checkEntry
  split
  · exact ((u.queueFrame_changes (.stray c)).andThen (State.raise_changes _ (.straySeen c) (k := .straySeen))
      (rs := [.queue, .notice .lineFault, .notice .straySeen])).keeps (.notice .lostItem)
  · split
    · exact (u.unexpectedClaim_changes c _).keeps (.notice .lostItem)
    · rfl
  next loaded => exact absurd ⟨⟨_, _, _, loaded⟩, rfl⟩ quiet
  all_goals rfl

end EntryCheck

section Unexpected
variable {u : State} {c : Cleat} (unlisted : u.path.givenUp.contains c = false) (free : u.hasRole c .givenUp = false)
include unlisted free

theorem State.unexpectedClaim_eq (b : BinNo) : u.unexpectedClaim c b =
    ((u.queueFrame (.release c)).enterGivenUp c).raise (.mapConflict (.unexpectedClaim c b)) :=
  if_neg (by rw [unlisted, free]; nofun)

theorem State.unexpectedClaim_queues (b : BinNo) (room : u.line.queue.length < Config.queuePlaces) :
    (u.unexpectedClaim c b).queues .release (.cleat c) := by
  rw [State.unexpectedClaim_eq unlisted free]
  exact ((State.enterGivenUp_changes _ c).andThen (State.raise_changes _ (.mapConflict (.unexpectedClaim c b))
    (k := .mapConflict)) (rs := [.givenUp, .notice .mapConflict])).queues (State.queueFrame_queues room)

/-- An unexpected own claim enters the list as a cleat given up does (03 R47). -/
theorem State.unexpectedClaim_givenUp (b : BinNo) :
    (u.unexpectedClaim c b).path.givenUp = (u.giveUp c).path.givenUp := by
  have queued := u.queueFrame_changes (.release c)
  have path : (u.queueFrame (.release c)).path = u.path := queued.path
  have entered := State.enterGivenUp_givenUp (u.queueFrame (.release c)) c
  rw [path, queued.ownClaim c, ← State.giveUp_givenUp] at entered
  rw [State.unexpectedClaim_eq unlisted free]
  exact entered

end Unexpected

/-- Settles O13. -/
theorem entryCheck : Obligations.EntryCheck := by
  intro home item s c member brings bounds noLanding
  obtain ⟨u, clears, _, runs⟩ := State.mark_checks brings (State.online_of_synced member) noLanding item
  have synced := clears.synced member
  have current := clears.current
  have entry := clears.entryAt_load bounds
  have queue : u.line.queue = s.line.queue := clears.queue
  have tail := State.markTail_changes (u.entryCheck item) s.headLink home
  have lists := State.markTail_lists (u.entryCheck item) s.headLink home
  generalize ((u.entryCheck item).gateWork.claimWork s.headLink).markEnded home = t at runs tail lists
  have stray := (tail.keeps (.notice .straySeen))
  have lost := (tail.keeps (.notice .lostItem))
  refine ⟨t, runs, fun free seen => ?_, fun owner b m loaded seen => ?_, fun b claimed unlisted noRole => ?_, fun quiet => ?_,
    fun quiet => ?_⟩
  · subst seen
    have checked := State.entryCheck_stray current synced (entry.trans free)
    rw [checked] at stray lists
    refine ⟨(congrArg NoticeRecord.detail stray).trans (State.raise_noticeOf (k := .straySeen) _ _ rfl), fun room => ?_⟩
    refine lists.frames _ _ nofun ((State.raise_changes _ (.straySeen c) (k := .straySeen)).queues ?_)
    exact State.queueFrame_queues (f := .stray c) (by rw [queue]; exact room)
  · subst seen
    rw [State.entryCheck_lost current synced (entry.trans loaded)] at lost
    exact (congrArg NoticeRecord.detail lost).trans (State.raise_noticeOf (k := .lostItem) _ _ rfl)
  · have station : u.station = s.station := congrArg Configuration.stationNumber clears.changes.config
    have unlisted := clears.not_listed unlisted
    have noRole := clears.not_role noRole
    have conflict := tail.keeps (.notice .mapConflict)
    have own (y : Cleat) := tail.ownClaim y
    rw [State.entryCheck_claim current synced (b := b) (by rw [entry, claimed, station])] at lists conflict own
    have kept := u.unexpectedClaim_changes c b
    refine ⟨(congrArg NoticeRecord.detail conflict).trans ?_, ?_, fun room =>
      lists.frames _ _ nofun (State.unexpectedClaim_queues unlisted noRole b (by rw [queue]; exact room))⟩
    · rw [State.unexpectedClaim_eq unlisted noRole]
      exact State.raise_noticeOf (k := .mapConflict) _ _ rfl
    · exact lists.givesUp (State.givesUp_of clears.givenUp (State.unexpectedClaim_givenUp unlisted noRole b)
        fun y => kept.ownClaim y) own
  · rw [← entry] at quiet
    exact stray.trans ((State.entryCheck_no_stray current synced quiet).trans (clears.changes.keeps (.notice .straySeen)))
  · rw [← entry] at quiet
    exact lost.trans ((State.entryCheck_no_lost current synced quiet).trans (clears.changes.keeps (.notice .lostItem)))

end Machine
end Sys2Proof
end

section
/-! PROOF. The length of the transmit queue through a mark (02 R44), and the entry check's effect on the list of given-up
cleats (03 R47). -/
set_option Elab.async false
namespace Sys2Proof
namespace Machine

-- How far the queue grows (02 R44)

theorem State.enqueue_length (s : State) (f : Frame) :
    (s.enqueue f).1.line.queue.length ≤ max s.line.queue.length f.kind.places := by
  unfold State.enqueue
  dsimp only
  split
  · split
    · exact (List.length_map _).le.trans (le_max_left ..)
    · exact le_max_left ..
  · by_cases full : s.queueFullFor (s.fill f).kind = true
    · rw [if_pos full]
      exact le_max_left ..
    · rw [if_neg full]
      have room : s.line.queue.length < f.kind.places := by
        rw [State.queueFullFor, (s.fill_slot f).1] at full
        simpa using full
      exact (insertFrame_length _ _).le.trans ((Nat.succ_le_of_lt room).trans (le_max_right ..))

theorem State.queueFrame_length (s : State) (f : Frame) :
    (s.queueFrame f).line.queue.length ≤ max s.line.queue.length f.kind.places :=
  (s.queueFrame_queue f).symm ▸ s.enqueue_length f

theorem Changes.queueLength {ps : List Part} {s t : State} (h : Changes ps s t)
    (out : .queue ∉ ps := by simp [NoticeDetail.kind]) : t.line.queue.length = s.line.queue.length :=
  congrArg List.length (h .queue out)

theorem State.giveUp_length (s : State) (x : Cleat) : (s.giveUp x).line.queue.length ≤ s.line.queue.length + 1 := by
  have entered := (State.enterGivenUp_changes (s.queueFrame (.release x)) x).andThen (State.setRole_changes _ x .givenUp)
    (rs := [.givenUp, .claims])
  exact entered.queueLength.le.trans (s.queueFrame_gives _).length

theorem State.unexpectedClaim_length (s : State) (x : Cleat) (b : BinNo) :
    (s.unexpectedClaim x b).line.queue.length ≤ s.line.queue.length + 1 := by
  unfold State.unexpectedClaim
  split
  · exact Nat.le_succ _
  · exact (State.enterGivenUp_changes (s.queueFrame (.release x)) x).queueLength.le.trans (s.queueFrame_gives _).length

/-- The entry check queues one frame at most (01 R16). -/
theorem State.entryCheck_length (s : State) (item : Bool) :
    (s.entryCheck item).line.queue.length ≤ s.line.queue.length + 1 := by
  unfold State.entryCheck
  split
  next c _ =>
    split
    · split
      · exact (s.queueFrame_gives (.stray c)).length
      · split
        · exact s.unexpectedClaim_length c _
        · exact Nat.le_succ _
      all_goals exact Nat.le_succ _
    · exact Nat.le_succ _
  · exact Nat.le_succ _

theorem State.queueLoad_length (s : State) (r : Container) :
    (s.queueLoad r).line.queue.length ≤ s.line.queue.length + 1 := by
  unfold State.queueLoad
  split
  next f x _ _ => exact (State.setRole_changes (s.queueFrame f) x .loading).queueLength.le.trans (s.queueFrame_gives f).length
  · exact Nat.le_succ _

theorem State.landed_length (s : State) (r : Container) : (s.landed r).line.queue.length ≤ s.line.queue.length + 1 := by
  have credited := s.credit_changes (r.code.getD 0) (r.value.getD 0)
  have placed := State.queueLoad_length (s.credit (r.code.getD 0) (r.value.getD 0)) r
  rw [credited.queueLength] at placed
  exact placed

theorem State.notLanded_length (s : State) (r : Container) :
    (s.notLanded r).line.queue.length ≤ s.line.queue.length + 1 := by
  have later := ((s.setTransfer r.notLanded).loseCleat r).losePending_changes
  have lost : ((s.setTransfer r.notLanded).loseCleat r).line.queue.length ≤ s.line.queue.length + 1 := by
    unfold State.loseCleat
    split
    · split
      · exact State.giveUp_length _ _
      · exact Nat.le_succ _
    · exact Nat.le_succ _
  rw [State.notLanded_eq]
  exact later.queueLength.le.trans lost

/-- The landing eye queues one frame at most. -/
theorem State.landingWork_length (s : State) (item : Bool) :
    (s.landingWork item).line.queue.length ≤ s.line.queue.length + 1 := by
  unfold State.landingWork
  split
  next r _ =>
    split
    · dsimp only
      split
      · split
        · exact State.landed_length _ _
        · exact State.notLanded_length _ _
      · exact State.entryCheck_length _ item
    · exact s.entryCheck_length item
  · exact s.entryCheck_length item

/-- The gates fill the queue to its sixth place at most (01 R20, 02 R44). -/
theorem State.gateWork_length (s : State) : s.gateWork.line.queue.length ≤ max s.line.queue.length 6 := by
  have reports (u : State) (g : Gate) (x : Cleat) (fresh : Bool) :
      (u.reportMiss g x fresh).line.queue.length ≤ max u.line.queue.length 6 := by
    unfold State.reportMiss
    split
    · have told : (if fresh then u.queueFrame (.misroute x (gateBin g) 0) else u).line.queue.length ≤
          max u.line.queue.length 6 := by
        split
        · exact u.queueFrame_length _
        · exact le_max_left ..
      generalize (if fresh then u.queueFrame (.misroute x (gateBin g) 0) else u) = v at told
      change (if (v.channel (.gate g)).state = .faulted ∧ v.bins[gateBin g].state = .opened then
        v.queueFrame (.binHold (gateBin g) .gateFault) else v).line.queue.length ≤ _
      split
      · exact (v.queueFrame_length (.binHold (gateBin g) .gateFault)).trans (max_le told (le_max_right _ 6))
      · exact told
    · exact le_max_left ..
  have misses (u : State) (g : Gate) : (u.missGate g).line.queue.length ≤ max u.line.queue.length 6 := by
    unfold State.missGate
    split
    · exact reports _ g _ _
    · exact le_max_left ..
  have checks (c : Cleat) (u : State) (g : Gate) : (u.checkGate c g).line.queue.length ≤ max u.line.queue.length 6 := by
    unfold State.checkGate State.holdGate
    dsimp only
    split
    · split
      · exact le_max_left ..
      · exact misses _ g
    · exact (u.releaseGate_quiet g).queueLength.le.trans (le_max_left ..)
  have all {f : State → Gate → State} (step : ∀ u g, (f u g).line.queue.length ≤ max u.line.queue.length 6) (l : List Gate)
      (u : State) : (l.foldl f u).line.queue.length ≤ max u.line.queue.length 6 := by
    induction l generalizing u with
    | nil => exact le_max_left ..
    | cons g l ih => exact (ih _).trans (max_le (step u g) (le_max_right ..))
  unfold State.gateWork
  split
  · split
    next c _ => exact all (checks c) _ s
    · exact all (fun u g => (u.releaseGate_quiet g).queueLength.le.trans (le_max_left ..)) _ s
  · exact le_max_left ..

-- The list of given-up cleats at the entry check (03 R57)

theorem State.entryCheck_lists (s : State) (item : Bool) : ListsKept s (s.entryCheck item) := by
  unfold State.entryCheck
  split
  next c _ =>
    refine .ite (fun _ => ?_) fun _ => .refl s
    split
    · exact (s.queueFrame_lists _).trans (.of_changes (State.raise_changes _ (.straySeen c) (k := .straySeen)))
    · exact .ite (fun _ => s.unexpectedClaim_lists c _) fun _ => .refl s
    · exact .of_changes (s.raise_changes _ (k := .lostItem))
    all_goals exact .refl s
  · exact .refl s

theorem State.enterGivenUp_length (s : State) (x : Cleat) :
    (s.enterGivenUp x).path.givenUp.length ≤ s.path.givenUp.length + 1 := by
  rw [State.enterGivenUp_givenUp]
  split
  · simp
  · exact Nat.le_succ _

theorem State.unexpectedClaim_entered (s : State) (x : Cleat) (b : BinNo) :
    (s.unexpectedClaim x b).path.givenUp.length ≤ s.path.givenUp.length + 1 := by
  have path : (s.queueFrame (.release x)).path = s.path := (s.queueFrame_changes _).path
  unfold State.unexpectedClaim
  split
  · exact Nat.le_succ _
  · refine (State.enterGivenUp_length (s.queueFrame (.release x)) x).trans ?_
    rw [path]

/-- The entry check gives up the cleat at the load point alone, and only where it is own CLAIMED. -/
theorem State.entryCheck_givenUp {u : State} {c : Cleat} (current : u.belt.current = some c) (item : Bool) :
    (u.entryCheck item).path.givenUp.length ≤ u.path.givenUp.length + 1
      ∧ (u.ownClaim c = false → (u.entryCheck item).path.givenUp = u.path.givenUp) := by
  have same {w : State} (kept : w.path.givenUp = u.path.givenUp) : w.path.givenUp.length ≤ u.path.givenUp.length + 1
      ∧ (u.ownClaim c = false → w.path.givenUp = u.path.givenUp) := ⟨kept ▸ Nat.le_succ _, fun _ => kept⟩
  by_cases synced : u.synced = true
  · rw [State.entryCheck_eq current synced]
    unfold State.checkEntry
    split
    · exact same (((u.queueFrame_changes (.stray c)).andThen (State.raise_changes _ (.straySeen c) (k := .straySeen))
        (rs := [.queue, .notice .lineFault, .notice .straySeen])).keeps .givenUp)
    next _ owner b claimed =>
      split
      next own =>
        refine ⟨u.unexpectedClaim_entered c b, fun free => ?_⟩
        rw [State.ownClaim, claimed, own] at free
        simp [Entry.claimedBy] at free
      · exact same rfl
    all_goals exact same rfl
  · rw [State.entryCheck_of_unsynced (by simpa using synced)]
    exact same rfl

end Machine
end Sys2Proof
end

section
/-! PROOF. O15: a READY head at the mark that brings its cleat to lead CommitLead (03 R56, 06 R112). -/
set_option Elab.async false
namespace Sys2Proof
namespace Machine

-- The head of the hold queue

theorem State.mapHead_same {s : State} {h : Container} {rest : List Container} (hold : s.path.hold = h :: rest)
    {f : Container → Container} (same : f h = h) : s.mapHead f = s := by
  simp only [State.mapHead, hold, same]
  rw [← hold]

section Head
variable {s : State} {h : Container} {rest : List Container} (hold : s.path.hold = h :: rest)
include hold

omit hold in
theorem State.withdrawClaims_length (s : State) (c : Cleat) :
    (s.withdrawClaims c).line.queue.length ≤ s.line.queue.length := by
  have dropped (l : List Cleat) (u : State) : Changes [.hold] u (l.foldl State.dropClaim u) :=
    .foldl _ (fun u x => u.dropClaim_changes x) l u
  exact (dropped _ _).queueLength.le.trans (List.length_filter_le _ _)

/-- A stale CLAIM that is not the head's leaves the head alone (02 R45). -/
theorem State.withdrawClaims_linked (link : h.link ≠ .queued) (c : Cleat) : Changes [.queue] s (s.withdrawClaims c) := by
  have drops (l : List Cleat) (u : State) (hold : u.path.hold = h :: rest) : l.foldl State.dropClaim u = u := by
    induction l with
    | nil => rfl
    | cons x l ih =>
      have same : u.dropClaim x = u := State.mapHead_same hold (if_neg (by simp [link]))
      rw [List.foldl_cons, same, ih]
  have withdrawn := s.withdraw_changes (s.staleClaim c)
  have held : (s.withdraw (s.staleClaim c)).path.hold = h :: rest := hold
  unfold State.withdrawClaims
  dsimp only
  rw [drops _ _ held]
  exact withdrawn

theorem State.headWork_commits (stage : h.stage = .ready) {c x : Cleat} (cleat : h.cleat = some x)
    (lead : (x - c).toNat = s.host.cfg.commitLead) (before : ClaimLink) :
    s.headWork c before = if s.canFire then s.fire h x else s.miss x := by
  have head : s.head = some h := by simp [State.head, hold]
  simp only [State.headWork, head]
  rw [if_pos stage]
  simp only [State.readyHead, cleat]
  exact if_pos lead

end Head

-- The head fires (06 R112)

/-- The record of a head that fires, to land after CommitLead marks. -/
def Container.fired (h : Container) (lead : Nat) : Container :=
  { h with stage := .transferring, link := .none, holdWait := none, landing := lead, trust := true }

/-- The state as a head has fired, before what follows from it. -/
def State.firing (s : State) (h : Container) : State :=
  s.pulseFlap.mapPath fun p =>
    { p with cleared := false, transfer := some (h.fired s.host.cfg.commitLead), hold := nextHead (p.hold.drop 1) }

/-- What follows a firing writes. -/
@[simp] def firedParts : List Part := .claims :: .holdDrive :: jamParts

theorem State.fire_after (s : State) (h : Container) (x : Cleat) : Changes firedParts (s.firing h) (s.fire h x) :=
  ((State.setRole_changes (s.firing h) x .transfer).andThen (State.settleHold_changes _) (rs := firedParts)).andThen
    (State.startHandover_changes _)

theorem State.pulseFlap_of_off {s : State} (off : (s.channel .flap).state = .off) :
    (s.pulseFlap.channel .flap).state = .running ∧ s.pulseFlap.drives.flapTimer = some 0 := by
  have pulsed : s.pulseFlap = { s.mapChannel .flap .request with
      drives := { (s.mapChannel .flap .request).drives with flapTimer := some 0 } } := if_pos off
  have running := (s.channel .flap).request_facts.2.2
  rw [if_pos off] at running
  rw [pulsed]
  exact ⟨running, rfl⟩

/-- The parts of a state that a firing is about. -/
theorem State.fire_facts {s t : State} {h : Container} {rest : List Container} {x : Cleat} (hold : s.path.hold = h :: rest)
    (off : (s.channel .flap).state = .off) (ended : Changes afterParts (s.fire h x) t) :
    t.path.transfer = some (h.fired s.host.cfg.commitLead) ∧ t.path.hold = nextHead rest ∧ t.path.cleared = false
      ∧ (t.channel .flap).state = .running ∧ t.drives.flapTimer = some 0 := by
  have later := (s.fire_after h x).andThen ended (rs := firedParts ++ afterParts)
  obtain ⟨running, timer⟩ := State.pulseFlap_of_off off
  have flap : (t.drives.flap, t.drives.flapTimer) = ((s.firing h).drives.flap, (s.firing h).drives.flapTimer) :=
    later.keeps .flapDrive
  have path : s.pulseFlap.path = s.path := s.pulseFlap_changes.path
  refine ⟨later.keeps .transfer, (later.keeps .hold).trans ?_, later.keeps .cleared,
    (congrArg (fun p => ChannelRecord.state p.1) flap).trans running, (congrArg Prod.snd flap).trans timer⟩
  change nextHead (s.pulseFlap.path.hold.drop 1) = _
  rw [path, hold]
  rfl

-- The head misses (03 R56)

theorem State.miss_facts {s t : State} {h : Container} {rest : List Container} {x : Cleat} (hold : s.path.hold = h :: rest)
    (ended : Changes afterParts (s.miss x) t) :
    t.path.hold = h.unlinked (some 0) :: rest ∧ t.path.transfer = s.path.transfer ∧ t.path.cleared = s.path.cleared
      ∧ t.drives.flap = s.drives.flap ∧ t.path.givenUp = (s.giveUp x).path.givenUp := by
  have given := s.giveUp_changes x
  have whole := (s.miss_changes x).andThen ended (rs := .hold :: giveUpParts ++ afterParts)
  have held : (s.giveUp x).path.hold = h :: rest := (given.keeps .hold).trans hold
  have missed := State.mapHead_cons held fun h => h.unlinked (some 0)
  have list := congrArg Path.givenUp missed
  exact ⟨(ended.keeps .hold).trans (congrArg Path.hold missed), whole.keeps .transfer, whole.keeps .cleared,
    congrArg Prod.fst (whole.keeps .flapDrive), (ended.keeps .givenUp).trans list⟩

theorem State.miss_queues {s : State} {x : Cleat} (room : s.line.queue.length < Config.queuePlaces) :
    (s.miss x).queues .release (.cleat x) :=
  (State.mapHead_changes _ _).queues (State.giveUp_queues room)

-- The statement

/-- What a mark without a slip writes before the head, where no transfer ends. -/
@[simp] def beforeHeadParts : List Part := beforeCheckParts ++ checkParts ++ gateParts

/-- A READY head at the commit point finds the state after the gates, but for a stale CLAIM. -/
structure State.Commits (s w : State) (item : Bool) (c : Cleat) : Prop where
  changes : Changes beforeHeadParts s w
  transferEye : w.eyes.transfer = s.eyes.transfer
  transfer : w.path.transfer =
    s.path.transfer.map fun r => if r.stage = .transferring then { r with landing := r.landing - 1 } else r
  givenUp : ∃ u, s.Clears u c ∧ w.path.givenUp = (u.entryCheck item).path.givenUp
    ∧ w.line.queue.length ≤ max (u.entryCheck item).line.queue.length 6 ∧ ∀ y, w.ownClaim y = u.ownClaim y

theorem State.mark_commits {s : State} {home item : Bool} {c x : Cleat} {h : Container} {rest : List Container}
    (on : s.online = true) (brings : s.belt.brings home c) (noLanding : s.noLanding) (hold : s.path.hold = h :: rest)
    (stage : h.stage = .ready) (link : h.link = .held) (cleat : h.cleat = some x)
    (lead : (x - c).toNat = s.host.cfg.commitLead) : ∃ w, s.Commits w item c
      ∧ exec (mark home item) s = .next ((if w.canFire then w.fire h x else w.miss x).markEnded home) := by
  obtain ⟨u, clears, transfer, runs⟩ := State.mark_checks brings on noLanding item
  have checked := u.entryCheck_changes item
  have gated := (u.entryCheck item).gateWork_changes
  have length := (u.entryCheck item).gateWork_length
  have work := (clears.changes.andThen checked (rs := beforeCheckParts ++ checkParts)).andThen gated (rs := beforeHeadParts)
  have current : (u.entryCheck item).gateWork.belt.current = some c :=
    (congrArg Belt.current ((checked.andThen gated (rs := checkParts ++ gateParts)).keeps .belt)).trans clears.current
  have slot : (u.entryCheck item).gateWork.path.transfer = u.path.transfer :=
    (checked.andThen gated (rs := checkParts ++ gateParts)).keeps .transfer
  have eyes : (u.entryCheck item).gateWork.eyes = u.eyes :=
    (checked.andThen gated (rs := checkParts ++ gateParts)).keeps .eyes
  have listed : (u.entryCheck item).gateWork.path.givenUp = (u.entryCheck item).path.givenUp := gated.keeps .givenUp
  have own (y : Cleat) : (u.entryCheck item).gateWork.ownClaim y = u.ownClaim y :=
    (checked.andThen gated (rs := checkParts ++ gateParts)).ownClaim y
  generalize (u.entryCheck item).gateWork = g at runs gated length work current slot eyes listed own
  have held : g.path.hold = h :: rest := (work.keeps .hold).trans hold
  have withdrawn := State.withdrawClaims_linked held (by rw [link]; nofun) c
  have shorter := g.withdrawClaims_length c
  have committed : g.claimWork s.headLink = (g.withdrawClaims c).headWork c s.headLink := by
    simp only [State.claimWork, current]
  rw [committed] at runs
  generalize g.withdrawClaims c = w at runs withdrawn shorter
  have whole := work.andThen withdrawn (rs := beforeHeadParts)
  rw [State.headWork_commits ((withdrawn.keeps .hold).trans held) stage cleat (by rw [lead, whole.config])] at runs
  have seen : w.eyes = u.eyes := (withdrawn.keeps .eyes).trans eyes
  refine ⟨w, ⟨whole, (congrArg Eyes.transfer seen).trans clears.transferEye, ?_, u, clears, ?_, shorter.trans length, fun y => (withdrawn.ownClaim y).trans (own y)⟩, runs⟩
  · exact (withdrawn.keeps .transfer).trans (slot.trans transfer)
  · exact (withdrawn.keeps .givenUp).trans listed

theorem State.canFire_iff (s : State) : s.canFire = true ↔
    s.eyes.transfer = true ∧ s.path.cleared = true ∧ (s.channel .flap).state = .off ∧ s.path.transfer = none := by
  simp [State.canFire, and_assoc]

namespace State.Commits
variable {s w : State} {item : Bool} {c : Cleat} (commits : s.Commits w item c)
include commits

theorem flap : w.channel .flap = s.channel .flap := congrArg Prod.fst (commits.changes.keeps .flapDrive)

/-- The head fires where it could at the start of the mark (06 R112). -/
theorem canFire : w.canFire = true ↔
    s.eyes.transfer = true ∧ s.path.cleared = true ∧ (s.channel .flap).state = .off ∧ s.path.transfer = none := by
  have cleared : w.path.cleared = s.path.cleared := commits.changes.keeps .cleared
  rw [State.canFire_iff, commits.transferEye, cleared, commits.flap, commits.transfer, Option.map_eq_none_iff]

/-- The missed cleat is given up, unless an unexpected own claim at the load point has just filled the list (03 R47). -/
theorem givesUp {t : State} {x : Cleat} (entered : t.path.givenUp = (w.giveUp x).path.givenUp)
    (own : ∀ y, t.ownClaim y = w.ownClaim y) :
    (s.path.givenUp = [] ∨ w.ownClaim c = false → s.givesUp t x) ∧ (2 ≤ s.path.givenUp.length → s.givesUp t x) := by
  obtain ⟨u, clears, listed, _, same⟩ := commits.givenUp
  have checked := State.entryCheck_givenUp clears.current item
  have pruned := clears.givenUp
  refine ⟨?_, fun full => ⟨fun room => by omega, fun _ claimed => ?_⟩⟩
  · rintro (empty | free)
    · refine ⟨fun _ claimed => ?_, fun full => by rw [empty] at full; simp at full⟩
      have none_ : u.path.givenUp = [] := by simpa [empty] using pruned
      rw [← listed, none_] at checked
      rw [entered, State.giveUp_givenUp]
      split
      · simp
      next out =>
        by_contra absent
        exact out ⟨Nat.lt_succ_of_le checked.1, (own x).symm.trans claimed, absent⟩
    · rw [same] at free
      have kept : w.path.givenUp = u.path.givenUp := listed.trans (checked.2 free)
      refine State.givesUp_of (v := w) ?_ entered own
      rw [kept, funext same]
      exact pruned
  · have whole : u.path.givenUp = s.path.givenUp := pruned.elim id fun filtered => filtered.trans
      (List.filter_eq_self.mpr fun y mem => ((same y).symm.trans (own y).symm).trans (claimed y mem))
    have kept := (u.entryCheck_lists item).full (by rwa [whole])
    rw [entered, State.giveUp_givenUp, listed, kept, whole, if_neg fun h => absurd h.1 (by omega)]

theorem ownClaim_load (bounds : s.host.cfg.MeetsBounds) : w.ownClaim c = s.ownClaim c := by
  obtain ⟨u, clears, _, _, same⟩ := commits.givenUp
  rw [same, State.ownClaim, State.ownClaim, clears.entryAt_load bounds, State.station, State.station, clears.changes.config]

theorem room (few : s.line.queue.length < 7) : w.line.queue.length < Config.queuePlaces := by
  obtain ⟨u, clears, _, length, _⟩ := commits.givenUp
  have checked := u.entryCheck_length item
  rw [clears.queue] at checked
  exact lt_of_le_of_lt length (max_lt (by unfold Config.queuePlaces; omega) (by decide))

end State.Commits

/-- Settles O15. -/
theorem readyHeadFiresOrMisses : Obligations.ReadyHeadFiresOrMisses := by
  intro home item s c x h rest on brings bounds noLanding hold stage link cleat lead
  obtain ⟨w, commits, runs⟩ := State.mark_commits (item := item) on brings noLanding hold stage link cleat lead
  have held : w.path.hold = h :: rest := (commits.changes.keeps .hold).trans hold
  have cfg := commits.changes.config
  refine ⟨_, runs, fun eye cleared off empty => ?_, fun stays => ?_⟩
  · rw [if_pos (commits.canFire.mpr ⟨eye, cleared, off, empty⟩)]
    have ended := (w.fire h x).markEnded_changes home
    obtain ⟨transfer, queue, cleared, running, timer⟩ := State.fire_facts held (by rw [commits.flap, off]) ended
    rw [cfg] at transfer
    exact ⟨transfer, queue, cleared, running, timer⟩
  · rw [if_neg fun fires => by
      obtain ⟨eye, cleared, off, empty⟩ := commits.canFire.mp fires
      simp [eye, cleared, off, empty] at stays]
    have ended := (w.miss x).markEnded_changes home
    have lists := State.markEnded_lists (w.miss x) home
    have own (y : Cleat) := ((w.miss_changes x).andThen ended (rs := .hold :: giveUpParts ++ afterParts)).ownClaim y
    obtain ⟨queue, transfer, cleared, flap, entered⟩ := State.miss_facts held ended
    obtain ⟨empty, full⟩ := commits.givesUp entered own
    have kept := congrArg Prod.fst (commits.changes.keeps .flapDrive)
    refine ⟨transfer.trans commits.transfer, queue, cleared.trans (commits.changes.keeps .cleared), flap.trans kept,
      fun short => empty (short.imp_right fun free => (commits.ownClaim_load bounds).trans free), full, fun few =>
      lists.frames _ _ nofun (State.miss_queues (commits.room few))⟩

end Machine
end Sys2Proof
end

section
/-! PROOF. O14: the gate check of a mark (01 R18 to R20). -/
set_option Elab.async false
namespace Sys2Proof
namespace Machine

-- One gate (01 R19)

/-- A gate's channel and interval. -/
def State.gateView (s : State) (g : Gate) : ChannelRecord × Option GateInterval := (s.channel (.gate g), s.gates[g])

theorem Changes.gateView {ps : List Part} {s t : State} (h : Changes ps s t) (g : Gate)
    (drives : .gateDrives ∉ ps := by simp [NoticeDetail.kind]) (gates : .gates ∉ ps := by simp [NoticeDetail.kind]) :
    t.gateView g = s.gateView g := by
  have same : t.gates = s.gates := h .gates gates
  simp only [State.gateView, h.channel (.gate g) drives, same]

/-- A channel that is asked for. -/
def ChannelRecord.asked (r : ChannelRecord) : ChannelRecord := if r.standing then r else r.request

theorem ChannelRecord.asked_facts (r : ChannelRecord) : r.asked.standing = true
    ∧ (r.state = .off → r.standing = false → r.asked.state = .running) ∧ (r.state ≠ .off → r.asked.state = r.state) := by
  obtain ⟨stands, _, state⟩ := r.request_facts
  unfold ChannelRecord.asked
  split
  next standing => exact ⟨standing, fun _ out => absurd (standing.symm.trans out) nofun, fun _ => rfl⟩
  · exact ⟨stands, fun off _ => by rw [state, if_pos off], fun on => by rw [state, if_neg on]⟩

/-- The gate is asked for with a new interval, before its cleat may count as missed. -/
def State.askGate (s : State) (g : Gate) (x : Cleat) : State :=
  let s := s.mapChannel (.gate g) ChannelRecord.asked
  { s with gates := s.gates.set g.val (some { cleat := x, missed := false }) g.isLt }

theorem State.holdGate_eq (s : State) (g : Gate) (x : Cleat) : s.holdGate g x =
    if ((s.askGate g x).channel (.gate g)).state.driven then s.askGate g x else (s.askGate g x).missGate g := rfl

theorem State.askGate_changes (s : State) (g : Gate) (x : Cleat) :
    Changes [.gateDrives, .gates] s (s.askGate g x) :=
  (s.mapChannel_changes (.gate g) ChannelRecord.asked).andThen (Changes.gates _ _)

theorem State.askGate_view (s : State) (g : Gate) (x : Cleat) :
    (s.askGate g x).gateView g = ((s.channel (.gate g)).asked, some { cleat := x, missed := false }) := by
  have channel : (s.askGate g x).channel (.gate g) = (s.channel (.gate g)).asked := s.channel_mapChannel (.gate g) _
  rw [State.gateView, channel]
  exact congrArg (Prod.mk _) (Vector.getElem_set_self _)

theorem State.missGate_view (s : State) (g : Gate) :
    (s.missGate g).gateView g = (s.channel (.gate g), s.gates[g].map GateInterval.marked) := by
  rw [State.gateView, State.missGate_gates, if_pos rfl, (s.missGate_changes g).channel (.gate g)]

/-- A gate that is asked for: its cleat counts as missed where its channel is not driven (01 R20). -/
theorem State.holdGate_view (s : State) (g : Gate) (x : Cleat) : (s.holdGate g x).gateView g =
    ((s.channel (.gate g)).asked, some { cleat := x, missed := !(s.channel (.gate g)).asked.state.driven }) := by
  have view := s.askGate_view g x
  have channel : (s.askGate g x).channel (.gate g) = (s.channel (.gate g)).asked := congrArg Prod.fst view
  have gates : (s.askGate g x).gates[g] = some { cleat := x, missed := false } := congrArg Prod.snd view
  rw [State.holdGate_eq, channel]
  split
  next driven => rw [view, driven]; rfl
  next idle =>
    rw [State.missGate_view, channel, gates, Bool.eq_false_iff.mpr idle]
    rfl

theorem State.releaseGate_view (s : State) (g : Gate) :
    ((s.releaseGate g).gateView g).1.standing = false ∧ ((s.releaseGate g).gateView g).2 = none := by
  have channel : (s.releaseGate g).channel (.gate g) =
      if (s.channel (.gate g)).standing then (s.channel (.gate g)).withdraw else s.channel (.gate g) :=
    s.channel_mapChannel (.gate g) _
  refine ⟨(congrArg ChannelRecord.standing channel).trans ?_, Vector.getElem_set_self _⟩
  split
  · exact (s.channel (.gate g)).withdraw_state.1
  next idle => exact Bool.eq_false_iff.mpr idle

-- The gates beside it

theorem State.askGate_other (s : State) {g k : Gate} (other : g ≠ k) (x : Cleat) :
    (s.askGate k x).gateView g = s.gateView g := by
  have apart : ¬k.val = g.val := fun same => other (Fin.ext same.symm)
  have channel : (s.askGate k x).channel (.gate g) = s.channel (.gate g) :=
    s.channel_mapChannel_other _ fun same => other (Channel.gate.inj same)
  have gates : (s.askGate k x).gates[g] = s.gates[g] := Vector.getElem_set_ne k.isLt g.isLt apart
  simp only [State.gateView, channel, gates]

theorem State.releaseGate_other (s : State) {g k : Gate} (other : g ≠ k) : (s.releaseGate k).gateView g = s.gateView g := by
  have apart : ¬k.val = g.val := fun same => other (Fin.ext same.symm)
  have channel : (s.releaseGate k).channel (.gate g) = s.channel (.gate g) :=
    s.channel_mapChannel_other _ fun same => other (Channel.gate.inj same)
  have gates : (s.releaseGate k).gates[g] = s.gates[g] := Vector.getElem_set_ne k.isLt g.isLt apart
  simp only [State.gateView, channel, gates]

theorem State.missGate_other (s : State) {g k : Gate} (other : g ≠ k) : (s.missGate k).gateView g = s.gateView g := by
  rw [State.gateView, State.missGate_gates, if_neg other, (s.missGate_changes k).channel (.gate g)]
  rfl

theorem State.checkGate_other (s : State) {g k : Gate} (other : g ≠ k) (c : Cleat) :
    (s.checkGate c k).gateView g = s.gateView g := by
  unfold State.checkGate
  dsimp only
  split
  · rw [State.holdGate_eq]
    split
    · exact s.askGate_other other _
    · exact (State.missGate_other _ other).trans (s.askGate_other other _)
  · exact s.releaseGate_other other

-- The gates in the order of their numbers

/-- The gate is asked for with current cleat `c`. -/
def State.gateAsked (s : State) (c : Cleat) (g : Gate) : Bool :=
  (s.entryAt (c - BitVec.ofNat 8 s.host.cfg.gateDistance[g])).loadedFor (gateBin g)

theorem State.checkGate_eq (s : State) (c : Cleat) (g : Gate) : s.checkGate c g = if s.gateAsked c g then
    s.holdGate g (c - BitVec.ofNat 8 s.host.cfg.gateDistance[g]) else s.releaseGate g := rfl

theorem Changes.gateAsked {ps : List Part} {s t : State} (h : Changes ps s t) (c : Cleat) (g : Gate)
    (map : .map ∉ ps := by simp [NoticeDetail.kind]) (cfg : .cfg ∉ ps := by simp [NoticeDetail.kind]) :
    t.gateAsked c g = s.gateAsked c g := by
  simp only [State.gateAsked, h.config cfg, h.entryAt _ map]

section Fold
variable (c : Cleat)

theorem State.checkGates_changes (l : List Gate) (s : State) : Changes gateParts s (l.foldl (State.checkGate c) s) :=
  .foldl _ (fun u g => u.checkGate_changes c g) l s

theorem State.checkGates_other {g : Gate} (l : List Gate) (out : g ∉ l) (s : State) :
    (l.foldl (State.checkGate c) s).gateView g = s.gateView g := by
  induction l generalizing s with
  | nil => rfl
  | cons k l ih =>
    rw [List.mem_cons, not_or] at out
    obtain ⟨other, out⟩ := out
    exact (ih out _).trans (s.checkGate_other other c)

/-- Gates that are not asked for queue nothing. -/
theorem State.checkGates_queue (l : List Gate) (s : State) (quiet : ∀ k ∈ l, s.gateAsked c k = false) :
    (l.foldl (State.checkGate c) s).line.queue = s.line.queue := by
  induction l generalizing s with
  | nil => rfl
  | cons k l ih =>
    obtain ⟨unasked, quiet⟩ := List.forall_mem_cons.mp quiet
    have released : s.checkGate c k = s.releaseGate k := by
      rw [State.checkGate_eq, unasked]
      rfl
    have kept := s.releaseGate_quiet k
    rw [List.foldl_cons, released, ih _ fun k mem => (kept.gateAsked c k).trans (quiet k mem)]
    exact kept.keeps .queue

end Fold

/-- The check of one gate among the eight. -/
theorem State.gateWork_at {s : State} {c : Cleat} (current : s.belt.current = some c)
    (duty : s.host.cfg.hasSortDuty = true) (g : Gate) : ∃ v, Changes gateParts s v ∧ v.gateView g = s.gateView g
      ∧ s.gateWork.gateView g = (v.checkGate c g).gateView g ∧ ListsKept (v.checkGate c g) s.gateWork
      ∧ ((∀ k, k ≠ g → s.gateAsked c k = false) → v.line.queue = s.line.queue) := by
  obtain ⟨pre, post, gates⟩ := List.append_of_mem (List.mem_finRange g)
  have distinct := List.nodup_finRange 8
  rw [gates, List.nodup_middle, List.nodup_cons] at distinct
  obtain ⟨fresh, _⟩ := distinct
  rw [List.mem_append, not_or] at fresh
  obtain ⟨before, after⟩ := fresh
  have works : s.gateWork = post.foldl (State.checkGate c) ((pre.foldl (State.checkGate c) s).checkGate c g) := by
    simp only [State.gateWork, duty, if_true, current, gates, List.foldl_append, List.foldl_cons]
  refine ⟨pre.foldl (State.checkGate c) s, State.checkGates_changes c pre s, State.checkGates_other c pre before s, ?_, ?_,
    fun others => State.checkGates_queue c pre s fun k mem => others k fun same => before (same ▸ mem)⟩
  · rw [works]
    exact State.checkGates_other c post after _
  · rw [works]
    exact .foldl (fun u k => u.checkGate_lists c k) post _

/-- The miss of a gate that is asked for but not driven queues its frames (01 R20). -/
theorem State.holdGate_queues {s : State} {g : Gate} {x : Cleat} (reports : s.reportsDuty = true)
    (idle : (s.channel (.gate g)).state = .coolOff ∨ (s.channel (.gate g)).state = .faulted
      ∨ (s.channel (.gate g)).state = .cut) (room : s.line.queue.length < 5) :
    (s.holdGate g x).queues .misroute (.cleat x)
      ∧ ((s.channel (.gate g)).state = .faulted → s.bins[g.succ].state = .opened →
        (s.holdGate g x).queues .binHold (.bin g.succ)) := by
  have view := s.askGate_view g x
  have kept := s.askGate_changes g x
  have state : ((s.askGate g x).channel (.gate g)).state = (s.channel (.gate g)).state := by
    have channel : (s.askGate g x).channel (.gate g) = (s.channel (.gate g)).asked := congrArg Prod.fst view
    rw [channel]
    refine (s.channel (.gate g)).asked_facts.2.2 fun off => ?_
    rw [off] at idle
    simp at idle
  have missed : s.holdGate g x = (s.askGate g x).missGate g := by
    refine (s.holdGate_eq g x).trans (if_neg ?_)
    rw [state]
    rcases idle with state | state | state <;> simp [state, ChannelState.driven]
  have queue := kept.queueLength
  obtain ⟨misroute, hold⟩ := State.missGate_queues (kept.reportsDuty.trans reports) (congrArg Prod.snd view) rfl
    (by unfold Config.queuePlacesOther; omega)
  rw [missed]
  refine ⟨misroute, fun faulted opened => hold (by omega) (state.trans faulted) ?_⟩
  rw [kept.binState]
  exact opened

-- The statement

theorem Configuration.gate_near {cfg : Configuration} (bounds : cfg.MeetsBounds) (k : Gate) :
    cfg.gateDistance[k] < cfg.clearDistance := by
  obtain ⟨_, _, ⟨near, _⟩, _, _, _, _, _, gates, _⟩ := bounds
  have := (gates k).2
  omega

/-- A mark that brings a cleat, as far as the gates. -/
theorem State.mark_gates {s : State} {home : Bool} {c : Cleat} (on : s.online = true) (brings : s.belt.brings home c)
    (item : Bool) : ∃ u, s.Clears u c ∧ exec (mark home item) s =
      .next ((((u.landingWork item).gateWork).claimWork (s.markStarted home item).headLink).markEnded home) :=
  ⟨_, State.mark_clears brings item, exec_mark on home item⟩

/-- Settles O14. -/
theorem gateCheck : Obligations.GateCheck := by
  intro home item s c g on brings bounds at_ asked
  obtain ⟨u, clears, runs⟩ := State.mark_gates on brings item
  have landed := u.landingWork_changes item
  have before := clears.changes.andThen landed (rs := beforeCheckParts ++ landingParts)
  have length := u.landingWork_length item
  rw [clears.queue] at length
  have current : (u.landingWork item).belt.current = some c :=
    (congrArg Belt.current (landed.keeps .belt)).trans clears.current
  have duty : (u.landingWork item).dutyReports = s.synced := (landed.keeps .dutyReports).trans clears.duty
  have asks (k : Gate) : (u.landingWork item).gateAsked c k = asked k := by
    rw [landed.gateAsked, State.gateAsked, clears.changes.config,
      clears.entryAt_ahead bounds (Configuration.gate_near bounds k)]
    rfl
  generalize u.landingWork item = w at runs before length current duty asks
  have tail := (State.claimWork_changes w.gateWork (s.markStarted home item).headLink).andThen
    (State.markEnded_changes _ home) (rs := headParts ++ afterParts)
  have lists := (State.claimWork_lists w.gateWork (s.markStarted home item).headLink).trans (State.markEnded_lists _ home)
  have view := before.gateView g
  have ended := tail.gateView g
  generalize (w.gateWork.claimWork (s.markStarted home item).headLink).markEnded home = t at runs tail lists ended
  have cfg := before.config
  refine ⟨t, runs, fun none_ => ?_, fun on_ asksFor => ?_, fun on_ unasked => ?_, fun on_ asksFor synced others idle few => ?_⟩
  · have still : w.gateWork = w := if_neg (by simp [Configuration.hasSortDuty, cfg, none_])
    have same := ended.trans ((congrArg (fun v : State => v.gateView g) still).trans view)
    exact ⟨congrArg Prod.fst same, congrArg Prod.snd same⟩
  all_goals
    have sorts : w.host.cfg.hasSortDuty = true := by simp [Configuration.hasSortDuty, cfg, on_]
    obtain ⟨v, gates, kept, checked, queued, quiet⟩ := State.gateWork_at current sorts g
    have found := kept.trans view
    have channel : v.channel (.gate g) = s.channel (.gate g) := congrArg Prod.fst found
    have vasks : v.gateAsked c g = asked g := (gates.gateAsked c g).trans (asks g)
    have same := ended.trans checked
    have holds (asksFor : asked g = true) : v.checkGate c g = v.holdGate g (at_ g) := by
      rw [State.checkGate_eq, vasks, asksFor, gates.config, cfg]
      rfl
  · obtain ⟨stands, starts, _⟩ := (s.channel (.gate g)).asked_facts
    rw [holds asksFor, State.holdGate_view, channel] at same
    have drive : t.channel (.gate g) = (s.channel (.gate g)).asked := congrArg Prod.fst same
    have interval := congrArg Prod.snd same
    rw [drive]
    exact ⟨stands, starts, _, interval, rfl, rfl⟩
  · have releases : v.checkGate c g = v.releaseGate g := by
      rw [State.checkGate_eq, vasks, unasked]
      rfl
    obtain ⟨rests, none_⟩ := v.releaseGate_view g
    rw [releases] at same
    have drive : t.channel (.gate g) = ((v.releaseGate g).gateView g).1 := congrArg Prod.fst same
    have interval : t.gates[g] = ((v.releaseGate g).gateView g).2 := congrArg Prod.snd same
    exact ⟨by rw [drive, rests], by rw [interval, none_]⟩
  · have member : v.member = .synced := (gates.keeps .member).trans ((before.keeps .member).trans synced)
    have reports : v.reportsDuty = true := by
      have noted : v.dutyReports = s.synced := (gates.keeps .dutyReports).trans duty
      simp [State.reportsDuty, State.synced, member, noted, synced]
    have queue := quiet fun k other => (asks k).trans (others k other)
    obtain ⟨misroute, hold⟩ := State.holdGate_queues (x := at_ g) reports (by rw [channel]; exact idle) (by
      rw [queue]
      omega)
    have tailed := queued.trans lists
    rw [holds asksFor] at tailed
    refine ⟨tailed.frames _ _ nofun misroute, fun faulted opened => tailed.frames _ _ nofun (hold (by rw [channel, faulted]) ?_)⟩
    have bins : v.bins[g.succ].state = s.bins[g.succ].state :=
      (before.andThen gates (rs := beforeCheckParts ++ landingParts ++ gateParts)).binState (b := g.succ)
    exact bins.trans opened

end Machine
end Sys2Proof
end

section
/-! PROOF. O16, the choice of a cleat (03 R49, R50). -/
set_option Elab.async false
namespace Sys2Proof
namespace Machine

-- The cleats that qualify (03 R49)

/-- A cleat qualifies for the choice with CommitLead as given: it is FREE, no queued CLAIM names it, and it follows every own
claim in a role. -/
def State.fits (s : State) (lead : Nat) (x : Cleat) : Prop :=
  s.entryAt x = .free
    ∧ (∀ g ∈ s.line.queue, ∀ b u, g.frame ≠ .claim x b u)
    ∧ ∀ y r, (y, r) ∈ s.path.claims → s.ownClaim y = true → lead + 1 ≤ (x - y).toNat

theorem State.mem_queuedClaims (s : State) (x : Cleat) :
    x ∈ s.queuedClaims ↔ ∃ g ∈ s.line.queue, ∃ b u, g.frame = .claim x b u := by
  rw [State.queuedClaims, List.mem_filterMap]
  refine exists_congr fun g => and_congr_right fun _ => ?_
  cases frame : g.frame <;> simp

theorem State.mem_roleClaims (s : State) (y : Cleat) :
    y ∈ s.roleClaims ↔ (∃ r, (y, r) ∈ s.path.claims) ∧ s.ownClaim y = true := by
  simp [State.roleClaims]

theorem State.qualifies_iff (s : State) (x : Cleat) : s.qualifies x = true ↔ s.fits s.host.cfg.commitLead x := by
  have unnamed : (!s.queuedClaims.contains x) = true ↔ ∀ g ∈ s.line.queue, ∀ b u, g.frame ≠ .claim x b u := by
    rw [Bool.not_eq_true', List.contains_eq_mem, decide_eq_false_iff_not, State.mem_queuedClaims]
    simp only [not_exists, not_and, ne_eq]
  have behind : (s.roleClaims.all fun y => decide (s.host.cfg.commitLead + 1 ≤ (x - y).toNat)) = true ↔
      ∀ y r, (y, r) ∈ s.path.claims → s.ownClaim y = true → s.host.cfg.commitLead + 1 ≤ (x - y).toNat := by
    simp only [List.all_eq_true, decide_eq_true_eq, State.mem_roleClaims]
    exact ⟨fun all y r mem own => all y ⟨⟨r, mem⟩, own⟩, fun all y ⟨⟨r, mem⟩, own⟩ => all y r mem own⟩
  rw [State.qualifies, Bool.and_eq_true, Bool.and_eq_true, unnamed, behind, beq_iff_eq, and_assoc]
  rfl

-- The first cleat that qualifies (03 R49)

theorem Cleat.lead_add {n : Nat} (small : n < 256) (c : Cleat) : (c + BitVec.ofNat 8 n - c).toNat = n := by
  bv_omega

/-- The cleats in increasing lead from MinLead to MaxLead. -/
def Configuration.leads (cfg : Configuration) (c : Cleat) : List Cleat :=
  (List.range' cfg.minLead (cfg.maxLead + 1 - cfg.minLead)).map fun n => c + BitVec.ofNat 8 n

theorem State.chosenCleat_eq (s : State) (c : Cleat) : s.chosenCleat c = (Configuration.leads s.host.cfg c).find? s.qualifies := rfl

section Choice
variable {s : State} {c : Cleat}

theorem State.chosenCleat_none (unchosen : s.chosenCleat c = none) (n : Nat) (low : s.host.cfg.minLead ≤ n)
    (high : n ≤ s.host.cfg.maxLead) : ¬s.fits s.host.cfg.commitLead (c + BitVec.ofNat 8 n) := by
  rw [State.chosenCleat_eq, List.find?_eq_none] at unchosen
  rw [← State.qualifies_iff]
  refine unchosen _ (List.mem_map.mpr ⟨n, List.mem_range'_1.mpr ⟨low, ?_⟩, rfl⟩)
  omega

theorem State.chosenCleat_some (bounds : s.host.cfg.MeetsBounds) {x : Cleat} (chosen : s.chosenCleat c = some x) :
    s.host.cfg.minLead ≤ (x - c).toNat ∧ (x - c).toNat ≤ s.host.cfg.maxLead ∧ s.fits s.host.cfg.commitLead x
      ∧ ∀ n, s.host.cfg.minLead ≤ n → n < (x - c).toNat → ¬s.fits s.host.cfg.commitLead (c + BitVec.ofNat 8 n) := by
  obtain ⟨_, _, _, _, _, ⟨_, far, _⟩, _⟩ := bounds
  rw [State.chosenCleat_eq, List.find?_eq_some_iff_getElem] at chosen
  obtain ⟨fits, i, inside, at_, before⟩ := chosen
  have place : i < s.host.cfg.maxLead + 1 - s.host.cfg.minLead := by simpa [Configuration.leads] using inside
  have nth (j : Nat) (small : j < (Configuration.leads s.host.cfg c).length) :
      (Configuration.leads s.host.cfg c)[j] = c + BitVec.ofNat 8 (s.host.cfg.minLead + j) := by
    simp [Configuration.leads]
  rw [nth] at at_
  have lead : (x - c).toNat = s.host.cfg.minLead + i := by
    rw [← at_]
    exact Cleat.lead_add (by omega) c
  refine ⟨by omega, by omega, (s.qualifies_iff x).mp fits, fun n low earlier => ?_⟩
  have skipped := before (n - s.host.cfg.minLead) (by omega)
  rw [nth, Nat.add_sub_cancel' low] at skipped
  rw [← State.qualifies_iff]
  simpa using skipped

end Choice

-- The CLAIM of the chosen cleat (03 R50)

/-- What a head that may choose comes to, in the cleats as it finds them. -/
def State.claimsFor (t : State) (cfg : Configuration) (c : Cleat) (rest : List Container) (d : BinNo) (h : Container) : Prop :=
  (∃ x, t.path.hold = { h with link := .queued, cleat := some x } :: rest
    ∧ (∃ g ∈ t.line.queue, ∃ u, g.frame = .claim x d u) ∧ t.entryAt x = .free
    ∧ cfg.minLead ≤ (x - c).toNat ∧ (x - c).toNat ≤ cfg.maxLead
    ∧ (∀ y r, (y, r) ∈ t.path.claims → t.ownClaim y = true → cfg.commitLead + 1 ≤ (x - y).toNat)
    ∧ ∀ n, cfg.minLead ≤ n → n < (x - c).toNat → ¬t.fits cfg.commitLead (c + BitVec.ofNat 8 n))
  ∨ (t.path.hold = h :: rest
    ∧ ∀ n, cfg.minLead ≤ n → n ≤ cfg.maxLead → ¬t.fits cfg.commitLead (c + BitVec.ofNat 8 n))

/-- A CLAIM of a cleat that no queued CLAIM names takes a place of its own. -/
theorem State.enqueue_claim {s : State} {x : Cleat} (unnamed : ∀ g ∈ s.line.queue, ∀ b u, g.frame ≠ .claim x b u)
    (room : s.line.queue.length < 6) (b : BinNo) (w : Word16) : s.enqueue (.claim x b w) =
      (s.setQueue (insertFrame (.fresh (.claim x b (s.claimUsed b))) s.line.queue), .queued) := by
  have unlike : s.queuedLike (.claim x b (s.claimUsed b)) = none := by
    refine List.find?_eq_none.mpr fun g mem => ?_
    rw [Frame.sameSlot_iff]
    rintro ⟨kind, subject⟩
    have other := unnamed g mem
    cases frame : g.frame <;> rw [frame] at kind subject other <;> simp_all [Frame.kind, Frame.subject]
  have places : s.queueFullFor (.claim) = false := decide_eq_false (Nat.not_le.mpr room)
  have filled : s.fill (.claim x b w) = .claim x b (s.claimUsed b) := rfl
  unfold State.enqueue
  dsimp only
  rw [filled, unlike]
  exact if_neg (by
    have kind : (Frame.claim x b (s.claimUsed b)).kind = .claim := rfl
    rw [kind, places]
    nofun)

/-- The CLAIM of the chosen cleat is queued, and the head's link is QUEUED. -/
def State.claimCleat (s : State) (x : Cleat) (d : BinNo) : State :=
  (s.setQueue (insertFrame (.fresh (.claim x d (s.claimUsed d))) s.line.queue)).mapHead fun h =>
    { h with link := .queued, cleat := some x }

section Choose
variable {s : State} {h : Container} {d : BinNo} (bin : h.bin = some d) {c x : Cleat}
include bin

theorem State.choose_of_chosen (passes : s.binPasses d = true) (room : s.line.queue.length < 6)
    (chosen : s.chosenCleat c = some x) (unnamed : ∀ g ∈ s.line.queue, ∀ b u, g.frame ≠ .claim x b u) :
    s.choose c h = s.claimCleat x d := by
  unfold State.choose
  rw [bin, chosen]
  dsimp only
  rw [if_pos passes, State.enqueue_claim unnamed room]
  rfl

theorem State.choose_of_unchosen (unchosen : s.chosenCleat c = none) : s.choose c h = s := by
  unfold State.choose
  rw [bin, unchosen]

theorem State.choose_of_held (held : s.binPasses d = false) (c : Cleat) : s.choose c h = s := by
  cases chosen : s.chosenCleat c with
  | none => exact State.choose_of_unchosen bin chosen
  | some x =>
    unfold State.choose
    rw [bin, chosen]
    exact if_neg (by rw [held]; nofun)

/-- A head that may choose queues the CLAIM of the first cleat that qualifies, or waits where none does. -/
theorem State.choose_claims {rest : List Container} (bounds : s.host.cfg.MeetsBounds) (hold : s.path.hold = h :: rest)
    (passes : s.binPasses d = true) (room : s.line.queue.length < 6) (c : Cleat) :
    (s.choose c h).claimsFor s.host.cfg c rest d h := by
  cases chosen : s.chosenCleat c with
  | none =>
    rw [State.choose_of_unchosen bin chosen]
    exact .inr ⟨hold, State.chosenCleat_none chosen⟩
  | some x =>
    obtain ⟨low, high, ⟨free, unnamed, behind⟩, earlier⟩ := State.chosenCleat_some bounds chosen
    rw [State.choose_of_chosen bin passes room chosen unnamed]
    have held : (s.claimCleat x d).path.hold = { h with link := .queued, cleat := some x } :: rest :=
      congrArg Path.hold (State.mapHead_cons (s := s.setQueue (insertFrame (.fresh (.claim x d (s.claimUsed d)))
        s.line.queue)) hold _)
    have kept : Changes [.hold] (s.setQueue (insertFrame (.fresh (.claim x d (s.claimUsed d))) s.line.queue))
        (s.claimCleat x d) := State.mapHead_changes _ _
    have queue : (s.claimCleat x d).line.queue = insertFrame (.fresh (.claim x d (s.claimUsed d))) s.line.queue :=
      kept.keeps .queue
    have claims : (s.claimCleat x d).path.claims = s.path.claims := kept.keeps .claims
    have entry (y : Cleat) : (s.claimCleat x d).entryAt y = s.entryAt y := kept.entryAt y
    have own (y : Cleat) : (s.claimCleat x d).ownClaim y = s.ownClaim y := kept.ownClaim y
    generalize s.claimCleat x d = t at held queue claims entry own
    refine .inl ⟨x, held, ⟨.fresh (.claim x d (s.claimUsed d)), ?_, _, rfl⟩, (entry x).trans free, low, high,
      fun y r mem claimed => behind y r (claims ▸ mem) ((own y).symm.trans claimed), fun n above below fits => ?_⟩
    · rw [queue]
      exact mem_insertFrame.mpr (.inl rfl)
    · obtain ⟨free, unnamed, behind⟩ := fits
      refine earlier n above below ⟨(entry _).symm.trans free, fun g mem => unnamed g ?_, fun y r mem claimed =>
        behind y r (claims ▸ mem) ((own y).trans claimed)⟩
      rw [queue]
      exact mem_insertFrame.mpr (.inr mem)

end Choose

/-- What follows the choice leaves it as it is. -/
theorem State.claimsFor.kept {ps : List Part} {s t : State} {cfg : Configuration} {c : Cleat} {rest : List Container}
    {d : BinNo} {h : Container} (claims : s.claimsFor cfg c rest d h) (changes : Changes ps s t)
    (out : ∀ p ∈ [Part.map, .queue, .claims, .hold, .cfg], p ∉ ps := by simp [NoticeDetail.kind]) :
    t.claimsFor cfg c rest d h := by
  have queue : t.line.queue = s.line.queue := changes .queue (out _ (by simp))
  have listed : t.path.claims = s.path.claims := changes .claims (out _ (by simp))
  have hold : t.path.hold = s.path.hold := changes .hold (out _ (by simp))
  have entry : t.entryAt = s.entryAt := funext fun x => changes.entryAt x (out _ (by simp))
  have own : t.ownClaim = s.ownClaim := funext fun x => changes.ownClaim x (out _ (by simp)) (out _ (by simp))
  simpa only [State.claimsFor, State.fits, queue, listed, hold, entry, own] using claims

end Machine
end Sys2Proof
end

section
/-! PROOF. O16, the CLAIMING head at a mark: the hold wait, the overflow route and the CLAIM (02 R45, 03 R48 to R51). -/
set_option Elab.async false
namespace Sys2Proof
namespace Machine

theorem Changes.roleClaims {ps : List Part} {s t : State} (h : Changes ps s t)
    (map : .map ∉ ps := by simp [NoticeDetail.kind]) (claims : .claims ∉ ps := by simp [NoticeDetail.kind])
    (cfg : .cfg ∉ ps := by simp [NoticeDetail.kind]) : t.roleClaims = s.roleClaims := by
  have listed : t.path.claims = s.path.claims := h .claims claims
  have own : t.ownClaim = s.ownClaim := funext fun x => h.ownClaim x map cfg
  simp only [State.roleClaims, listed, own]

theorem Changes.binPasses {ps : List Part} {s t : State} (h : Changes ps s t)
    (used : .used ∉ ps := by simp [NoticeDetail.kind]) (states : .binStates ∉ ps := by simp [NoticeDetail.kind])
    (map : .map ∉ ps := by simp [NoticeDetail.kind]) (cfg : .cfg ∉ ps := by simp [NoticeDetail.kind]) (b : BinNo) :
    t.binPasses b = s.binPasses b := by
  rw [Bool.eq_iff_iff, State.binPasses_iff, State.binPasses_iff, h.used used b, h.binState states b, h.claimedCount map b,
    (h.capacity cfg b).1]

-- What keeps the head from its bin (03 R50, R51)

section Cause
variable {s : State} {b : BinNo}

/-- The line takes a CLAIM. -/
def State.lineTakes (s : State) : Prop := s.line.condition ≠ .stuck ∧ s.line.driver ≠ .faulted

theorem State.full_of_passes (passes : s.binPasses b = true) : s.full b = false := by
  rcases (s.binPasses_iff b).mp passes with rfl | ⟨_, u, used, fits⟩
  · unfold State.full
    cases s.usedOf 0 <;> simp
  · simp only [State.full, State.usedOf, used]
    have low : ¬s.capacityOf b ≤ u + s.claimedCount b := by omega
    simp [low]

theorem State.waitCause_gated (gated : b ≠ 0) : s.waitCause b =
    if s.bins[b].state ≠ .opened then some .held
    else if s.bins[b].used = none then some .unknown
    else if s.full b = true then some .full
    else if s.line.condition = .stuck ∨ s.line.driver = .faulted then some .noLine else none := by
  unfold State.waitCause
  have zero : ¬b.val = 0 := fun same => gated (Fin.ext same)
  rw [if_neg zero]
  simp only [bne_iff_ne, State.usedOf, Option.isNone_iff_eq_none, Bool.or_eq_true, beq_iff_eq]

theorem State.waitCause_none (passes : s.binPasses b = true) (line : b = 0 ∨ s.lineTakes) : s.waitCause b = none := by
  by_cases gated : b = 0
  · subst gated
    exact if_pos rfl
  · obtain ⟨condition, driver⟩ := line.resolve_left gated
    obtain ⟨opened, u, used, _⟩ := ((s.binPasses_iff b).mp passes).resolve_left gated
    rw [State.waitCause_gated gated, if_neg (not_not_intro opened), if_neg (by rw [used]; nofun),
      if_neg (by rw [State.full_of_passes passes]; nofun), if_neg (not_or_intro condition driver)]

section Gated
variable (gated : b ≠ 0)
include gated

theorem State.waitCause_held (held : s.bins[b].state ≠ .opened) :
    s.waitCause b = some .held ∧ s.binPasses b = false := by
  refine ⟨?_, Bool.eq_false_iff.mpr fun passes => held (((s.binPasses_iff b).mp passes).resolve_left gated).1⟩
  rw [State.waitCause_gated gated, if_pos held]

theorem State.waitCause_unknown (opened : s.bins[b].state = .opened) (unknown : s.bins[b].used = none) :
    s.waitCause b = some .unknown ∧ s.binPasses b = false := by
  refine ⟨?_, Bool.eq_false_iff.mpr fun passes => ?_⟩
  · rw [State.waitCause_gated gated, if_neg (not_not_intro opened), if_pos unknown]
  · obtain ⟨_, u, used, _⟩ := ((s.binPasses_iff b).mp passes).resolve_left gated
    rw [unknown] at used
    contradiction

theorem State.waitCause_full (opened : s.bins[b].state = .opened) {u : Nat} (used : s.bins[b].used = some u)
    (full : s.capacityOf b ≤ u + s.claimedCount b) : s.waitCause b = some .full ∧ s.binPasses b = false := by
  refine ⟨?_, Bool.eq_false_iff.mpr fun passes => ?_⟩
  · have filled : s.full b = true := by
      simp only [State.full, State.usedOf, used]
      simp [gated, full]
    rw [State.waitCause_gated gated, if_neg (not_not_intro opened), if_neg (by rw [used]; nofun), if_pos filled]
  · obtain ⟨_, v, used', fits⟩ := ((s.binPasses_iff b).mp passes).resolve_left gated
    rw [used] at used'
    obtain rfl := Option.some.inj used'
    omega

theorem State.waitCause_noLine (passes : s.binPasses b = true) (noLine : ¬s.lineTakes) :
    s.waitCause b = some .noLine := by
  obtain ⟨opened, u, used, _⟩ := ((s.binPasses_iff b).mp passes).resolve_left gated
  have stuck : s.line.condition = .stuck ∨ s.line.driver = .faulted := by
    by_contra none_
    exact noLine (not_or.mp none_)
  rw [State.waitCause_gated gated, if_neg (not_not_intro opened), if_neg (by rw [used]; nofun),
    if_neg (by rw [State.full_of_passes passes]; nofun), if_pos stuck]

end Gated

end Cause

-- The hold wait (03 R50, R51)

section Head
variable {s : State} {h : Container} {rest : List Container} (hold : s.path.hold = h :: rest) {b : BinNo}
  (bin : h.bin = some b)

include bin

theorem State.holdWait_passes (free : s.waitCause b = none) (before : ClaimLink) :
    s.holdWait before h = s.mapHead fun h => { h with holdWait := some 0 } := by
  simp only [State.holdWait, bin, free]

section Waits
variable {cause : OverflowCause} (kept : s.waitCause b = some cause)
include kept

theorem State.holdWait_waits (early : h.holdWait.getD 0 < s.host.cfg.holdWait) (before : ClaimLink) :
    s.holdWait before h = s.mapHead fun h' => { h' with holdWait := some (h.holdWait.getD 0 + 1) } := by
  simp only [State.holdWait, bin, kept]
  exact if_pos early

theorem State.holdWait_overflows (late : ¬h.holdWait.getD 0 < s.host.cfg.holdWait) (link : h.link = .none) :
    s.holdWait .none h =
      (s.mapHead fun h => { h with bin := some 0, holdWait := some 0 }).raise (.overflowRoute h.tag b cause) := by
  simp only [State.holdWait, bin, kept]
  rw [if_neg late]
  exact if_pos ⟨link, trivial⟩

end Waits

include hold

/-- A head that was linked as the mark was taken only waits. -/
theorem State.holdWait_linked {before : ClaimLink} (linked : before ≠ .none) : Changes [.hold] s (s.holdWait before h)
    ∧ ∃ wait, (s.holdWait before h).path.hold = { h with holdWait := wait } :: rest := by
  have waits (f : Container → Container) (wait : Option Nat) (same : f h = { h with holdWait := wait }) :
      Changes [.hold] s (s.mapHead f) ∧ ∃ wait, (s.mapHead f).path.hold = { h with holdWait := wait } :: rest :=
    ⟨s.mapHead_changes f, wait, same ▸ congrArg Path.hold (State.mapHead_cons hold f)⟩
  cases cause : s.waitCause b with
  | none =>
    rw [State.holdWait_passes bin cause]
    exact waits _ _ rfl
  | some cause' =>
    by_cases early : h.holdWait.getD 0 < s.host.cfg.holdWait
    · rw [State.holdWait_waits bin cause early]
      exact waits _ _ rfl
    · have still : s.holdWait before h = s := by
        simp only [State.holdWait, bin, cause]
        rw [if_neg early]
        exact if_neg fun h => linked h.2
      rw [still]
      exact ⟨.refl _ s, h.holdWait, hold⟩

end Head

-- The CLAIMING head (03 R48)

theorem State.claimingHead_eq {s v : State} {before : ClaimLink} {h h' : Container} {rest : List Container}
    (waited : s.holdWait before h = v) (hold : v.path.hold = h' :: rest) (c : Cleat) :
    s.claimingHead c before h = if v.mayChoose before h' then v.choose c h' else v := by
  have head : v.head = some h' := by simp [State.head, hold]
  simp only [State.claimingHead, waited, head]

theorem State.claimingHead_linked {s : State} {before : ClaimLink} (linked : before ≠ .none) {h : Container}
    {rest : List Container} (hold : s.path.hold = h :: rest) {b : BinNo} (bin : h.bin = some b) (c : Cleat) :
    Changes [.hold] s (s.claimingHead c before h)
      ∧ ∃ wait, (s.claimingHead c before h).path.hold = { h with holdWait := wait } :: rest := by
  have waited := State.holdWait_linked hold bin linked
  obtain ⟨changes, wait, held⟩ := waited
  have same : s.claimingHead c before h = s.holdWait before h := by
    rw [State.claimingHead_eq rfl held]
    exact if_neg (by cases before <;> simp_all [State.mayChoose])
  rw [same]
  exact ⟨changes, wait, held⟩

theorem State.mayChoose_iff (s : State) (h : Container) : s.mayChoose .none h = true ↔
    h.stage = .claiming ∧ h.link = .none ∧ s.roleClaims.length < 2 := by
  simp [State.mayChoose, and_assoc]

theorem State.choose_head {s : State} {h : Container} {rest : List Container} (hold : s.path.hold = h :: rest) (c : Cleat) :
    ∃ h', (s.choose c h).path.hold = h' :: rest ∧ h'.bin = h.bin ∧ h'.holdWait = h.holdWait := by
  unfold State.choose
  split
  next b x _ _ =>
    split
    · have taken := s.enqueue_changes (.claim x b (s.claimUsed b))
      split
      next t eq =>
        rw [eq] at taken
        exact ⟨_, congrArg Path.hold (State.mapHead_cons ((taken.keeps .hold).trans hold) _), rfl, rfl⟩
      · exact ⟨h, hold, rfl, rfl⟩
    · exact ⟨h, hold, rfl, rfl⟩
  · exact ⟨h, hold, rfl, rfl⟩

section Claiming
variable {s : State} {h : Container} {rest : List Container}

/-- A head that may choose and whose bin passes claims the first cleat that qualifies. -/
theorem State.claimingHead_claims {v : State} {h' : Container} {d : BinNo} (waited : s.holdWait .none h = v)
    (hold : v.path.hold = h' :: rest) (stage : h'.stage = .claiming) (link : h'.link = .none) (bin : h'.bin = some d)
    (bounds : v.host.cfg.MeetsBounds) (passes : v.binPasses d = true) (few : v.roleClaims.length < 2)
    (room : v.line.queue.length < 6) (c : Cleat) : (s.claimingHead c .none h).claimsFor v.host.cfg c rest d h' := by
  rw [State.claimingHead_eq waited hold, if_pos ((State.mayChoose_iff v h').mpr ⟨stage, link, few⟩)]
  exact State.choose_claims bin bounds hold passes room c

/-- The head as the hold wait leaves it. -/
theorem State.mapHead_waits (hold : s.path.hold = h :: rest) (f : Container → Container) :
    Changes [.hold] s (s.mapHead f) ∧ (s.mapHead f).path.hold = f h :: rest :=
  ⟨s.mapHead_changes f, congrArg Path.hold (State.mapHead_cons hold f)⟩

variable (hold : s.path.hold = h :: rest) {b : BinNo} (bin : h.bin = some b) (c : Cleat)
include hold bin

/-- A head whose bin and line are free chooses, where fewer than two own claims are in a role. -/
theorem State.claimingHead_chooses (stage : h.stage = .claiming) (link : h.link = .none)
    (bounds : s.host.cfg.MeetsBounds) (passes : s.binPasses b = true) (free : s.waitCause b = none)
    (few : s.roleClaims.length < 2) (room : s.line.queue.length < 6) :
    (s.claimingHead c .none h).claimsFor s.host.cfg c rest b { h with holdWait := some 0 } := by
  obtain ⟨kept, held⟩ := State.mapHead_waits hold fun h => { h with holdWait := some 0 }
  have cfg := kept.config
  have claims := State.claimingHead_claims (State.holdWait_passes bin free .none) held stage link bin (by rwa [cfg])
    (by rwa [kept.binPasses]) (by rwa [kept.roleClaims]) (kept.queueLength.trans_lt room) c
  rwa [cfg] at claims

theorem State.claimingHead_rests (free : s.waitCause b = none) (many : 2 ≤ s.roleClaims.length) :
    (s.claimingHead c .none h).path.hold = { h with holdWait := some 0 } :: rest := by
  obtain ⟨kept, held⟩ := State.mapHead_waits hold fun h => { h with holdWait := some 0 }
  rw [State.claimingHead_eq (State.holdWait_passes bin free .none) held, if_neg fun may => ?_]
  · exact held
  · obtain ⟨_, _, few⟩ := (State.mayChoose_iff ..).mp may
    rw [kept.roleClaims] at few
    omega

section Waiting
variable {cause : OverflowCause} (kept : s.waitCause b = some cause)
include kept

/-- Before the overflow point a head only waits for a bin that does not pass (03 R51). -/
theorem State.claimingHead_waits (held : s.binPasses b = false) (early : h.holdWait.getD 0 < s.host.cfg.holdWait) :
    (s.claimingHead c .none h).path.hold = { h with holdWait := some (h.holdWait.getD 0 + 1) } :: rest := by
  obtain ⟨changes, waits⟩ := State.mapHead_waits hold fun h' => { h' with holdWait := some (h.holdWait.getD 0 + 1) }
  rw [State.claimingHead_eq (State.holdWait_waits bin kept early .none) waits,
    State.choose_of_held (h := { h with holdWait := some (h.holdWait.getD 0 + 1) }) bin (by rwa [changes.binPasses]),
    ite_self]
  exact waits

/-- Before the overflow point the hold-wait count rises, for a bin that passes too. -/
theorem State.claimingHead_counts (early : h.holdWait.getD 0 < s.host.cfg.holdWait) : ∃ h',
    (s.claimingHead c .none h).path.hold = h' :: rest ∧ h'.bin = some b
      ∧ h'.holdWait = some (h.holdWait.getD 0 + 1) := by
  obtain ⟨_, waits⟩ := State.mapHead_waits hold fun h' => { h' with holdWait := some (h.holdWait.getD 0 + 1) }
  rw [State.claimingHead_eq (State.holdWait_waits bin kept early .none) waits]
  split
  · obtain ⟨h', held, bin', wait⟩ := State.choose_head waits c
    exact ⟨h', held, bin'.trans bin, wait⟩
  · exact ⟨_, waits, bin, rfl⟩

section Late
variable (late : ¬h.holdWait.getD 0 < s.host.cfg.holdWait) (link : h.link = .none)
include late link

/-- At the overflow point the head is switched to bin 0 with OVERFLOW ROUTE (03 R51). -/
theorem State.claimingHead_overflows : (s.claimingHead c .none h).noticeOf .overflowRoute =
      some (.overflowRoute h.tag b cause)
    ∧ ∃ h', (s.claimingHead c .none h).path.hold = h' :: rest ∧ h'.bin = some 0 ∧ h'.holdWait = some 0 := by
  obtain ⟨_, waits⟩ := State.mapHead_waits hold fun h => { h with bin := some 0, holdWait := some 0 }
  have told := State.raise_noticeOf (k := .overflowRoute)
    (s.mapHead fun h => { h with bin := some 0, holdWait := some 0 }) (.overflowRoute h.tag b cause) rfl
  have raised : ((s.mapHead fun h => { h with bin := some 0, holdWait := some 0 }).raise
    (.overflowRoute h.tag b cause)).path.hold = _ := waits
  rw [State.claimingHead_eq (State.holdWait_overflows bin kept late link) raised]
  split
  · obtain ⟨h', held, bin', wait⟩ := State.choose_head raised c
    exact ⟨(congrArg NoticeRecord.detail ((State.choose_changes _ c _).keeps (.notice .overflowRoute))).trans told, h', held,
      bin', wait⟩
  · exact ⟨told, _, raised, rfl, rfl⟩

theorem State.claimingHead_reroutes (stage : h.stage = .claiming) (bounds : s.host.cfg.MeetsBounds)
    (few : s.roleClaims.length < 2) (room : s.line.queue.length < 6) :
    (s.claimingHead c .none h).claimsFor s.host.cfg c rest 0 { h with bin := some 0, holdWait := some 0 } := by
  obtain ⟨changes, waits⟩ := State.mapHead_waits hold fun h => { h with bin := some 0, holdWait := some 0 }
  have changes := changes.andThen (State.raise_changes _ (.overflowRoute h.tag b cause) (k := .overflowRoute))
    (rs := [.hold, .notice .overflowRoute])
  have raised : ((s.mapHead fun h => { h with bin := some 0, holdWait := some 0 }).raise
    (.overflowRoute h.tag b cause)).path.hold = _ := waits
  have cfg := changes.config
  have claims := State.claimingHead_claims (State.holdWait_overflows bin kept late link) raised stage link rfl (by rwa [cfg])
    ((State.binPasses_iff _ 0).mpr (.inl rfl)) (by rwa [changes.roleClaims]) (changes.queueLength.trans_lt room) c
  rwa [cfg] at claims

end Late
end Waiting
end Claiming

end Machine
end Sys2Proof
end

section
/-! PROOF. O16, the CLAIMING head's queued CLAIM (02 R45), and the statement (03 R48 to R51). -/
set_option Elab.async false
namespace Sys2Proof
namespace Machine

-- The entry check leaves the queued CLAIMs

/-- A CLAIM stays in the queue through a frame of another kind. -/
theorem State.queueFrame_keeps_claim {s : State} {f : Frame} (other : f.kind ≠ .claim) {g : QueuedFrame}
    (mem : g ∈ s.line.queue) (kind : g.frame.kind = .claim) : g ∈ (s.queueFrame f).line.queue := by
  refine (s.queueFrame_gives f).kept g mem ?_
  rw [← Bool.not_eq_true, Frame.sameSlot_iff, kind, (s.fill_slot f).1]
  exact fun same => other same.1.symm

theorem State.entryCheck_keeps_claim {s : State} (item : Bool) {g : QueuedFrame} (mem : g ∈ s.line.queue)
    (kind : g.frame.kind = .claim) : g ∈ (s.entryCheck item).line.queue := by
  unfold State.entryCheck
  split
  next c _ =>
    split
    · split
      · exact State.queueFrame_keeps_claim (f := .stray c) nofun mem kind
      · split
        · unfold State.unexpectedClaim
          split
          · exact mem
          · have queue : ((s.queueFrame (.release c)).enterGivenUp c).line.queue = (s.queueFrame (.release c)).line.queue :=
              (State.enterGivenUp_changes _ c).keeps .queue
            change g ∈ ((s.queueFrame (.release c)).enterGivenUp c).line.queue
            rw [queue]
            exact State.queueFrame_keeps_claim (f := .release c) nofun mem kind
        · exact mem
      all_goals exact mem
    · exact mem
  · exact mem

-- The withdrawal of a stale CLAIM (02 R45)

theorem State.staleClaim_iff (s : State) (c x : Cleat) (b : BinNo) (u : Word16) : s.staleClaim c (.claim x b u) = true ↔
    (x - c).toNat ≤ s.host.cfg.commitLead ∨ s.host.cfg.maxLead < (x - c).toNat := by
  simp [State.staleClaim]

/-- The cleats of the CLAIMs that are withdrawn. -/
def State.withdrawnCleats (s : State) (c : Cleat) : List Cleat :=
  (s.line.queue.filter fun g => g.phase == .waiting && s.staleClaim c g.frame).filterMap fun g => g.frame.cleat?

theorem State.withdrawClaims_eq (s : State) (c : Cleat) :
    s.withdrawClaims c = (s.withdrawnCleats c).foldl State.dropClaim (s.withdraw (s.staleClaim c)) := rfl

theorem State.withdrawClaims_queue (s : State) (c : Cleat) : (s.withdrawClaims c).line.queue =
    s.line.queue.filter fun g => !(g.phase == .waiting && s.staleClaim c g.frame) := by
  have dropped (l : List Cleat) (u : State) : Changes [.hold] u (l.foldl State.dropClaim u) :=
    .foldl _ (fun u x => u.dropClaim_changes x) l u
  exact (dropped _ _).keeps .queue

theorem State.mem_withdrawnCleats {s : State} {c x : Cleat} : x ∈ s.withdrawnCleats c ↔
    ∃ g ∈ s.line.queue, g.phase = .waiting ∧ (∃ b u, g.frame = .claim x b u)
      ∧ ((x - c).toNat ≤ s.host.cfg.commitLead ∨ s.host.cfg.maxLead < (x - c).toNat) := by
  rw [State.withdrawnCleats, List.mem_filterMap]
  refine exists_congr fun g => ?_
  rw [List.mem_filter, and_assoc]
  refine and_congr_right fun _ => ?_
  cases frame : g.frame with
  | claim y b u =>
    rw [Bool.and_eq_true, beq_iff_eq, State.staleClaim_iff, and_assoc]
    refine and_congr_right fun _ => ?_
    have named : Frame.cleat? (.claim y b u) = some y := rfl
    rw [named, Option.some_inj]
    constructor
    · rintro ⟨stale, rfl⟩
      exact ⟨⟨b, u, rfl⟩, stale⟩
    · rintro ⟨⟨_, _, same⟩, stale⟩
      obtain ⟨rfl, _⟩ := Frame.claim.inj same
      exact ⟨stale, rfl⟩
  | _ => simp [State.staleClaim]

/-- A head with a queued CLAIM chooses again where that CLAIM is withdrawn. -/
theorem State.dropClaims_head {x : Cleat} {h : Container} {rest : List Container} (link : h.link = .queued)
    (cleat : h.cleat = some x) (l : List Cleat) {s : State} (hold : s.path.hold = h :: rest) :
    (l.foldl State.dropClaim s).path.hold = (if x ∈ l then h.unlinked h.holdWait else h) :: rest := by
  have settled (l : List Cleat) (u : State) (hold : u.path.hold = h.unlinked h.holdWait :: rest) :
      l.foldl State.dropClaim u = u := by
    induction l with
    | nil => rfl
    | cons y l ih =>
      have same : u.dropClaim y = u := State.mapHead_same hold (if_neg (by simp [Container.unlinked]))
      rw [List.foldl_cons, same, ih]
  induction l generalizing s with
  | nil => simpa using hold
  | cons y l ih =>
    rw [List.foldl_cons]
    by_cases same : x = y
    · subst same
      have dropped : (s.dropClaim x).path.hold = h.unlinked h.holdWait :: rest := by
        refine (congrArg Path.hold (State.mapHead_cons hold _)).trans ?_
        simp [link, cleat]
      rw [settled l _ dropped, dropped, if_pos List.mem_cons_self]
    · have kept : s.dropClaim y = s := State.mapHead_same hold (if_neg (by simp [link, cleat, same]))
      rw [kept, ih hold]
      simp [same]

section Withdraw
variable {s : State} {h : Container} {rest : List Container} {x : Cleat} (hold : s.path.hold = h :: rest)
  (link : h.link = .queued) (cleat : h.cleat = some x) {c : Cleat} {g : QueuedFrame} (mem : g ∈ s.line.queue)
  {b : BinNo} {u : Word16} (frame : g.frame = .claim x b u) (waiting : g.phase = .waiting)
include hold link cleat

theorem State.withdrawClaims_head : (s.withdrawClaims c).path.hold =
    (if x ∈ s.withdrawnCleats c then h.unlinked h.holdWait else h) :: rest := by
  rw [State.withdrawClaims_eq]
  exact State.dropClaims_head link cleat _ hold

include mem frame waiting

/-- A stale CLAIM leaves the queue, and its head is not linked any more. -/
theorem State.withdrawClaims_stale (stale : (x - c).toNat ≤ s.host.cfg.commitLead ∨ s.host.cfg.maxLead < (x - c).toNat) :
    (s.withdrawClaims c).path.hold = h.unlinked h.holdWait :: rest
      ∧ ∀ f ∈ (s.withdrawClaims c).line.queue, f.phase = .waiting → ∀ d v, f.frame ≠ .claim x d v := by
  refine ⟨?_, fun f mem waits d v same => ?_⟩
  · rw [State.withdrawClaims_head hold link cleat, if_pos (State.mem_withdrawnCleats.mpr ⟨g, mem, waiting, ⟨b, u, frame⟩, stale⟩)]
  · rw [State.withdrawClaims_queue, List.mem_filter, same, waits] at mem
    simp [(s.staleClaim_iff c x d v).mpr stale] at mem

omit waiting in
/-- Any other CLAIM stays, and so does its head. -/
theorem State.withdrawClaims_fresh (near : s.host.cfg.commitLead < (x - c).toNat) (far : (x - c).toNat ≤ s.host.cfg.maxLead) :
    (s.withdrawClaims c).path.hold = h :: rest ∧ g ∈ (s.withdrawClaims c).line.queue := by
  have fresh : ¬((x - c).toNat ≤ s.host.cfg.commitLead ∨ s.host.cfg.maxLead < (x - c).toNat) := by omega
  refine ⟨?_, ?_⟩
  · rw [State.withdrawClaims_head hold link cleat, if_neg fun gone => ?_]
    obtain ⟨_, _, _, _, stale⟩ := State.mem_withdrawnCleats.mp gone
    exact fresh stale
  · rw [State.withdrawClaims_queue, List.mem_filter, frame]
    have kept : s.staleClaim c (.claim x b u) = false := Bool.eq_false_iff.mpr fun stale =>
      fresh ((s.staleClaim_iff c x b u).mp stale)
    exact ⟨mem, by simp [kept]⟩

end Withdraw

-- The mark of a CLAIMING head at a station without sort duty

/-- What a mark writes before the head, where there is no transfer and no sort duty. -/
@[simp] def claimMarkParts : List Part := beforeCheckParts ++ checkParts

/-- The state in which a mark comes to the queued CLAIM and the head. -/
structure State.ComesTo (s e : State) (c : Cleat) : Prop where
  changes : Changes claimMarkParts s e
  current : e.belt.current = some c
  length : e.line.queue.length ≤ s.line.queue.length + 1
  claims : ∀ g ∈ s.line.queue, g.frame.kind = .claim → g ∈ e.line.queue

theorem State.mark_comesTo {s : State} {c : Cleat} (member : s.member = .synced) (brings : s.belt.brings false c)
    (noDuty : s.host.cfg.sortDuty = 0) (empty : s.path.transfer = none) (item : Bool) : ∃ e, s.ComesTo e c
      ∧ exec (.pitchMark item) s = .next (((e.withdrawClaims c).headWork c s.headLink).markEnded false) := by
  obtain ⟨u, clears, _, runs⟩ := State.mark_checks brings (State.online_of_synced member)
    (fun r some_ => by rw [empty] at some_; contradiction) item
  have checked := u.entryCheck_changes item
  have whole := clears.changes.andThen checked (rs := claimMarkParts)
  have current : (u.entryCheck item).belt.current = some c :=
    (congrArg Belt.current (checked.keeps .belt)).trans clears.current
  have still : (u.entryCheck item).gateWork = u.entryCheck item :=
    if_neg (by simp [Configuration.hasSortDuty, whole.config, noDuty])
  refine ⟨u.entryCheck item, ⟨whole, current, clears.queue ▸ u.entryCheck_length item, fun g mem kind =>
    State.entryCheck_keeps_claim item (by rwa [clears.queue]) kind⟩, ?_⟩
  rw [still] at runs
  simpa only [State.claimWork, current, mark, Bool.false_eq_true, if_false] using runs

theorem State.headWork_claims {s : State} {h : Container} {rest : List Container} (hold : s.path.hold = h :: rest)
    (stage : h.stage = .claiming) (synced : s.member = .synced) (c : Cleat) (before : ClaimLink) :
    s.headWork c before = s.claimingHead c before h := by
  have head : s.head = some h := by simp [State.head, hold]
  simp only [State.headWork, head]
  rw [if_neg (by rw [stage]; nofun)]
  exact if_pos (by simp [State.synced, synced, stage])

/-- What follows the head at a station that is SYNCED. -/
theorem State.markEnded_synced {s : State} (synced : s.member = .synced) (home : Bool) :
    Changes (.doze :: startParts) s (s.markEnded home) := by
  have ended := s.markEnded_after home
  rwa [State.revolved_synced synced] at ended

/-- What a CLAIMING head without a link finds, and what follows it. -/
structure State.ChoosesAt (s w t : State) (c : Cleat) (h : Container) (rest : List Container) : Prop where
  before : Changes (claimMarkParts ++ [.queue]) s w
  hold : w.path.hold = h :: rest
  length : w.line.queue.length ≤ s.line.queue.length + 1
  after : Changes (.doze :: startParts) (w.claimingHead c .none h) t

theorem State.ComesTo.chooses {s e : State} {c : Cleat} (comes : s.ComesTo e c) (member : s.member = .synced) {h : Container}
    {rest : List Container} (hold : s.path.hold = h :: rest) (stage : h.stage = .claiming) (link : h.link = .none) :
    s.ChoosesAt (e.withdrawClaims c) (((e.withdrawClaims c).headWork c h.link).markEnded false) c h rest := by
  rw [link]
  have held : e.path.hold = h :: rest := (comes.changes.keeps .hold).trans hold
  have withdrawn := State.withdrawClaims_linked held (by rw [link]; nofun) c
  have length := (e.withdrawClaims_length c).trans comes.length
  have before := comes.changes.andThen withdrawn (rs := claimMarkParts ++ [.queue])
  generalize e.withdrawClaims c = w at withdrawn length before
  have kept : w.path.hold = h :: rest := (withdrawn.keeps .hold).trans held
  have synced : w.member = .synced := (before.keeps .member).trans member
  rw [State.headWork_claims kept stage synced]
  refine ⟨before, kept, length, State.markEnded_synced ?_ false⟩
  exact ((w.claimingHead_changes c .none h).keeps .member).trans synced

namespace State.ChoosesAt
variable {s w t : State} {c : Cleat} {h : Container} {rest : List Container} (chooses : s.ChoosesAt w t c h rest)
include chooses

theorem whole : Changes (.queue :: .hold :: .notice .overflowRoute :: .doze :: startParts) w t :=
  (w.claimingHead_changes c .none h).andThen chooses.after

theorem roleClaims : t.roleClaims = w.roleClaims := chooses.whole.roleClaims

theorem claimedCount (b : BinNo) : t.claimedCount b = w.claimedCount b := chooses.whole.claimedCount (b := b)

theorem lineTakes_iff : w.lineTakes ↔ s.line.condition ≠ .stuck ∧ s.line.driver ≠ .faulted := by
  have body := chooses.before.keeps .lineBody
  have condition : w.line.condition = s.line.condition := by
    have same := congrArg Line.condition body
    exact same
  have driver : w.line.driver = s.line.driver := by
    have same := congrArg Line.driver body
    exact same
  rw [State.lineTakes, condition, driver]

/-- What the head finds of a bin is what stood at the start of the mark, but for the claims. -/
theorem bin (b : BinNo) : w.bins[b].state = s.bins[b].state ∧ w.bins[b].used = s.bins[b].used
    ∧ w.capacityOf b = s.capacityOf b :=
  ⟨chooses.before.binState (b := b), chooses.before.used (b := b), (chooses.before.capacity (b := b)).1⟩

theorem passes_iff (b : BinNo) : w.binPasses b = true ↔ b = 0 ∨ (s.bins[b].state = .opened
    ∧ ∃ u, s.bins[b].used = some u ∧ u + t.claimedCount b + 1 ≤ s.capacityOf b) := by
  obtain ⟨state, used, capacity⟩ := chooses.bin b
  rw [State.binPasses_iff, state, used, capacity, chooses.claimedCount]

theorem config : w.host.cfg = s.host.cfg := chooses.before.config

theorem head {l : List Container} (found : (w.claimingHead c .none h).path.hold = l) : t.path.hold = l :=
  (chooses.after.keeps .hold).trans found

theorem claims {d : BinNo} {h' : Container} (found : (w.claimingHead c .none h).claimsFor w.host.cfg c rest d h') :
    t.claimsFor s.host.cfg c rest d h' := by
  rw [← chooses.config]
  exact found.kept chooses.after

theorem room (few : s.line.queue.length < 5) : w.line.queue.length < 6 := by
  have := chooses.length
  omega

/-- A head that something keeps from its bin waits, and overflows at the overflow point (03 R51). -/
theorem turnedAway {b : BinNo} (bin : h.bin = some b) (stage : h.stage = .claiming) (link : h.link = .none)
    (bounds : s.host.cfg.MeetsBounds) {cause : OverflowCause} (kept : w.waitCause b = some cause ∧ w.binPasses b = false) :
    (h.holdWait.getD 0 < s.host.cfg.holdWait →
      t.path.hold = { h with holdWait := some (h.holdWait.getD 0 + 1) } :: rest)
    ∧ (¬h.holdWait.getD 0 < s.host.cfg.holdWait →
      t.noticeOf .overflowRoute = some (.overflowRoute h.tag b cause)
      ∧ (t.roleClaims.length < 2 ∧ s.line.queue.length < 5 →
        t.claimsFor s.host.cfg c rest 0 { h with bin := some 0, holdWait := some 0 })) := by
  obtain ⟨kept, held⟩ := kept
  rw [← chooses.config]
  refine ⟨fun early => chooses.head (State.claimingHead_waits chooses.hold bin c kept held early), fun late => ⟨?_, ?_⟩⟩
  · have told := (State.claimingHead_overflows chooses.hold bin c kept late link).1
    exact (congrArg NoticeRecord.detail (chooses.after.keeps (.notice .overflowRoute))).trans told
  · rintro ⟨few, places⟩
    have found := State.claimingHead_reroutes chooses.hold bin c kept late link stage (by rwa [chooses.config])
      (by rwa [← chooses.roleClaims]) (chooses.room places)
    rw [chooses.config]
    exact chooses.claims found

end State.ChoosesAt

/-- What a CLAIMING head with a queued CLAIM comes to: the hold wait alone after the withdrawal. -/
theorem State.ComesTo.linked {s e : State} {c : Cleat} (comes : s.ComesTo e c) (member : s.member = .synced)
    {before : ClaimLink} (linked : before ≠ .none) {h' : Container} {rest : List Container} (held : (e.withdrawClaims c).path.hold = h' :: rest) (stage : h'.stage = .claiming) {b : BinNo}
    (bin : h'.bin = some b) :
    (((e.withdrawClaims c).headWork c before).markEnded false).line.queue = (e.withdrawClaims c).line.queue
      ∧ ∃ wait, (((e.withdrawClaims c).headWork c before).markEnded false).path.hold = { h' with holdWait := wait } :: rest := by
  have synced : (e.withdrawClaims c).member = .synced :=
    ((e.withdrawClaims_changes c).keeps .member).trans ((comes.changes.keeps .member).trans member)
  rw [State.headWork_claims held stage synced]
  obtain ⟨changes, wait, hold⟩ := State.claimingHead_linked linked held bin c
  have ended := State.markEnded_synced ((changes.keeps .member).trans synced) false
  exact ⟨(ended.keeps .queue).trans (changes.keeps .queue), wait, (ended.keeps .hold).trans hold⟩

/-- Settles O16. -/
theorem chosenCleatIsTheFirst : Obligations.ChosenCleatIsTheFirst := by
  refine ⟨fun s c bounds => ⟨fun x chosen => State.chosenCleat_some bounds chosen, State.chosenCleat_none⟩, ?_⟩
  intro item s p h rest b member seen early known bounds noDuty empty hold stage bin
  have brings : s.belt.brings false (p + 1) := ⟨fun _ => early, seen, p, known, rfl⟩
  obtain ⟨e, comes, runs⟩ := State.mark_comesTo member brings noDuty empty item
  have linked : s.headLink = h.link := by simp [State.headLink, State.head, hold]
  rw [linked] at runs
  refine ⟨_, runs, ?_⟩
  intro c fits claims room passes line wait turnedAway
  have held : e.path.hold = h :: rest := (comes.changes.keeps .hold).trans hold
  refine ⟨fun link => ?_, fun pre g post x u link cleat queue frame waiting => ?_⟩
  · have chooses := comes.chooses member hold stage link
    obtain ⟨state, used, capacity⟩ := chooses.bin b
    have config := chooses.config
    have free (pass : passes) (open_ : b = 0 ∨ line) := State.waitCause_none ((chooses.passes_iff b).mpr pass)
      (open_.imp_right chooses.lineTakes_iff.mpr)
    refine ⟨fun pass open_ few => ?_, fun pass open_ many => ?_, fun gated out => ?_, fun gated opened unknown => ?_,
      fun u gated opened known full => ?_, fun gated pass stuck => ?_⟩
    · obtain ⟨few, places⟩ := few
      exact chooses.claims (State.claimingHead_chooses chooses.hold bin c stage link (by rwa [config])
        ((chooses.passes_iff b).mpr pass) (free pass open_) (by rwa [← chooses.roleClaims]) (chooses.room places))
    · exact chooses.head (State.claimingHead_rests chooses.hold bin c (free pass open_) (by rwa [← chooses.roleClaims]))
    · exact chooses.turnedAway bin stage link bounds (State.waitCause_held gated (by rwa [state]))
    · exact chooses.turnedAway bin stage link bounds (State.waitCause_unknown gated (by rwa [state]) (by rwa [used]))
    · exact chooses.turnedAway bin stage link bounds (State.waitCause_full gated (by rwa [state]) (by rwa [used])
        (by rwa [capacity, ← chooses.claimedCount]))
    · have kept := State.waitCause_noLine gated ((chooses.passes_iff b).mpr pass) fun takes =>
        stuck (chooses.lineTakes_iff.mp takes)
      by_cases early : h.holdWait.getD 0 < s.host.cfg.holdWait
      · obtain ⟨h', found, bin', wait'⟩ := State.claimingHead_counts chooses.hold bin c kept (by rwa [config])
        exact ⟨h', chooses.head found, fun _ => ⟨bin', wait'⟩, fun late => absurd early late⟩
      · obtain ⟨told, h', found, bin', wait'⟩ :=
          State.claimingHead_overflows chooses.hold bin c kept (by rwa [config]) link
        exact ⟨h', chooses.head found, fun soon => absurd soon early, fun _ => ⟨bin', wait',
          (congrArg NoticeRecord.detail (chooses.after.keeps (.notice .overflowRoute))).trans told⟩⟩
  · have config : e.host.cfg = s.host.cfg := comes.changes.config
    have mem : g ∈ e.line.queue := comes.claims g (by rw [queue]; simp) (by rw [frame]; rfl)
    refine ⟨fun stale => ?_, fun near far => ?_⟩
    · obtain ⟨unlinked, gone⟩ := State.withdrawClaims_stale held link cleat mem frame waiting (by rwa [config])
      obtain ⟨queue', wait', hold'⟩ := comes.linked member (before := h.link) (by rw [link]; nofun) unlinked rfl bin
      rw [queue']
      exact ⟨⟨_, hold', rfl, rfl, rfl⟩, gone⟩
    · obtain ⟨kept, still⟩ := State.withdrawClaims_fresh held link cleat mem frame (by rwa [config]) (by rwa [config])
      obtain ⟨queue', wait', hold'⟩ := comes.linked member (before := h.link) (by rw [link]; nofun) kept stage bin
      rw [queue']
      exact ⟨still, _, hold', link, cleat⟩

end Machine
end Sys2Proof
end
